-- ==== Sys2Proof/Word.lean ====
section
/-!
DEFINITION. The unit of the Nacelle Link and of the Meter Stream: one byte (R179, R170).
-/
namespace Sys2Proof

/-- A byte of a link frame, a response frame or a meter frame. -/
abbrev Byte := BitVec 8

end Sys2Proof
end

