-- ==== Sys2Proof/Syntax.lean ====
section
/-!
DEFINITION. The commands the GA740 takes: one constructor of `Instr` for each row of spec/opcode_table.json, with the
operands the spec's text gives the arrival (the table lists none).
-/
namespace Sys2Proof

/-- The five thermal zones, ZONES indexes 0 to 4 (R99). -/
inductive Zone where
  | conv | gen | xfmr | chop | cab
  deriving DecidableEq, Repr

/-- The two coolant pumps whose flow is supervised (R112). -/
inductive Pump where
  | conv | gen
  deriving DecidableEq, Repr

/-- The six filtered discrete inputs (R175). -/
inductive Line where
  | brakeOpen | mainClosed | flowConv | flowGen | gateFault | backupOnline
  deriving DecidableEq, Repr

/-- The transfer form that LINKSEL selects (R177). -/
inductive LinkForm where
  | fourWire | twoWire
  deriving DecidableEq, Repr

/-- A change at an input pin: one of the six discrete lines, or one of the pins that are read only at a reset (R17,
R19). DESIGN CHOICE (log 7): the straps and WARMSEL change by the same command as the lines; they have no filter. -/
inductive PinChange where
  | line (l : Line) (level : Bool)
  | linksel (form : LinkForm)
  | addr (high : Bool)
  | warmsel (high : Bool)
  deriving DecidableEq, Repr

/-- The reference to a record in an item: one byte in the current table, or a table byte and an index byte (R2). -/
inductive Handle where
  | short (index : Nat)
  | long (table index : Nat)
  deriving DecidableEq, Repr

/-- When a transfer began (R177, R178, R184): in the port's present state, while the port was executing a frame, or
before a release of RESETn that it straddles. -/
inductive TransferStart where
  | fresh | whileExecuting | beforeRelease
  deriving DecidableEq, Repr

/-- One whole transfer at the link pins (R177, R178). `partByte` says that a 4-wire transfer ended inside a byte. -/
inductive Transfer where
  | fourWire (start : TransferStart) (bytes : List Byte) (partByte : Bool)
  | twoWireWrite (start : TransferStart) (address : Nat) (bytes : List Byte)
  | twoWireRead (start : TransferStart) (address : Nat) (length : Nat)
  deriving DecidableEq, Repr

/-- The commands. Link items carry what 10.6-2 gives them (a guard only where R7 allows one); a timer expiry names
the channel, line, slot, zone, pump or record whose timer it is. -/
inductive Instr where
  | linkFrame (t : Transfer)
  | selectTable (table : Nat)
  | readFields (h : Handle) (first count : Nat)
  | writeField (h : Handle) (guard : Option Nat) (field : Nat) (value : Int)
  | openClaim (h : Handle) (priority asked tag : Nat)
  | amendClaim (h : Handle) (guard : Option Nat) (asked : Nat)
  | takeClaim (h : Handle)
  | retireClaim (h : Handle) (guard : Option Nat)
  | beginRoute (h : Handle)
  | segment (kind : Nat) (target : Int) (direction speed dwell : Nat)
  | endRoute
  | abandonRoute
  | runRoute (h : Handle) (guard : Option Nat)
  | stopYaw
  | retireRoute (h : Handle) (guard : Option Nat)
  | restoreYaw (heading : Nat) (twist : Int)
  | charge
  | start
  | stopConverter
  | discharge
  | clearTrip
  | acknowledge (h : Handle) (guard : Option Nat)
  | acknowledgeLine (line : Nat)
  | freeze
  | restart
  | unknownItem (code : Nat) (long guard : Bool)
  | powerUp (resetnAsserted : Bool)
  | powerUpSequenceComplete
  | resetnAssert
  | resetnRelease
  | meterFrame (bytes : List Byte)
  | staleTimerExpiry
  | slowChannelAgeExpiry (channel : Fin 8)
  | rawLineChange (change : PinChange)
  | filterTimerExpiry (line : Line)
  | encoderTransition (a b : Bool)
  | partTimeTick
  | staggerTimerExpiry
  | collectionDeadlineExpiry (slot : Fin 16)
  | recoveryHoldExpiry
  | reconnectionHoldExpiry
  | prechargeTimerExpiry
  | breakerTimerExpiry
  | dischargeTimerExpiry
  | chopperDecayExpiry
  | firstEvaluationTimerExpiry
  | decreaseHoldExpiry (zone : Zone)
  | flowWindowExpiry (pump : Pump)
  | flowLossTimerExpiry (pump : Pump)
  | shortWindowClose
  | longWindowClose
  | claimWaitExpiry
  | releaseTimerExpiry
  | idleTimerExpiry
  | budgetTimerExpiry
  | settleTimerExpiry
  | applyTimerExpiry
  | dwellTimerExpiry
  | onsetDelayExpiry (record : Fin 32)
  | repeatIntervalExpiry (record : Fin 32)
  deriving DecidableEq, Repr

end Sys2Proof
end

