-- ==== Sys2Proof/Decode.lean ====
section
/-!
DEFINITION. Bytes: the CRC-8, multi-byte values, the items of a request frame with an encoder beside the parser, and
`decodeTableWord` (no row of the opcode table gives bits).
-/
namespace Sys2Proof

/-! ### CRC-8 (R170, R179) -/

/-- One bit of the CRC-8 with the polynomial x⁸ + x² + x + 1. -/
def crcBit (c : Byte) : Byte := if c.msb then (c <<< 1) ^^^ 7#8 else c <<< 1

/-- One byte of the CRC-8, most significant bit first. -/
def crcByte (c b : Byte) : Byte :=
  crcBit (crcBit (crcBit (crcBit (crcBit (crcBit (crcBit (crcBit (c ^^^ b))))))))

/-- The CRC-8 of a run of bytes from an initial value of 0 (R170, R179, R182). -/
def crc8 (bytes : List Byte) : Byte := bytes.foldl crcByte 0#8

/-! ### Multi-byte values, most significant byte first (00_scope.md 0.7, Byte order) -/

/-- The unsigned value of bytes sent most significant first. -/
def beNat (bytes : List Byte) : Nat := bytes.foldl (fun acc b => acc * 256 + b.toNat) 0

/-- The two's complement value of bytes sent most significant first. -/
def beInt (bytes : List Byte) : Int :=
  if beNat bytes < 2 ^ (8 * bytes.length - 1) then beNat bytes else (beNat bytes : Int) - 2 ^ (8 * bytes.length)

/-- `n` bytes of `v`, most significant first. -/
def toBytes : Nat → Nat → List Byte
  | 0, _ => []
  | n + 1, v => BitVec.ofNat 8 (v / 256 ^ n) :: toBytes n v

/-- `n` bytes of a signed value in two's complement, most significant first. -/
def toBytesInt (n : Nat) (v : Int) : List Byte := toBytes n (v % 2 ^ (8 * n)).toNat

/-- The unsigned field of `len` bytes at `off`. -/
def fieldNat (bytes : List Byte) (off len : Nat) : Nat := beNat ((bytes.drop off).take len)

/-- The signed field of `len` bytes at `off`. -/
def fieldInt (bytes : List Byte) (off len : Nat) : Int := beInt ((bytes.drop off).take len)

/-! ### The items of a request frame (R179, 10.6-2) -/

/-- The item codes that take a handle (R181, 10.6-2). -/
def takesHandle (code : Nat) : Bool := [2, 3, 4, 5, 6, 7, 8, 12, 14, 21].contains code

/-- The item codes that may carry a guard: WRITE FIELD, AMEND CLAIM, RETIRE CLAIM, RUN ROUTE, RETIRE ROUTE and
ACKNOWLEDGE (R7, R181). -/
def takesGuard (code : Nat) : Bool := [3, 5, 7, 12, 14, 21].contains code

/-- How many operand bytes a code has after handle and guard; none outside 1 to 24 (R179, 10.6-2). -/
def operandLength (code : Nat) : Nat :=
  match code with
  | 1 => 1 | 2 => 2 | 3 => 5 | 4 => 5 | 5 => 2 | 9 => 8 | 15 => 6 | 22 => 1
  | _ => 0

/-- The port takes an item of this form: a code 1 to 24, LONG and GUARD only where they are allowed (R181). -/
def legalForm (code : Nat) (long guard : Bool) : Bool :=
  decide (1 ≤ code ∧ code ≤ 24) && (!long || takesHandle code) && (!guard || takesGuard code)

/-- A handle from its bytes: a table byte and an index byte, or one index byte. -/
def handleOf (bytes : List Byte) : Handle :=
  match bytes with
  | [t, i] => .long t.toNat i.toNat
  | [i] => .short i.toNat
  | _ => .short 0

/-- The item of a legal code with its handle, guard and operand bytes (10.6-2). -/
def itemOf (code : Nat) (h : Handle) (g : Option Nat) (ops : List Byte) : Instr :=
  match code with
  | 1 => .selectTable (fieldNat ops 0 1)
  | 2 => .readFields h (fieldNat ops 0 1) (fieldNat ops 1 1)
  | 3 => .writeField h g (fieldNat ops 0 1) (fieldInt ops 1 4)
  | 4 => .openClaim h (fieldNat ops 0 1) (fieldNat ops 1 2) (fieldNat ops 3 2)
  | 5 => .amendClaim h g (fieldNat ops 0 2)
  | 6 => .takeClaim h
  | 7 => .retireClaim h g
  | 8 => .beginRoute h
  | 9 => .segment (fieldNat ops 0 1) (fieldInt ops 1 3) (fieldNat ops 4 1) (fieldNat ops 5 1) (fieldNat ops 6 2)
  | 10 => .endRoute
  | 11 => .abandonRoute
  | 12 => .runRoute h g
  | 13 => .stopYaw
  | 14 => .retireRoute h g
  | 15 => .restoreYaw (fieldNat ops 0 2) (fieldInt ops 2 4)
  | 16 => .charge
  | 17 => .start
  | 18 => .stopConverter
  | 19 => .discharge
  | 20 => .clearTrip
  | 21 => .acknowledge h g
  | 22 => .acknowledgeLine (fieldNat ops 0 1)
  | 23 => .freeze
  | 24 => .restart
  | c => .unknownItem c false false

/-- How many handle bytes follow a lead byte. -/
def handleLength (code : Nat) (long : Bool) : Nat :=
  if long then 2 else if takesHandle code then 1 else 0

/-- Divide off one item: the item, whether its lead byte has CHAIN set, and the bytes after it; none where the bytes
end inside the item (R179). The bytes a flag announces are counted even where the flag is not allowed. -/
def parseItem (bytes : List Byte) : Option (Instr × Bool × List Byte) :=
  match bytes with
  | [] => none
  | lead :: rest =>
    let n := lead.toNat
    let code := n % 32
    let long := n / 64 % 2 == 1
    let guard := n / 32 % 2 == 1
    let hl := handleLength code long
    let gl := if guard then 1 else 0
    let ol := operandLength code
    if rest.length < hl + gl + ol then none
    else
      let h := handleOf (rest.take hl)
      let g := if guard then some (fieldNat rest hl 1) else none
      let ops := (rest.drop (hl + gl)).take ol
      let item := if legalForm code long guard then itemOf code h g ops else .unknownItem code long guard
      some (item, decide (128 ≤ n), rest.drop (hl + gl + ol))

/-- The items of a frame's bytes before the CRC, at most `n` of them; none is the FORMAT refusal of R179. -/
def parseItems : Nat → List Byte → Option (List Instr)
  | 0, _ => none
  | n + 1, bytes =>
    match parseItem bytes with
    | none => none
    | some (item, true, rest) => (parseItems n rest).map (item :: ·)
    | some (item, false, []) => some [item]
    | some (_, false, _ :: _) => none

/-! ### The encoder of items -/

/-- The bytes of a handle. -/
def handleBytes (h : Handle) : List Byte :=
  match h with
  | .short i => [BitVec.ofNat 8 i]
  | .long t i => [BitVec.ofNat 8 t, BitVec.ofNat 8 i]

/-- Whether a handle is long. -/
def Handle.isLong (h : Handle) : Bool :=
  match h with
  | .short _ => false
  | .long _ _ => true

/-- A lead byte: CHAIN in bit 7, LONG in bit 6, GUARD in bit 5, the code in bits 4 to 0 (10.6-2). -/
def leadByte (chain long guard : Bool) (code : Nat) : Byte :=
  BitVec.ofNat 8 ((if chain then 128 else 0) + (if long then 64 else 0) + (if guard then 32 else 0) + code)

/-- The guard byte, where there is one. -/
def guardBytes (g : Option Nat) : List Byte :=
  match g with
  | none => []
  | some b => [BitVec.ofNat 8 b]

/-- An item that takes a handle. -/
def encodeHandled (chain : Bool) (code : Nat) (h : Handle) (g : Option Nat) (ops : List Byte) : List Byte :=
  leadByte chain h.isLong g.isSome code :: (handleBytes h ++ guardBytes g ++ ops)

/-- An item that takes no handle. -/
def encodePlain (chain : Bool) (code : Nat) (ops : List Byte) : List Byte := leadByte chain false false code :: ops

/-- The bytes of a link item (10.6-2); none for a command that is no item of a frame. An UNKNOWN_ITEM is written with
zero bytes where its flags announce bytes. -/
def encodeItem (chain : Bool) (i : Instr) : Option (List Byte) :=
  match i with
  | .selectTable t => some (encodePlain chain 1 (toBytes 1 t))
  | .readFields h f c => some (encodeHandled chain 2 h none (toBytes 1 f ++ toBytes 1 c))
  | .writeField h g f v => some (encodeHandled chain 3 h g (toBytes 1 f ++ toBytesInt 4 v))
  | .openClaim h p a t => some (encodeHandled chain 4 h none (toBytes 1 p ++ toBytes 2 a ++ toBytes 2 t))
  | .amendClaim h g a => some (encodeHandled chain 5 h g (toBytes 2 a))
  | .takeClaim h => some (encodeHandled chain 6 h none [])
  | .retireClaim h g => some (encodeHandled chain 7 h g [])
  | .beginRoute h => some (encodeHandled chain 8 h none [])
  | .segment k t d s w =>
    some (encodePlain chain 9 (toBytes 1 k ++ toBytesInt 3 t ++ toBytes 1 d ++ toBytes 1 s ++ toBytes 2 w))
  | .endRoute => some (encodePlain chain 10 [])
  | .abandonRoute => some (encodePlain chain 11 [])
  | .runRoute h g => some (encodeHandled chain 12 h g [])
  | .stopYaw => some (encodePlain chain 13 [])
  | .retireRoute h g => some (encodeHandled chain 14 h g [])
  | .restoreYaw h t => some (encodePlain chain 15 (toBytes 2 h ++ toBytesInt 4 t))
  | .charge => some (encodePlain chain 16 [])
  | .start => some (encodePlain chain 17 [])
  | .stopConverter => some (encodePlain chain 18 [])
  | .discharge => some (encodePlain chain 19 [])
  | .clearTrip => some (encodePlain chain 20 [])
  | .acknowledge h g => some (encodeHandled chain 21 h g [])
  | .acknowledgeLine l => some (encodePlain chain 22 (toBytes 1 l))
  | .freeze => some (encodePlain chain 23 [])
  | .restart => some (encodePlain chain 24 [])
  | .unknownItem c l g =>
    some (leadByte chain l g c ::
      List.replicate (handleLength c l + (if g then 1 else 0) + operandLength c) 0#8)
  | .linkFrame _ | .powerUp _ | .powerUpSequenceComplete | .resetnAssert | .resetnRelease | .meterFrame _
  | .staleTimerExpiry | .slowChannelAgeExpiry _ | .rawLineChange _ | .filterTimerExpiry _ | .encoderTransition _ _
  | .partTimeTick | .staggerTimerExpiry | .collectionDeadlineExpiry _ | .recoveryHoldExpiry | .reconnectionHoldExpiry
  | .prechargeTimerExpiry | .breakerTimerExpiry | .dischargeTimerExpiry | .chopperDecayExpiry
  | .firstEvaluationTimerExpiry | .decreaseHoldExpiry _ | .flowWindowExpiry _ | .flowLossTimerExpiry _
  | .shortWindowClose | .longWindowClose | .claimWaitExpiry | .releaseTimerExpiry | .idleTimerExpiry
  | .budgetTimerExpiry | .settleTimerExpiry | .applyTimerExpiry | .dwellTimerExpiry | .onsetDelayExpiry _
  | .repeatIntervalExpiry _ => none

/-! ### The opcode table -/

/-- The command a word spells by the opcode table's bits: no row of the table gives bits, so none. -/
def decodeTableWord (_nbits _w : Nat) : Option Instr := none

end Sys2Proof
end

