-- ==== Sys2Proof/Config.lean ====
section
/-!
DEFINITION. What the specification leaves open: the free values. Neither has a body, so nothing can be proved of
the value it takes, and a statement that holds, holds whatever it is.
-/
namespace Sys2Proof

/-- FREE VALUE (log 2): where several timers stand at 0 together, which of them expires first. R119: "These are two
expiries, and either may be taken first." Applied to the counter `choices` of State. Safe: nothing constrains it. -/
opaque Config.duePick : Nat → Nat

/-- FREE VALUE (log 22): whether a chopper gain of `duty × CHOPPER_RATED ÷ 100` joules that is not a whole number is
taken up (true) or down (false). R94 gives the gain and states no rounding. Applied to `duty × CHOPPER_RATED`. -/
opaque Config.chopperGainUp : Nat → Bool

end Sys2Proof
end

