-- ==== Sys2Proof/Machine/Types.lean ====
section
/-!
DEFINITION. The pieces the machine's state is made of, block by block, as plain data.
-/
namespace Sys2Proof.Machine

/-! ### Collections indexed by a fixed set of names -/

/-- One value for each zone. -/
structure PerZone (α : Type) where
  conv : α
  gen : α
  xfmr : α
  chop : α
  cab : α
  deriving DecidableEq, Repr

/-- One value for each coolant pump. -/
structure PerPump (α : Type) where
  conv : α
  gen : α
  deriving DecidableEq, Repr

/-- One value for each discrete input. -/
structure PerLine (α : Type) where
  brakeOpen : α
  mainClosed : α
  flowConv : α
  flowGen : α
  gateFault : α
  backupOnline : α
  deriving DecidableEq, Repr

/-! ### Item answers (10.6-3) -/

/-- The item statuses, in the order of their values 0 to 16. -/
inductive ItemStatus where
  | ok | unknown | absent | range | readOnly | frozen | stale | state | notReady | busy | full | exists
  | notOffered | tooLate | notOwner | sequence | inhibited
  deriving DecidableEq, Repr

/-- What an OK answer carries: bytes known when the item runs, or a slot number with its claim's revision as it stands
at the end of the event (R42, R182). -/
inductive ItemResult where
  | bytes (data : List Byte)
  | claim (slot : Fin 16)
  deriving DecidableEq, Repr

/-! ### Record Store -/

/-- The write classes: protection and tuning (R9). -/
inductive WriteClass where
  | protection | tuning
  deriving DecidableEq, Repr

/-- The fixed fields of a SETTINGS record (R15). -/
structure SettingSpec where
  cls : WriteClass
  default : Nat
  lo : Nat
  hi : Nat
  deriving DecidableEq, Repr

/-- The causes of reset (R17, R19). -/
inductive ResetCause where
  | coldPower | coldLine | warmLine | warmLink
  deriving DecidableEq, Repr

/-- The kinds of reset (1.11). -/
inductive ResetKind where
  | cold | warm
  deriving DecidableEq, Repr

/-- The Record Store's own state: SETTINGS values and the PART record's (R15, R17, R18). `secondLeft` is the time to
the next second of part time. -/
structure Store where
  settings : Vector Nat 86
  frozen : Bool
  partTime : Nat
  secondLeft : Nat
  resetCause : ResetCause
  deriving DecidableEq, Repr

/-- The revisions, by table and index (R5). -/
abbrev RevTable := List (List Nat)

/-- The values of the held fields of every record, by table and index (R5). -/
abbrev Snapshot := List (List (List Int))

/-! ### Nacelle Link Port -/

/-- The port's state (R177 to R184). `items` are the parsed items of the frame in execution not yet executed, `itemCount`
how many it holds in all, `entries` the response entries built so far, `shiftedOut` what the last transfer shifted out
(none where the port declined its address). -/
structure Port where
  form : LinkForm
  addrHigh : Bool
  table : Nat
  composing : Option (Fin 6)
  executing : Bool
  items : List Instr
  itemCount : Nat
  entries : List Byte
  restartDue : Bool
  prepared : List Byte
  shiftedOut : Option (List Byte)
  deriving DecidableEq, Repr

/-! ### Meter Receiver and inputs -/

/-- The fast values of a meter frame (10.6-1). -/
structure Fast where
  va : Nat
  vb : Nat
  vc : Nat
  frequency : Nat
  vdc : Nat
  duty : Nat
  deriving DecidableEq, Repr

/-- A slow channel: its last value and its age timer (R173). -/
structure Channel where
  value : Option Int
  ageLeft : Option Nat
  deriving DecidableEq, Repr

/-- The Meter Receiver's state (R170 to R174). -/
structure Meter where
  live : Bool
  staleLeft : Option Nat
  lastSeq : Option Nat
  fast : Option Fast
  channels : Vector Channel 8
  deriving DecidableEq, Repr

/-- A discrete input's filtered level and filter timer (R175). -/
structure Filter where
  level : Bool
  left : Option Nat
  deriving DecidableEq, Repr

/-- The input pins: raw lines with their filters, encoder phases, straps and reset inputs (R17, R19, R175, R176). -/
structure Inputs where
  raw : PerLine Bool
  filters : PerLine Filter
  phaseA : Bool
  phaseB : Bool
  linksel : LinkForm
  addr : Bool
  warmsel : Bool
  resetn : Bool
  deriving DecidableEq, Repr

/-! ### Load Apportioner -/

/-- Claim states (R23). -/
inductive ClaimState where
  | free | waiting | offered | held | shed
  deriving DecidableEq, Repr

/-- A claim slot (R23). While it is FREE the fields that are absent hold 0; `offerLeft` is the collection deadline. -/
structure Claim where
  state : ClaimState
  consumer : Nat
  priority : Nat
  asked : Nat
  granted : Nat
  tag : Nat
  grantSeq : Option Nat
  shedSeq : Option Nat
  offerLeft : Option Nat
  deriving DecidableEq, Repr

/-- A FREE slot. -/
def Claim.free : Claim := ⟨.free, 0, 0, 0, 0, 0, none, none, none⟩

/-- The Load Apportioner's state: the slots, the three collections over them (the stack's top and the queue's head
first), the sequence counters and the stagger timer (R22 to R28, R33). -/
structure Apportioner where
  claims : Vector Claim 16
  standing : List (Fin 16)
  shedStack : List (Fin 16)
  waiting : List (Fin 16)
  grantCounter : Nat
  shedCounter : Nat
  stagger : Option Nat
  deriving DecidableEq, Repr

/-- Who opens a consumer's claims (R21). -/
inductive OwnerKind where
  | link | yaw | cooling
  deriving DecidableEq, Repr

/-! ### Supply Monitor and Converter Sequencer -/

/-- Supply states (R54). -/
inductive SupplyState where
  | grid | dip | lost | backup
  deriving DecidableEq, Repr

/-- The Supply Monitor's state (R54 to R62). -/
structure Supply where
  state : SupplyState
  below : Vector Nat 6
  recovery : Option Nat
  reconnect : Option Nat
  lossPoint : Option Nat
  deriving DecidableEq, Repr

/-- Converter states (R75). -/
inductive ConverterState where
  | off | precharging | charged | running | riding | tripped | discharging
  deriving DecidableEq, Repr

/-- Sequence steps of PRECHARGING (R75). -/
inductive SequenceStep where
  | linkCharging | breakerClosing
  deriving DecidableEq, Repr

/-- The Converter Sequencer's state (R75 to R98). `energy` is in joules; `rideVmin` is the Vmin of the last accepted
frame, which the ride-through term keeps while the stream is STALE (R96). -/
structure Converter where
  state : ConverterState
  step : Option SequenceStep
  seqLeft : Option Nat
  tripReason : Option (Fin 32)
  flowProven : Bool
  vdc : Option Nat
  energy : Nat
  decayLeft : Option Nat
  overvoltRun : Nat
  rideVmin : Nat
  deriving DecidableEq, Repr

/-! ### Cooling Controller -/

/-- Thermal states, lowest first (R102). -/
inductive ThermalState where
  | normal | warm | hot | critical
  deriving DecidableEq, Repr

/-- A zone's thresholds in 0.1 °C (R99). -/
structure Thresholds where
  start : Nat
  full : Nat
  warm : Nat
  hot : Nat
  critical : Nat
  deriving DecidableEq, Repr

/-- A zone record (R99). The temperature is the value of the zone's slow channel. `target` is the target level of the
last evaluation (R106). The last three fields are those of the actuator shown in this home record. -/
structure ZoneRec where
  age : Option Nat
  thermal : ThermalState
  ceiling : Nat
  computed : Option Nat
  target : Nat
  demand : Nat
  hold : Option Nat
  limits : Thresholds
  actuatorDemand : Nat
  effective : Nat
  duty : Nat
  deriving DecidableEq, Repr

/-- Flow check states (R112). -/
inductive FlowState where
  | idle | awaiting | flowing | failed
  deriving DecidableEq, Repr

/-- A pump's flow check and its timer: the flow window in AWAITING, the loss timer in FLOWING (R112). -/
structure FlowCheck where
  state : FlowState
  left : Option Nat
  deriving DecidableEq, Repr

/-- The Cooling Controller's state (R99 to R117). -/
structure Cooling where
  zones : PerZone ZoneRec
  flow : PerPump FlowCheck
  firstEval : Option Nat
  deriving DecidableEq, Repr

/-! ### Alignment Unit, route store and Yaw Sequencer -/

/-- An open averaging window; `length` is the length in ms it opened with (R119, R121). -/
structure Window where
  left : Nat
  length : Nat
  count : Nat
  sum : Int
  motion : Bool
  deriving DecidableEq, Repr

/-- What the Alignment Unit last triggered (R118). -/
inductive Trigger where
  | none | auto | untwist
  deriving DecidableEq, Repr

/-- The Alignment Unit's state (R118 to R125). The latest wind speed is the value of slow channel 1. -/
structure Alignment where
  short : Option Window
  long : Option Window
  lastShort : Option Int
  lastLong : Option Int
  motionIndex : Option Int
  untwistDue : Bool
  trigger : Trigger
  triggerTime : Option Nat
  deriving DecidableEq, Repr

/-- Route states (R126). -/
inductive RouteState where
  | empty | composing | ready | running | ended
  deriving DecidableEq, Repr

/-- Route outcomes (R133). -/
inductive RouteOutcome where
  | done | stopped | preempted | shed | inhibited | limit | stall | brakeFault | noPower
  deriving DecidableEq, Repr

/-- A route record (R126): its segment slots in order, and what its present or last run has done. -/
structure Route where
  state : RouteState
  slots : List (Fin 24)
  done : Option Nat
  outcome : Option RouteOutcome
  endedIn : Option Nat
  deriving DecidableEq, Repr

/-- An EMPTY route. -/
def Route.empty : Route := ⟨.empty, [], none, none, none⟩

/-- Target kinds (R127). -/
inductive TargetKind where
  | absolute | relative | twist
  deriving DecidableEq, Repr

/-- Segment directions (R127). -/
inductive SegDirection where
  | shortest | cw | ccw | safe
  deriving DecidableEq, Repr

/-- Segment speeds (R127). -/
inductive Speed where
  | normal | slow
  deriving DecidableEq, Repr

/-- A segment slot that belongs to a route (R127). -/
structure Segment where
  route : Fin 6
  position : Nat
  kind : TargetKind
  target : Int
  direction : SegDirection
  speed : Speed
  dwell : Nat
  deriving DecidableEq, Repr

/-- The route store: six routes and twenty-four segment slots, a free slot being none (R126, R127). -/
structure RouteStore where
  routes : Vector Route 6
  segments : Vector (Option Segment) 24
  deriving DecidableEq, Repr

/-- Engine states (R136). -/
inductive EngineState where
  | parked | claiming | releasing | turning | settling | braking | dwelling
  deriving DecidableEq, Repr

/-- Turning directions (R136). -/
inductive Turn where
  | cw | ccw
  deriving DecidableEq, Repr

/-- The Yaw Sequencer's state (R136 to R154). Heading and twist hold 0 while the yaw is unknown. `begun` says that the
engine has begun the engine route (R148 item 1). `stageLeft` is the claim wait, release, settle, apply or dwell timer of
the engine state. -/
structure Yaw where
  known : Bool
  heading : Nat
  twist : Int
  engine : EngineState
  route : Option (Fin 6)
  position : Nat
  begun : Bool
  direction : Option Turn
  travel : Option Nat
  target : Option Int
  stageLeft : Option Nat
  idleLeft : Option Nat
  budgetLeft : Option Nat
  brakeHold : Bool
  deriving DecidableEq, Repr

/-! ### Condition Unit -/

/-- The five consequences (R165), as a set. -/
structure Consequences where
  trip : Bool
  hold : Bool
  inhibitYaw : Bool
  suppressAuto : Bool
  shedService : Bool
  deriving DecidableEq, Repr

/-- No consequence. -/
def Consequences.none : Consequences := ⟨false, false, false, false, false⟩

/-- The condition codes, in the order of their values (10.6-4). -/
inductive CondCode where
  | meterStale | gateFault | dcOvervolt | dcSequenceFail | breakerFail | envelopeTrip | chopperExhausted | coolingLost
  | gridDip | gridLost | freqOutOfBand | zoneHot | zoneCritical | pumpNoFlow | claimShed | offerLapsed | yawStall
  | brakeFault | twistUnknown | twistLimit | untwistDue | motionHigh | settingRefused
  deriving DecidableEq, Repr

/-- Condition kinds (R155). -/
inductive CondKind where
  | level | event
  deriving DecidableEq, Repr

/-- The fixed fields and defaults of a condition record (R155). A route of 4 is NONE. -/
structure CondSpec where
  code : CondCode
  subject : Option Zone
  kind : CondKind
  latching : Bool
  consequences : Consequences
  delay : Nat
  route : Nat
  deriving DecidableEq, Repr

/-- Condition states (R156). -/
inductive CondState where
  | clear | pending | active | acked | latched
  deriving DecidableEq, Repr

/-- What changes in a condition record (R156). `timer` is the record's one timer. -/
structure CondRec where
  state : CondState
  present : Bool
  delay : Nat
  timer : Option Nat
  route : Nat
  mask : Bool
  count : Nat
  persistent : Bool
  burst : Option Nat
  first : Option Nat
  last : Option Nat
  deriving DecidableEq, Repr

/-- The Condition Unit's state: the records, and the consequences it last told the blocks (R165). -/
structure Conditions where
  recs : Vector CondRec 32
  told : Consequences
  deriving DecidableEq, Repr

/-- A block's report of a cause (R157). -/
inductive Report where
  | arrives | goes | occurs
  deriving DecidableEq, Repr

/-! ### Outputs, resets and the step in progress -/

/-- The output lines (09 9.7). `ceiling` is the CEILING line's high time in thousandths (R97), `duty` the duty lines'
in hundredths (R111), by the home record of their actuators; `loadEn` are LOAD_EN6 to LOAD_EN18. -/
structure Outputs where
  prechargeK : Bool
  mainK : Bool
  dischargeK : Bool
  pulsePermit : Bool
  chopperPermit : Bool
  ceiling : Nat
  yawCw : Bool
  yawCcw : Bool
  yawSlow : Bool
  brakeRelease : Bool
  duty : PerZone Nat
  loadEn : List Bool
  alerts : List Bool
  deriving DecidableEq, Repr

/-- A reset that has begun and not ended (R19): its kind and cause, the held fields before it (R6), and the condition
records whose state it changed, which take their last change at its end (R169). -/
structure ResetHold where
  kind : ResetKind
  cause : ResetCause
  before : Snapshot
  restamp : List (Fin 32)
  deriving DecidableEq, Repr

/-- The MODEL's own field (log 26): what the step in progress has gathered. `claimEvent`: a claim event has occurred
(R34); `onsets`: the records that took an onset; `tripped`: the converter entered TRIPPED (R90); `actuators`: the
actuators, by home record, whose demand was recomputed or whose claim changed (R110); `zeroHolds`: the zones whose
decrease hold was started at 0 (R106); `zeroStagger`: the stagger timer was started at 0 (R33). -/
structure Scratch where
  claimEvent : Bool
  onsets : List (Fin 32)
  tripped : Bool
  actuators : List Zone
  zeroHolds : List Zone
  zeroStagger : Bool
  deriving DecidableEq, Repr

/-- Nothing gathered: what stands between steps. -/
def Scratch.empty : Scratch := ⟨false, [], false, [], [], false⟩

end Sys2Proof.Machine
end

