-- ==== Sys2Proof/Machine/Tables.lean ====
section
/-!
DEFINITION. The fixed tables of the specification: SETTINGS (R15), CONSUMERS (R21), zone threshold defaults (R99) and
the condition catalogue (R155).
-/
namespace Sys2Proof.Machine

/-! ### SETTINGS (R15) -/

/-- A protection-class setting. -/
def protSetting (default lo hi : Nat) : SettingSpec := ⟨.protection, default, lo, hi⟩

/-- A tuning-class setting. -/
def tuneSetting (default lo hi : Nat) : SettingSpec := ⟨.tuning, default, lo, hi⟩

/-- Settings 0 to 22: budgets, supply and envelope. -/
def settingsSupply : List SettingSpec :=
  [protSetting 1800 0 4000, protSetting 450 0 4000, protSetting 450 0 4000, protSetting 900 0 4000,
   protSetting 120 0 1000, protSetting 920 500 1000, protSetting 200 10 5000, protSetting 10 1 600,
   protSetting 5 1 6] ++
  [protSetting 900 0 999, protSetting 800 0 999, protSetting 600 0 999, protSetting 400 0 999, protSetting 150 0 999,
   protSetting 0 0 999] ++
  [protSetting 3000 0 60000, protSetting 2000 0 60000, protSetting 1200 0 60000, protSetting 700 0 60000,
   protSetting 250 0 60000, protSetting 0 0 60000] ++
  [protSetting 4750 4000 6000, protSetting 5150 4000 6000]

/-- Settings 23 to 31: stagger, collection window, priorities and SERVICE_SHED_PRIO. -/
def settingsClaims : List SettingSpec :=
  [tuneSetting 300 0 2000, tuneSetting 2000 200 10000, tuneSetting 5 0 7, tuneSetting 7 0 7, tuneSetting 6 0 7,
   tuneSetting 6 0 7, tuneSetting 5 0 7, tuneSetting 4 0 7, tuneSetting 2 0 5]

/-- Settings 32 to 43: the converter. -/
def settingsConverter : List SettingSpec :=
  [protSetting 15000 1000 20000, protSetting 1150 500 1500, protSetting 900 500 980, protSetting 8000 1000 30000,
   protSetting 500 50 5000, protSetting 1250 1050 1500, protSetting 50 10 200, protSetting 30 5 300,
   protSetting 6000 500 15000, protSetting 9000 100 100000, protSetting 120 1 5000, protSetting 40 0 100]

/-- Settings 44 to 47: cooling. -/
def settingsCooling : List SettingSpec :=
  [tuneSetting 4 0 15, tuneSetting 30 0 600, tuneSetting 10 1 60, tuneSetting 2 1 30]

/-- Settings 48 to 66: twist, alignment, yaw engine and ESCALATION_WINDOW. -/
def settingsYaw : List SettingSpec :=
  [protSetting 0 0 1, tuneSetting 90000 36000 180000, protSetting 108000 36000 180000, tuneSetting 80 0 500,
   tuneSetting 30 0 500, tuneSetting 10 2 60, tuneSetting 60 10 600, tuneSetting 250 10 1800, tuneSetting 80 10 1800,
   tuneSetting 400 0 1000, tuneSetting 1 0 1] ++
  [tuneSetting 50 0 1000, tuneSetting 20 0 1000, tuneSetting 2000 0 10000, protSetting 3000 500 20000,
   protSetting 2000 500 20000, protSetting 4000 500 20000, tuneSetting 30 1 600, tuneSetting 600 10 86400]

/-- Settings 67 to 85: the duty table, the rates and ESCALATION_COUNT. -/
def settingsDuty : List SettingSpec :=
  [tuneSetting 0 0 0, tuneSetting 20 0 100, tuneSetting 25 0 100, tuneSetting 30 0 100, tuneSetting 35 0 100,
   tuneSetting 40 0 100, tuneSetting 46 0 100, tuneSetting 52 0 100] ++
  [tuneSetting 58 0 100, tuneSetting 64 0 100, tuneSetting 70 0 100, tuneSetting 76 0 100, tuneSetting 82 0 100,
   tuneSetting 88 0 100, tuneSetting 94 0 100, tuneSetting 100 0 100] ++
  [tuneSetting 50 1 500, tuneSetting 20 1 500, tuneSetting 3 2 15]

/-- The SETTINGS table in order of setting number (R15). -/
def settingSpecs : Vector SettingSpec 86 :=
  ⟨⟨settingsSupply ++ settingsClaims ++ settingsConverter ++ settingsCooling ++ settingsYaw ++ settingsDuty⟩, rfl⟩

/-- Every setting at its default (R15). -/
def settingDefaults : Vector Nat 86 := ⟨⟨settingSpecs.toList.map (·.default)⟩, rfl⟩

/-! Setting numbers by name (R15). -/

abbrev Setting.budgetGrid : Fin 86 := 0
abbrev Setting.budgetDip : Fin 86 := 1
abbrev Setting.budgetLost : Fin 86 := 2
abbrev Setting.budgetBackup : Fin 86 := 3
abbrev Setting.essentialReserve : Fin 86 := 4
abbrev Setting.dipRecoveryLevel : Fin 86 := 5
abbrev Setting.recoveryHold : Fin 86 := 6
abbrev Setting.reconnectHold : Fin 86 := 7
abbrev Setting.envelopePoints : Fin 86 := 8
abbrev Setting.freqLow : Fin 86 := 21
abbrev Setting.freqHigh : Fin 86 := 22
abbrev Setting.stagger : Fin 86 := 23
abbrev Setting.collectionWindow : Fin 86 := 24
abbrev Setting.prioYaw : Fin 86 := 25
abbrev Setting.serviceShedPrio : Fin 86 := 31
abbrev Setting.convRated : Fin 86 := 32
abbrev Setting.vdcNominal : Fin 86 := 33
abbrev Setting.prechargeLevel : Fin 86 := 34
abbrev Setting.prechargeTimeout : Fin 86 := 35
abbrev Setting.breakerTimeout : Fin 86 := 36
abbrev Setting.overvoltLevel : Fin 86 := 37
abbrev Setting.dischargeSafeLevel : Fin 86 := 38
abbrev Setting.dischargeTimeout : Fin 86 := 39
abbrev Setting.chopperRated : Fin 86 := 40
abbrev Setting.chopperEnergyLimit : Fin 86 := 41
abbrev Setting.chopperDecay : Fin 86 := 42
abbrev Setting.derateFloor : Fin 86 := 43
abbrev Setting.convMinLevel : Fin 86 := 44
abbrev Setting.levelDecreaseHold : Fin 86 := 45
abbrev Setting.flowWindow : Fin 86 := 46
abbrev Setting.flowLossTime : Fin 86 := 47
abbrev Setting.encoderSense : Fin 86 := 48
abbrev Setting.twistUntwist : Fin 86 := 49
abbrev Setting.twistHardLimit : Fin 86 := 50
abbrev Setting.untwistWindMax : Fin 86 := 51
abbrev Setting.yawMinWind : Fin 86 := 52
abbrev Setting.shortWindow : Fin 86 := 53
abbrev Setting.longWindow : Fin 86 := 54
abbrev Setting.shortThreshold : Fin 86 := 55
abbrev Setting.longThreshold : Fin 86 := 56
abbrev Setting.motionLimit : Fin 86 := 57
abbrev Setting.autoYawEnable : Fin 86 := 58
abbrev Setting.stopLeadNormal : Fin 86 := 59
abbrev Setting.stopLeadSlow : Fin 86 := 60
abbrev Setting.settleTime : Fin 86 := 61
abbrev Setting.brakeReleaseTimeout : Fin 86 := 62
abbrev Setting.brakeApplyTimeout : Fin 86 := 63
abbrev Setting.encoderIdleLimit : Fin 86 := 64
abbrev Setting.claimWait : Fin 86 := 65
abbrev Setting.escalationWindow : Fin 86 := 66
abbrev Setting.rateNormal : Fin 86 := 83
abbrev Setting.rateSlow : Fin 86 := 84
abbrev Setting.escalationCount : Fin 86 := 85

/-- ENVELOPE_LEVEL_k for point k, counted here from 0 (settings 9 to 14). -/
def Setting.envelopeLevel (k : Fin 6) : Fin 86 := ⟨9 + k.val, by omega⟩

/-- ENVELOPE_TIME_k for point k, counted here from 0 (settings 15 to 20). -/
def Setting.envelopeTime (k : Fin 6) : Fin 86 := ⟨15 + k.val, by omega⟩

/-- DUTY_L for level L (settings 67 to 82); a level above 15 is taken as 15. -/
def Setting.duty (level : Nat) : Fin 86 := ⟨67 + min level 15, by omega⟩

/-! ### CONSUMERS (R21) -/

/-- The rated asks of consumers 0 to 18, in LU (R21). -/
def ratedAsks : List Nat := [370, 150, 110, 80, 80, 60, 30, 40, 40, 220, 75, 32, 32, 32, 32, 32, 32, 32, 32]

/-- A consumer's rated ask (R21). -/
def ratedAsk (consumer : Nat) : Nat := ratedAsks.getD consumer 0

/-- A consumer's owner kind, and a bound slot's owner (R21, R22). -/
def ownerKind (consumer : Nat) : OwnerKind :=
  if consumer = 0 then .yaw else if consumer ≤ 5 then .cooling else .link

/-! ### Zones (R99) -/

/-- The default thresholds of each zone (R99). -/
def zoneLimitDefaults : PerZone Thresholds :=
  ⟨⟨300, 500, 450, 550, 650⟩, ⟨700, 1200, 1100, 1300, 1450⟩, ⟨600, 1000, 950, 1100, 1250⟩,
   ⟨800, 2500, 2000, 3000, 3800⟩, ⟨250, 400, 350, 450, 550⟩⟩

/-! ### The condition catalogue (R155) -/

/-- Indexes of condition records (R155). -/
abbrev Cond.meterStale : Fin 32 := 0
abbrev Cond.gateFault : Fin 32 := 1
abbrev Cond.dcOvervolt : Fin 32 := 2
abbrev Cond.dcSequenceFail : Fin 32 := 3
abbrev Cond.breakerFail : Fin 32 := 4
abbrev Cond.envelopeTrip : Fin 32 := 5
abbrev Cond.chopperExhausted : Fin 32 := 6
abbrev Cond.coolingLost : Fin 32 := 7
abbrev Cond.gridDip : Fin 32 := 8
abbrev Cond.gridLost : Fin 32 := 9
abbrev Cond.freqOutOfBand : Fin 32 := 10
abbrev Cond.claimShed : Fin 32 := 23
abbrev Cond.offerLapsed : Fin 32 := 24
abbrev Cond.yawStall : Fin 32 := 25
abbrev Cond.brakeFault : Fin 32 := 26
abbrev Cond.twistUnknown : Fin 32 := 27
abbrev Cond.twistLimit : Fin 32 := 28
abbrev Cond.untwistDue : Fin 32 := 29
abbrev Cond.motionHigh : Fin 32 := 30
abbrev Cond.settingRefused : Fin 32 := 31

/-- The ZONE_HOT record of a zone (R155). -/
def Cond.zoneHot (z : Zone) : Fin 32 :=
  match z with
  | .conv => 11 | .gen => 12 | .xfmr => 13 | .chop => 14 | .cab => 15

/-- The ZONE_CRITICAL record of a zone (R155). -/
def Cond.zoneCritical (z : Zone) : Fin 32 :=
  match z with
  | .conv => 16 | .gen => 17 | .xfmr => 18 | .chop => 19 | .cab => 20

/-- The PUMP_NO_FLOW record of a pump (R155). -/
def Cond.pumpNoFlow (p : Pump) : Fin 32 :=
  match p with
  | .conv => 21 | .gen => 22

/-- TRIP alone. -/
def onlyTrip : Consequences := ⟨true, false, false, false, false⟩

/-- INHIBIT_YAW alone. -/
def onlyInhibit : Consequences := ⟨false, false, true, false, false⟩

/-- SUPPRESS_AUTO alone. -/
def onlySuppress : Consequences := ⟨false, false, false, true, false⟩

/-- Records 0 to 10: stream, converter and supply. -/
def catalogueSupply : List CondSpec :=
  [⟨.meterStale, none, .level, false, ⟨true, false, true, true, false⟩, 0, 0⟩,
   ⟨.gateFault, none, .level, true, onlyTrip, 0, 0⟩,
   ⟨.dcOvervolt, none, .level, true, onlyTrip, 0, 0⟩,
   ⟨.dcSequenceFail, none, .event, true, onlyTrip, 0, 0⟩,
   ⟨.breakerFail, none, .event, true, onlyTrip, 0, 0⟩,
   ⟨.envelopeTrip, none, .event, true, onlyTrip, 0, 0⟩,
   ⟨.chopperExhausted, none, .level, true, onlyTrip, 0, 0⟩,
   ⟨.coolingLost, none, .event, true, onlyTrip, 0, 0⟩] ++
  [⟨.gridDip, none, .level, false, onlySuppress, 20, 3⟩,
   ⟨.gridLost, none, .level, false, onlySuppress, 0, 3⟩,
   ⟨.freqOutOfBand, none, .level, false, ⟨false, true, false, false, false⟩, 200, 3⟩]

/-- Records 11 to 22: zones and pumps. -/
def catalogueZones : List CondSpec :=
  [⟨.zoneHot, some .conv, .level, false, .none, 5000, 2⟩,
   ⟨.zoneHot, some .gen, .level, false, .none, 5000, 2⟩,
   ⟨.zoneHot, some .xfmr, .level, false, .none, 5000, 2⟩,
   ⟨.zoneHot, some .chop, .level, false, .none, 5000, 2⟩,
   ⟨.zoneHot, some .cab, .level, false, ⟨false, false, false, false, true⟩, 5000, 2⟩] ++
  [⟨.zoneCritical, some .conv, .level, true, onlyTrip, 0, 2⟩,
   ⟨.zoneCritical, some .gen, .level, true, onlyTrip, 0, 2⟩,
   ⟨.zoneCritical, some .xfmr, .level, true, onlyTrip, 0, 2⟩,
   ⟨.zoneCritical, some .chop, .level, true, onlyTrip, 0, 2⟩,
   ⟨.zoneCritical, some .cab, .level, true, ⟨false, false, true, false, true⟩, 0, 2⟩,
   ⟨.pumpNoFlow, some .conv, .level, true, onlyTrip, 0, 2⟩,
   ⟨.pumpNoFlow, some .gen, .level, true, onlyTrip, 0, 2⟩]

/-- Records 23 to 31: claims, yaw, motion and refused settings. -/
def catalogueYaw : List CondSpec :=
  [⟨.claimShed, none, .level, false, .none, 0, 3⟩,
   ⟨.offerLapsed, none, .event, true, .none, 0, 3⟩,
   ⟨.yawStall, none, .event, true, onlyInhibit, 0, 1⟩,
   ⟨.brakeFault, none, .event, true, onlyInhibit, 0, 1⟩,
   ⟨.twistUnknown, none, .level, false, onlyInhibit, 0, 1⟩,
   ⟨.twistLimit, none, .level, false, .none, 0, 1⟩,
   ⟨.untwistDue, none, .level, false, .none, 0, 1⟩,
   ⟨.motionHigh, none, .level, false, .none, 1000, 3⟩,
   ⟨.settingRefused, none, .event, true, .none, 0, 3⟩]

/-- The condition catalogue in order of index (R155). -/
def catalogue : Vector CondSpec 32 := ⟨⟨catalogueSupply ++ catalogueZones ++ catalogueYaw⟩, rfl⟩

/-- A CLEAR record with the defaults of the catalogue (R168). -/
def CondRec.fresh (c : CondSpec) : CondRec :=
  ⟨.clear, false, c.delay, none, c.route, false, 0, false, none, none, none⟩

/-- Every record CLEAR with its defaults (R168). -/
def freshRecords : Vector CondRec 32 := ⟨⟨catalogue.toList.map CondRec.fresh⟩, rfl⟩

end Sys2Proof.Machine
end

