-- ==== Sys2Proof/Machine/State.lean ====
section
/-!
DEFINITION. The state of the GA740 as plain data, the ways a step can stop (none of which the specification gives), and
the state right after reset.
-/
namespace Sys2Proof.Machine

/-- Everything the specification gives the machine, block by block. `pending` are the commands waiting, first in first
out; `ev` and `choices` are the MODEL's own (log 26). -/
structure State where
  store : Store
  revs : RevTable
  port : Port
  meter : Meter
  inputs : Inputs
  app : Apportioner
  supply : Supply
  conv : Converter
  cool : Cooling
  align : Alignment
  routes : RouteStore
  yaw : Yaw
  cond : Conditions
  out : Outputs
  hold : Option ResetHold
  ev : Scratch
  choices : Nat
  pending : List Instr
  deriving DecidableEq, Repr

/-- The machine never stops with a fault: the specification describes no stop of the part (log 32). -/
inductive Fault where
  deriving DecidableEq, Repr

/-- The refusals of the model. -/
inductive Refusal where
  /-- A command that has no meaning in the model yet. Raised by an arm of exec only; safe. No arm raises it. -/
  | notModelled (mnemonic : String)
  deriving DecidableEq, Repr

/-- Six lines at one level. -/
def PerLine.all {α : Type} (x : α) : PerLine α := ⟨x, x, x, x, x, x⟩

/-- The input pins at power-up. DESIGN CHOICE (log 8): every discrete line inactive, the encoder phases low, LINKSEL
selecting the 4-wire form, ADDR and WARMSEL low, RESETn not asserted. -/
def Inputs.initial : Inputs :=
  ⟨.all false, .all ⟨false, none⟩, false, false, .fourWire, false, false, false⟩

/-- A zone record at the end of a reset (R117). -/
def ZoneRec.atReset (derateFloor : Nat) (limits : Thresholds) : ZoneRec :=
  ⟨none, .hot, derateFloor, none, 0, 0, none, limits, 0, 0, 0⟩

/-- The NO_RESPONSE frame (R182). -/
def noResponse : List Byte := [0x03#8, 0x00#8, 0x3F#8]

/-- A condition record that the end-of-reset group of a cold reset made ACTIVE with an onset at part time 0 (R168). -/
def CondRec.activeAtReset (c : CondSpec) : CondRec :=
  ⟨.active, true, c.delay, none, c.route, false, 1, false, some 0, some 0, some 0⟩

/-- A condition record that the end-of-reset group of a cold reset made PENDING (R168). -/
def CondRec.pendingAtReset (c : CondSpec) : CondRec :=
  ⟨.pending, true, c.delay, some c.delay, c.route, false, 0, false, none, none, some 0⟩

/-- The condition records at the end of a cold reset with GATE_FAULT inactive (R168). -/
def resetRecords : Vector CondRec 32 :=
  ⟨⟨[CondRec.activeAtReset catalogue[0]] ++ (freshRecords.toList.take 11).drop 1 ++
      ((catalogue.toList.take 16).drop 11).map CondRec.pendingAtReset ++ (freshRecords.toList.take 27).drop 16 ++
      [CondRec.activeAtReset catalogue[27]] ++ freshRecords.toList.drop 28⟩, rfl⟩

/-- The revisions at the end of that reset: 0 (R6), and 1 for the condition records the end-of-reset group moved
(DEDUCED, log 9). -/
def resetRevs : RevTable :=
  [[0], List.replicate 86 0, List.replicate 19 0, List.replicate 16 0, [0], [0], List.replicate 5 0, [0],
   List.replicate 6 0, List.replicate 24 0,
   [1] ++ List.replicate 10 0 ++ List.replicate 5 1 ++ List.replicate 11 0 ++ [1] ++ List.replicate 4 0]

/-- The machine right after reset: the end of a power-up reset with RESETn not asserted, the input pins as
`Inputs.initial` has them, and every block at the value its chapter gives (R20, R53, R73, R98, R117, R135, R154, R168,
R174, R184). -/
def State.reset : State where
  store := ⟨settingDefaults, false, 0, 1000, .coldPower⟩
  revs := resetRevs
  port := ⟨.fourWire, false, 0, none, false, [], 0, [], false, noResponse, none⟩
  meter := ⟨false, none, none, none, Vector.replicate 8 ⟨none, none⟩⟩
  inputs := Inputs.initial
  app := ⟨Vector.replicate 16 Claim.free, [], [], [], 0, 0, none⟩
  supply := ⟨.grid, Vector.replicate 6 0, none, none, none⟩
  conv := ⟨.discharging, none, some 30000, none, false, none, 0, some 10, 0, 0⟩
  cool :=
    ⟨⟨.atReset 40 zoneLimitDefaults.conv, .atReset 40 zoneLimitDefaults.gen, .atReset 40 zoneLimitDefaults.xfmr,
      .atReset 40 zoneLimitDefaults.chop, .atReset 40 zoneLimitDefaults.cab⟩,
     ⟨⟨.idle, none⟩, ⟨.idle, none⟩⟩, some 500⟩
  align := ⟨some ⟨10000, 10000, 0, 0, true⟩, some ⟨60000, 60000, 0, 0, true⟩, none, none, none, false, .none, none⟩
  routes := ⟨Vector.replicate 6 Route.empty, Vector.replicate 24 none⟩
  yaw := ⟨false, 0, 0, .parked, none, 0, false, none, none, none, none, none, none, false⟩
  cond := ⟨resetRecords, ⟨true, false, true, true, false⟩⟩
  out :=
    ⟨false, false, true, false, false, 0, false, false, false, false, ⟨0, 0, 0, 0, 0⟩, List.replicate 13 false,
     [true, true, false, false]⟩
  hold := none
  ev := Scratch.empty
  choices := 0
  pending := []

end Sys2Proof.Machine
end

