-- ==== Sys2Proof/Machine/Ops.lean ====
section
/-!
DEFINITION. The named operations the blocks share: reading and setting the pieces of the state, arithmetic with the
rounding the rules ask for, and the quantities that are functions of the state (budget, granted sum, readings).
-/
namespace Sys2Proof.Machine

/-! ### Collections indexed by names -/

/-- The value of a zone. -/
def PerZone.get {α : Type} (p : PerZone α) (z : Zone) : α :=
  match z with
  | .conv => p.conv | .gen => p.gen | .xfmr => p.xfmr | .chop => p.chop | .cab => p.cab

/-- Set the value of a zone. -/
def PerZone.set {α : Type} (p : PerZone α) (z : Zone) (x : α) : PerZone α :=
  match z with
  | .conv => { p with conv := x } | .gen => { p with gen := x } | .xfmr => { p with xfmr := x }
  | .chop => { p with chop := x } | .cab => { p with cab := x }

/-- Apply a function to the value of every zone. -/
def PerZone.map {α β : Type} (f : α → β) (p : PerZone α) : PerZone β :=
  ⟨f p.conv, f p.gen, f p.xfmr, f p.chop, f p.cab⟩

/-- The value of a pump. -/
def PerPump.get {α : Type} (p : PerPump α) (k : Pump) : α :=
  match k with
  | .conv => p.conv | .gen => p.gen

/-- Set the value of a pump. -/
def PerPump.set {α : Type} (p : PerPump α) (k : Pump) (x : α) : PerPump α :=
  match k with
  | .conv => { p with conv := x } | .gen => { p with gen := x }

/-- The value of a line. -/
def PerLine.get {α : Type} (p : PerLine α) (l : Line) : α :=
  match l with
  | .brakeOpen => p.brakeOpen | .mainClosed => p.mainClosed | .flowConv => p.flowConv
  | .flowGen => p.flowGen | .gateFault => p.gateFault | .backupOnline => p.backupOnline

/-- Set the value of a line. -/
def PerLine.set {α : Type} (p : PerLine α) (l : Line) (x : α) : PerLine α :=
  match l with
  | .brakeOpen => { p with brakeOpen := x } | .mainClosed => { p with mainClosed := x }
  | .flowConv => { p with flowConv := x } | .flowGen => { p with flowGen := x }
  | .gateFault => { p with gateFault := x } | .backupOnline => { p with backupOnline := x }

/-- Apply a function to the value of every line. -/
def PerLine.map {α β : Type} (f : α → β) (p : PerLine α) : PerLine β :=
  ⟨f p.brakeOpen, f p.mainClosed, f p.flowConv, f p.flowGen, f p.gateFault, f p.backupOnline⟩

/-- Every zone, in the order of its index (R1). -/
def allZones : List Zone := [.conv, .gen, .xfmr, .chop, .cab]

/-- The zone of a ZONES index (R1). -/
def zoneOf (index : Nat) : Option Zone := allZones[index]?

/-- Every discrete input. -/
def allLines : List Line := [.brakeOpen, .mainClosed, .flowConv, .flowGen, .gateFault, .backupOnline]

/-- The slow channel that carries a zone's temperature: 2 to 6 (5.2, R171). -/
def zoneChannel (z : Zone) : Fin 8 :=
  match z with
  | .conv => 2 | .gen => 3 | .xfmr => 4 | .chop => 5 | .cab => 6

/-- The consumer, and bound slot, of the actuator shown in a zone's record: CONV pump, GEN pump, Fans B (XFMR), Fans A
(CHOP), CAB HVAC (R99, R108). -/
def homeSlot (z : Zone) : Fin 16 :=
  match z with
  | .conv => 1 | .gen => 2 | .chop => 3 | .xfmr => 4 | .cab => 5

/-- The home records of the actuators in consumer order 1 to 5 (R108). -/
def consumerOrder : List Zone := [.conv, .gen, .chop, .xfmr, .cab]

/-- The home record of a pump (R99). -/
def pumpZone (p : Pump) : Zone :=
  match p with
  | .conv => .conv | .gen => .gen

/-- The pump shown in a zone's record, if its actuator is a pump (R99). -/
def zonePump (z : Zone) : Option Pump :=
  match z with
  | .conv => some .conv | .gen => some .gen | .xfmr => none | .chop => none | .cab => none

/-- The flow switch of a pump (5.6). -/
def pumpLine (p : Pump) : Line :=
  match p with
  | .conv => .flowConv | .gen => .flowGen

/-! ### Arithmetic -/

/-- Division rounded up. -/
def ceilDiv (a b : Nat) : Nat := (a + b - 1) / b

/-- An angle normalised to (−18000, 18000] (R143). -/
def normalise (v : Int) : Int :=
  let m := v % 36000
  if m > 18000 then m - 36000 else m

/-- The whole number nearest to `twist ÷ 36000`, halves taken toward zero (R123). -/
def nearestTurns (twist : Int) : Int :=
  if twist < 0 then -(((twist.natAbs + 17999) / 36000 : Nat) : Int) else ((twist.natAbs + 17999) / 36000 : Nat)

/-- Part time after `start`, taken across the wrap from 2147483647 to 0 (R18, R161). -/
def elapsed (now start : Nat) : Nat := (now + 2147483648 - start) % 2147483648

/-- A timer with one millisecond less left. -/
def countDown (t : Option Nat) : Option Nat := t.map (· - 1)

/-! ### Settings, inputs and readings -/

/-- The current value of a setting (R15). -/
def State.setting (s : State) (k : Fin 86) : Nat := s.store.settings[k]

/-- The filtered level of a line (R175). -/
def State.level (s : State) (l : Line) : Bool := (s.inputs.filters.get l).level

/-- The last value of a slow channel, absent while it is stale (R173). -/
def State.channelValue (s : State) (c : Fin 8) : Option Int := s.meter.channels[c].value

/-- A zone's temperature: the value of its channel (R100; log 31). -/
def State.temperature (s : State) (z : Zone) : Option Int := s.channelValue (zoneChannel z)

/-- The latest wind speed: the value of channel 1 (R120; log 31). -/
def State.windSpeed (s : State) : Option Int := s.channelValue 1

/-- The lowest of the three phase voltages (R55). -/
def Fast.vmin (f : Fast) : Nat := min f.va (min f.vb f.vc)

/-- Set a zone record. -/
def State.setZone (s : State) (z : Zone) (r : ZoneRec) : State :=
  { s with cool := { s.cool with zones := s.cool.zones.set z r } }

/-- Set a pump's flow check. -/
def State.setFlow (s : State) (p : Pump) (f : FlowCheck) : State :=
  { s with cool := { s.cool with flow := s.cool.flow.set p f } }

/-- Set a condition record. -/
def State.setRec (s : State) (i : Fin 32) (r : CondRec) : State :=
  { s with cond := { s.cond with recs := s.cond.recs.set i r } }

/-- Set a route record. -/
def State.setRoute (s : State) (i : Fin 6) (r : Route) : State :=
  { s with routes := { s.routes with routes := s.routes.routes.set i r } }

/-- Set a segment slot. -/
def State.setSegment (s : State) (i : Fin 24) (g : Option Segment) : State :=
  { s with routes := { s.routes with segments := s.routes.segments.set i g } }

/-- Note that a claim event has occurred in this step (R34). -/
def State.claimEvent (s : State) : State := { s with ev := { s.ev with claimEvent := true } }

/-- Set the bytes that the last transfer shifted out. -/
def State.shiftOut (s : State) (b : Option (List Byte)) : State := { s with port := { s.port with shiftedOut := b } }

/-! ### Claims, budget and routes -/

/-- A claim slot. -/
def State.claim (s : State) (i : Fin 16) : Claim := s.app.claims[i]

/-- The slot's claim is HELD: its load enable is on or its output gate open (R48). -/
def State.isHeld (s : State) (i : Fin 16) : Bool := s.app.claims[i].state == .held

/-- A claim is HELD or OFFERED, so that its granted counts (R24, R29). -/
def Claim.standing (c : Claim) : Bool := c.state == .held || c.state == .offered

/-- The granted sum: the total of granted over HELD and OFFERED claims (R29). -/
def Apportioner.grantedSum (a : Apportioner) : Nat :=
  ((a.claims.toList.filter Claim.standing).map (·.granted)).sum

/-- The budget setting of a supply state (R29, R67). -/
def budgetSetting (st : SupplyState) : Fin 86 :=
  match st with
  | .grid => Setting.budgetGrid | .dip => Setting.budgetDip | .lost => Setting.budgetLost
  | .backup => Setting.budgetBackup

/-- The budget: the setting of the current supply state (R29, R54). -/
def State.budget (s : State) : Nat := s.setting (budgetSetting s.supply.state)

/-- The apportionable budget: the budget less ESSENTIAL_RESERVE (R29). -/
def State.apportionable (s : State) : Nat := s.budget - s.setting Setting.essentialReserve

/-- Every route, lowest index first. -/
def allRoutes : List (Fin 6) := [0, 1, 2, 3, 4, 5]

/-- A route's rank: 1 for route 0, 2 for route 1, 3 for the manual routes (R126). -/
def routeRank (r : Fin 6) : Nat := if r.val = 0 then 1 else if r.val = 1 then 2 else 3

/-- The RUNNING route, of which there is at most one (R132). -/
def State.runningRoute (s : State) : Option (Fin 6) :=
  allRoutes.find? (fun r => s.routes.routes[r].state == .running)

/-- The segment at a position of a route's list, position 1 first (R126). -/
def State.segmentAt (s : State) (r : Fin 6) (position : Nat) : Option Segment :=
  match s.routes.routes[r].slots[position - 1]? with
  | none => none
  | some g => s.routes.segments[g]

/-- The bounds of the record counts of the tables 0 to 10 (R1). -/
def tableCount (table : Nat) : Nat := [1, 86, 19, 16, 1, 1, 5, 1, 6, 24, 32].getD table 0

/-- A reset is in progress: every block holds its reset values and no arrival is acted on (R19). -/
def State.held (s : State) : Bool := s.hold.isSome

end Sys2Proof.Machine
end

