-- ==== Sys2Proof/Machine/Flags.lean ====
section
/-!
DEFINITION. What is computed from the state at every event: the consequences in force (R165), the permits (R77), the
ceiling (R96), the alert lines (R166) and every output line (09 9.7).
-/
namespace Sys2Proof.Machine

/-! ### Consequences in force (R165) -/

/-- A record holds the consequences it carries: ACTIVE, ACKED, or LATCHED if latching or persistent (R165, R162). -/
def CondRec.holds (c : CondSpec) (r : CondRec) : Bool :=
  match r.state with
  | .active => true
  | .acked => true
  | .latched => c.latching || r.persistent
  | .clear => false
  | .pending => false

/-- Some record carries the consequence and holds it (R165). -/
def Conditions.inForceBy (k : Conditions) (carries : Consequences → Bool) : Bool :=
  (catalogue.toList.zip k.recs.toList).any fun p => carries p.1.consequences && p.2.holds p.1

/-- The consequences in force: the union of those held by all records (R165). -/
def Conditions.inForce (k : Conditions) : Consequences :=
  ⟨k.inForceBy (·.trip), k.inForceBy (·.hold), k.inForceBy (·.inhibitYaw), k.inForceBy (·.suppressAuto),
   k.inForceBy (·.shedService)⟩

/-- TRIP is in force (R165). -/
def State.tripInForce (s : State) : Bool := s.cond.inForceBy (·.trip)

/-- HOLD_CONVERTER is in force (R165). -/
def State.holdInForce (s : State) : Bool := s.cond.inForceBy (·.hold)

/-- INHIBIT_YAW is in force (R165). -/
def State.inhibitInForce (s : State) : Bool := s.cond.inForceBy (·.inhibitYaw)

/-- SUPPRESS_AUTO is in force (R165). -/
def State.suppressInForce (s : State) : Bool := s.cond.inForceBy (·.suppressAuto)

/-- SHED_SERVICE is in force (R165). -/
def State.shedServiceInForce (s : State) : Bool := s.cond.inForceBy (·.shedService)

/-! ### Permits (R77) -/

/-- RUNNING or RIDING. -/
def ConverterState.delivering (c : ConverterState) : Bool := c == .running || c == .riding

/-- The chopper energy exceeds CHOPPER_ENERGY_LIMIT (R94). -/
def State.chopperOver (s : State) : Bool := decide (s.setting Setting.chopperEnergyLimit * 1000 < s.conv.energy)

/-- PULSE_PERMIT: RUNNING or RIDING, the CONV pump claim HELD, neither TRIP nor HOLD_CONVERTER in force (R77). -/
def State.pulsePermit (s : State) : Bool :=
  s.conv.state.delivering && s.isHeld 1 && !s.tripInForce && !s.holdInForce

/-- CHOPPER_PERMIT: RUNNING or RIDING and the chopper energy not above its limit (R77). -/
def State.chopperPermit (s : State) : Bool := s.conv.state.delivering && !s.chopperOver

/-! ### The ceiling (R96) -/

/-- The ride-through term: CONV_RATED × Vmin ÷ 1000 in DIP, CONV_RATED elsewhere; the Vmin is that of the last accepted
frame, while STALE too (R96). -/
def State.rideTerm (s : State) : Nat :=
  if s.supply.state = .dip then s.setting Setting.convRated * s.conv.rideVmin / 1000 else s.setting Setting.convRated

/-- A heat zone's term: its thermal ceiling in % of CONV_RATED (R96). -/
def State.zoneTerm (s : State) (z : Zone) : Nat := (s.cool.zones.get z).ceiling * s.setting Setting.convRated / 100

/-- The ceiling in kW: the least of the terms while RUNNING or RIDING, 0 otherwise (R96). -/
def State.ceiling (s : State) : Nat :=
  if s.conv.state.delivering then
    min (s.setting Setting.convRated) (min (s.zoneTerm .conv) (min (s.zoneTerm .gen) (min (s.zoneTerm .xfmr)
      (min (s.zoneTerm .chop) s.rideTerm))))
  else 0

/-- The ceiling fraction: the ceiling × 1000 ÷ CONV_RATED, rounded down (R96). -/
def State.ceilingFraction (s : State) : Nat := s.ceiling * 1000 / s.setting Setting.convRated

/-! ### Alert lines (R166) -/

/-- The record asserts an alert line: unmasked, routed to it, ACTIVE or LATCHED (R166). -/
def CondRec.asserts (line : Nat) (r : CondRec) : Bool :=
  !r.mask && r.route == line && (r.state == .active || r.state == .latched)

/-- ALERTn is asserted exactly when some unmasked condition routed to n is ACTIVE or LATCHED (R166). -/
def Conditions.alert (k : Conditions) (line : Nat) : Bool := k.recs.toList.any (CondRec.asserts line)

/-! ### Output lines (09 9.7) -/

/-- PRECHARGE_K follows the converter state (R76). -/
def Converter.prechargeK (c : Converter) : Bool := c.state == .precharging

/-- MAIN_K follows the converter state and step (R76). -/
def Converter.mainK (c : Converter) : Bool :=
  match c.state with
  | .precharging => c.step == some .breakerClosing
  | .charged => true
  | .running => true
  | .riding => true
  | .off => false
  | .tripped => false
  | .discharging => false

/-- DISCHARGE_K follows the converter state (R76). -/
def Converter.dischargeK (c : Converter) : Bool := c.state == .tripped || c.state == .discharging

/-- What the engine drives on a turning line, before the gate (R140). -/
def Yaw.drives (y : Yaw) (d : Turn) : Bool := y.engine == .turning && y.direction == some d

/-- What the engine drives on BRAKE_RELEASE, before the gate (R140). -/
def Yaw.releases (y : Yaw) : Bool :=
  match y.engine with
  | .releasing => true
  | .turning => true
  | .settling => !y.brakeHold
  | .parked => false
  | .claiming => false
  | .braking => false
  | .dwelling => false

/-- The segment being worked on is SLOW (R140). -/
def State.slowSegment (s : State) : Bool :=
  match s.yaw.route with
  | none => false
  | some r =>
    match s.segmentAt r s.yaw.position with
    | none => false
    | some g => g.speed == .slow

/-- A duty line: the actuator's duty through the gate of its slot (R48, R111). -/
def State.dutyLine (s : State) (z : Zone) : Nat := if s.isHeld (homeSlot z) then (s.cool.zones.get z).duty else 0

/-- A load enable is on while the link claim of its consumer is HELD (R48). -/
def Apportioner.loadEnable (a : Apportioner) (consumer : Nat) : Bool :=
  (a.claims.toList.drop 6).any fun c => c.state == .held && c.consumer == consumer

/-- Every output line, as the rules of 9.7 drive it. -/
def State.outputs (s : State) : Outputs where
  prechargeK := s.conv.prechargeK
  mainK := s.conv.mainK
  dischargeK := s.conv.dischargeK
  pulsePermit := s.pulsePermit
  chopperPermit := s.chopperPermit
  ceiling := s.ceilingFraction
  yawCw := s.isHeld 0 && s.yaw.drives .cw
  yawCcw := s.isHeld 0 && s.yaw.drives .ccw
  yawSlow := s.isHeld 0 && s.yaw.engine == .turning && s.slowSegment
  brakeRelease := s.isHeld 0 && s.yaw.releases
  duty := ⟨s.dutyLine .conv, s.dutyLine .gen, s.dutyLine .xfmr, s.dutyLine .chop, s.dutyLine .cab⟩
  loadEn := [6, 7, 8, 9, 10, 11, 12, 13, 14, 15, 16, 17, 18].map s.app.loadEnable
  alerts := [s.cond.alert 0, s.cond.alert 1, s.cond.alert 2, s.cond.alert 3]

end Sys2Proof.Machine
end

