-- ==== Sys2Proof/Machine/Operands.lean ====
section
/-!
DEFINITION. The operand forms of link items: handles (R2, R3), guards (R7), fields and the absent marker (R4), the
integers that enumerated fields are carried as (10.6-4), the held fields and the revisions (R5).
-/
namespace Sys2Proof.Machine

/-! ### The integers of enumerated fields (10.6-4) -/

/-- The absent marker (R4). -/
def absentMarker : Int := -2147483648

/-- An absent field reads as the absent marker (R4). -/
def orAbsent (v : Option Int) : Int := v.getD absentMarker

/-- A Bool as 0 or 1. -/
def bit (b : Bool) : Int := if b then 1 else 0

/-- A natural number that may be absent. -/
def natField (v : Option Nat) : Int := orAbsent (v.map Int.ofNat)

def ItemStatus.code (x : ItemStatus) : Nat :=
  match x with
  | .ok => 0 | .unknown => 1 | .absent => 2 | .range => 3 | .readOnly => 4 | .frozen => 5 | .stale => 6 | .state => 7
  | .notReady => 8 | .busy => 9 | .full => 10 | .exists => 11 | .notOffered => 12 | .tooLate => 13 | .notOwner => 14
  | .sequence => 15 | .inhibited => 16

def ResetCause.code (x : ResetCause) : Nat :=
  match x with
  | .coldPower => 0 | .coldLine => 1 | .warmLine => 2 | .warmLink => 3

def WriteClass.code (x : WriteClass) : Nat :=
  match x with
  | .protection => 0 | .tuning => 1

def OwnerKind.code (x : OwnerKind) : Nat :=
  match x with
  | .link => 0 | .yaw => 1 | .cooling => 2

def ClaimState.code (x : ClaimState) : Nat :=
  match x with
  | .free => 0 | .waiting => 1 | .offered => 2 | .held => 3 | .shed => 4

def SupplyState.code (x : SupplyState) : Nat :=
  match x with
  | .grid => 0 | .dip => 1 | .lost => 2 | .backup => 3

def ConverterState.code (x : ConverterState) : Nat :=
  match x with
  | .off => 0 | .precharging => 1 | .charged => 2 | .running => 3 | .riding => 4 | .tripped => 5 | .discharging => 6

def SequenceStep.code (x : SequenceStep) : Nat :=
  match x with
  | .linkCharging => 0 | .breakerClosing => 1

def ThermalState.code (x : ThermalState) : Nat :=
  match x with
  | .normal => 0 | .warm => 1 | .hot => 2 | .critical => 3

def FlowState.code (x : FlowState) : Nat :=
  match x with
  | .idle => 0 | .awaiting => 1 | .flowing => 2 | .failed => 3

def EngineState.code (x : EngineState) : Nat :=
  match x with
  | .parked => 0 | .claiming => 1 | .releasing => 2 | .turning => 3 | .settling => 4 | .braking => 5 | .dwelling => 6

def Turn.code (x : Turn) : Nat :=
  match x with
  | .cw => 0 | .ccw => 1

def Trigger.code (x : Trigger) : Nat :=
  match x with
  | .none => 0 | .auto => 1 | .untwist => 2

def RouteState.code (x : RouteState) : Nat :=
  match x with
  | .empty => 0 | .composing => 1 | .ready => 2 | .running => 3 | .ended => 4

def RouteOutcome.code (x : RouteOutcome) : Nat :=
  match x with
  | .done => 0 | .stopped => 1 | .preempted => 2 | .shed => 3 | .inhibited => 4 | .limit => 5 | .stall => 6
  | .brakeFault => 7 | .noPower => 8

def TargetKind.code (x : TargetKind) : Nat :=
  match x with
  | .absolute => 0 | .relative => 1 | .twist => 2

def SegDirection.code (x : SegDirection) : Nat :=
  match x with
  | .shortest => 0 | .cw => 1 | .ccw => 2 | .safe => 3

def Speed.code (x : Speed) : Nat :=
  match x with
  | .normal => 0 | .slow => 1

def CondCode.code (x : CondCode) : Nat :=
  match x with
  | .meterStale => 0 | .gateFault => 1 | .dcOvervolt => 2 | .dcSequenceFail => 3 | .breakerFail => 4
  | .envelopeTrip => 5 | .chopperExhausted => 6 | .coolingLost => 7 | .gridDip => 8 | .gridLost => 9
  | .freqOutOfBand => 10 | .zoneHot => 11 | .zoneCritical => 12 | .pumpNoFlow => 13 | .claimShed => 14
  | .offerLapsed => 15 | .yawStall => 16 | .brakeFault => 17 | .twistUnknown => 18 | .twistLimit => 19
  | .untwistDue => 20 | .motionHigh => 21 | .settingRefused => 22

/-- The subject field: NONE 0, then the zones from 1. -/
def subjectCode (x : Option Zone) : Nat :=
  match x with
  | none => 0 | some .conv => 1 | some .gen => 2 | some .xfmr => 3 | some .chop => 4 | some .cab => 5

def CondKind.code (x : CondKind) : Nat :=
  match x with
  | .level => 0 | .event => 1

def CondState.code (x : CondState) : Nat :=
  match x with
  | .clear => 0 | .pending => 1 | .active => 2 | .acked => 3 | .latched => 4

/-- The consequences field: TRIP 1, HOLD_CONVERTER 2, INHIBIT_YAW 4, SUPPRESS_AUTO 8, SHED_SERVICE 16. -/
def Consequences.code (x : Consequences) : Int :=
  bit x.trip + 2 * bit x.hold + 4 * bit x.inhibitYaw + 8 * bit x.suppressAuto + 16 * bit x.shedService

/-- The target kind a SEGMENT operand names (R129). -/
def targetKindOf (n : Nat) : Option TargetKind := [TargetKind.absolute, .relative, .twist][n]?

/-- The direction a SEGMENT operand names (R129). -/
def segDirectionOf (n : Nat) : Option SegDirection := [SegDirection.shortest, .cw, .ccw, .safe][n]?

/-- The speed a SEGMENT operand names (R129). -/
def speedOf (n : Nat) : Option Speed := [Speed.normal, .slow][n]?

/-! ### The fields of each table -/

/-- The highest field number of each table's records (R4). -/
def highestField (table : Nat) : Nat := [7, 5, 4, 11, 15, 11, 18, 28, 15, 7, 16].getD table 0

/-- The revision of a record (R5). -/
def State.revision (s : State) (table index : Nat) : Nat := (s.revs.getD table []).getD index 0

/-- PART fields 1 to 7 (R17). -/
def State.partField (s : State) (f : Nat) : Int :=
  match f with
  | 1 => s.store.partTime
  | 2 => s.store.resetCause.code
  | 3 => bit s.store.frozen
  | 4 => bit s.meter.live
  | 5 => if s.port.form = .fourWire then 0 else 1
  | 6 => if s.port.form = .fourWire then absentMarker else if s.port.addrHigh then 45 else 44
  | 7 => 740
  | _ => absentMarker

/-- SETTINGS fields 1 to 5 (R15). -/
def State.settingField (s : State) (k : Fin 86) (f : Nat) : Int :=
  match f with
  | 1 => s.setting k
  | 2 => settingSpecs[k].cls.code
  | 3 => settingSpecs[k].lo
  | 4 => settingSpecs[k].hi
  | 5 => settingSpecs[k].default
  | _ => absentMarker

/-- CONSUMERS fields 1 to 4 (R21). -/
def consumerField (consumer f : Nat) : Int :=
  match f with
  | 1 => consumer
  | 2 => ratedAsk consumer
  | 3 => (ownerKind consumer).code
  | 4 => consumer
  | _ => absentMarker

/-- The place of a slot in the waiting queue, the head at 1 (R23, R27). -/
def Apportioner.queuePosition (a : Apportioner) (i : Fin 16) : Option Nat :=
  (a.waiting.findIdx? (· == i)).map (· + 1)

/-- A value of a claim that is present while it is not FREE (R23). -/
def Claim.open (c : Claim) (v : Nat) : Int := if c.state = .free then absentMarker else v

/-- CLAIMS fields 1 to 11 (R23). -/
def State.claimField (s : State) (i : Fin 16) (f : Nat) : Int :=
  let c := s.claim i
  match f with
  | 1 => c.state.code
  | 2 => c.open c.consumer
  | 3 => (ownerKind i.val).code
  | 4 => c.open c.priority
  | 5 => c.open c.asked
  | 6 => c.granted
  | 7 => c.open c.tag
  | 8 => natField c.grantSeq
  | 9 => natField c.offerLeft
  | 10 => natField c.shedSeq
  | 11 => natField (s.app.queuePosition i)
  | _ => absentMarker

/-- The below-time of a point counted from 0, present for the points in use (R54). -/
def State.belowField (s : State) (k : Fin 6) : Int :=
  if k.val < s.setting Setting.envelopePoints then s.supply.below[k] else absentMarker

/-- SUPPLY fields 1 to 15 (R54). -/
def State.supplyField (s : State) (f : Nat) : Int :=
  match f with
  | 1 => s.supply.state.code
  | 2 => s.budget
  | 3 => s.apportionable
  | 4 => s.app.grantedSum
  | 5 => natField (s.meter.fast.map Fast.vmin)
  | 6 => natField (s.meter.fast.map (·.frequency))
  | 7 => s.belowField 0
  | 8 => s.belowField 1
  | 9 => s.belowField 2
  | 10 => s.belowField 3
  | 11 => s.belowField 4
  | 12 => s.belowField 5
  | 13 => natField s.supply.recovery
  | 14 => natField s.supply.reconnect
  | 15 => natField s.supply.lossPoint
  | _ => absentMarker

/-- CONVERTER fields 1 to 11 (R75). -/
def State.converterField (s : State) (f : Nat) : Int :=
  match f with
  | 1 => s.conv.state.code
  | 2 => natField (s.conv.step.map SequenceStep.code)
  | 3 => natField s.conv.seqLeft
  | 4 => natField (s.conv.tripReason.map (·.val))
  | 5 => bit s.conv.flowProven
  | 6 => bit s.pulsePermit
  | 7 => bit s.chopperPermit
  | 8 => natField s.conv.vdc
  | 9 => (s.conv.energy / 1000 : Nat)
  | 10 => s.ceiling
  | 11 => s.ceilingFraction
  | _ => absentMarker

/-- ZONES fields 1 to 18 (R99). -/
def State.zoneField (s : State) (z : Zone) (f : Nat) : Int :=
  let r := s.cool.zones.get z
  match f with
  | 1 => orAbsent (s.temperature z)
  | 2 => natField r.age
  | 3 => r.thermal.code
  | 4 => r.ceiling
  | 5 => natField r.computed
  | 6 => r.demand
  | 7 => natField r.hold
  | 8 => r.limits.start
  | 9 => r.limits.full
  | 10 => r.limits.warm
  | 11 => r.limits.hot
  | 12 => r.limits.critical
  | 13 => (homeSlot z).val
  | 14 => r.actuatorDemand
  | 15 => r.effective
  | 16 => r.duty
  | 17 => natField ((zonePump z).map fun p => (s.cool.flow.get p).state.code)
  | 18 => natField ((zonePump z).bind fun p => (s.cool.flow.get p).left)
  | _ => absentMarker

/-- The remaining travel in TURNING: target twist less twist for a clockwise turn, the mirror otherwise (R145). -/
def Yaw.remaining (y : Yaw) : Int :=
  match y.direction with
  | some .ccw => y.twist - y.target.getD y.twist
  | some .cw => y.target.getD y.twist - y.twist
  | none => y.target.getD y.twist - y.twist

/-- A value present while the engine is TURNING (R136). -/
def Yaw.inTurn (y : Yaw) (v : Int) : Int := if y.engine = .turning then v else absentMarker

/-- A value present while a route is RUNNING (R136; log 27). -/
def State.inRun (s : State) (v : Int) : Int := if s.runningRoute.isSome then v else absentMarker

/-- YAW fields 1 to 15 (R136). -/
def State.yawField (s : State) (f : Nat) : Int :=
  let y := s.yaw
  match f with
  | 1 => bit y.known
  | 2 => if y.known then y.heading else absentMarker
  | 3 => if y.known then y.twist else absentMarker
  | 4 => y.engine.code
  | 5 => s.inRun (natField (y.route.map (·.val)))
  | 6 => s.inRun y.position
  | 7 => natField (y.direction.map Turn.code)
  | 8 => natField y.travel
  | 9 => orAbsent y.target
  | 10 => y.inTurn y.remaining
  | 11 => natField y.stageLeft
  | 12 => natField y.idleLeft
  | 13 => natField y.budgetLeft
  | 14 => bit (s.level .brakeOpen)
  | 15 => bit y.brakeHold
  | _ => absentMarker

/-- YAW fields 16 to 28 (R118). -/
def Alignment.field (a : Alignment) (f : Nat) : Int :=
  match f with
  | 16 => natField (a.short.map (·.left))
  | 17 => natField (a.short.map (·.count))
  | 18 => orAbsent (a.short.map (·.sum))
  | 19 => orAbsent (a.short.map fun w => bit w.motion)
  | 20 => natField (a.long.map (·.left))
  | 21 => natField (a.long.map (·.count))
  | 22 => orAbsent (a.long.map (·.sum))
  | 23 => orAbsent (a.long.map fun w => bit w.motion)
  | 24 => orAbsent a.lastShort
  | 25 => orAbsent a.lastLong
  | 26 => bit a.untwistDue
  | 27 => a.trigger.code
  | 28 => natField a.triggerTime
  | _ => absentMarker

/-- ROUTES fields 1 to 15 (R126). -/
def State.routeField (s : State) (i : Fin 6) (f : Nat) : Int :=
  let r := s.routes.routes[i]
  match f with
  | 1 => if i.val < 2 then 0 else 1
  | 2 => routeRank i
  | 3 => r.state.code
  | 4 => r.slots.length
  | 13 => natField r.done
  | 14 => natField (r.outcome.map RouteOutcome.code)
  | 15 => natField r.endedIn
  | f => if 5 ≤ f ∧ f ≤ 12 then natField (r.slots[f - 5]?.map (·.val)) else absentMarker

/-- SEGMENTS fields 1 to 7 of a slot that belongs to a route (R127). -/
def Segment.field (g : Segment) (f : Nat) : Int :=
  match f with
  | 1 => g.route.val
  | 2 => g.position
  | 3 => g.kind.code
  | 4 => g.target
  | 5 => g.direction.code
  | 6 => g.speed.code
  | 7 => g.dwell
  | _ => absentMarker

/-- SEGMENTS fields 1 to 7 (R127). -/
def State.segmentField (s : State) (i : Fin 24) (f : Nat) : Int :=
  match s.routes.segments[i] with
  | none => absentMarker
  | some g => g.field f

/-- CONDITIONS fields 1 to 16 (R156). -/
def State.condField (s : State) (i : Fin 32) (f : Nat) : Int :=
  let c := catalogue[i]
  let r := s.cond.recs[i]
  match f with
  | 1 => c.code.code
  | 2 => subjectCode c.subject
  | 3 => c.kind.code
  | 4 => bit c.latching
  | 5 => c.consequences.code
  | 6 => r.state.code
  | 7 => if c.kind = .level then bit r.present else absentMarker
  | 8 => r.delay
  | 9 => natField r.timer
  | 10 => r.route
  | 11 => bit r.mask
  | 12 => r.count
  | 13 => bit r.persistent
  | 14 => natField r.burst
  | 15 => natField r.first
  | 16 => natField r.last
  | _ => absentMarker

/-- Fields other than the revision, by table and index (R4). -/
def State.ownField (s : State) (table index f : Nat) : Int :=
  match table with
  | 0 => s.partField f
  | 1 => if h : index < 86 then s.settingField ⟨index, h⟩ f else absentMarker
  | 2 => consumerField index f
  | 3 => if h : index < 16 then s.claimField ⟨index, h⟩ f else absentMarker
  | 4 => s.supplyField f
  | 5 => s.converterField f
  | 6 => match zoneOf index with
    | none => absentMarker
    | some z => s.zoneField z f
  | 7 => if f ≤ 15 then s.yawField f else s.align.field f
  | 8 => if h : index < 6 then s.routeField ⟨index, h⟩ f else absentMarker
  | 9 => if h : index < 24 then s.segmentField ⟨index, h⟩ f else absentMarker
  | 10 => if h : index < 32 then s.condField ⟨index, h⟩ f else absentMarker
  | _ => absentMarker

/-- The value of a field, field 0 being the revision (R4). -/
def State.readField (s : State) (table index f : Nat) : Int :=
  if f = 0 then s.revision table index else s.ownField table index f

/-! ### Held fields and revisions (R5) -/

/-- The held fields of each table: R17, R15, R21 (none), R23, R54, R75, R99, R118 with R136, R126, R127, R156. -/
def heldFields (table : Nat) : List Nat :=
  match table with
  | 0 => [2, 3, 4, 5, 6, 7]
  | 1 => [1]
  | 3 => [1, 2, 3, 4, 5, 6, 7, 8, 10, 11]
  | 4 => [1, 2, 3, 4, 15]
  | 5 => [1, 2, 4, 5, 6, 7]
  | 6 => [3, 6, 8, 9, 10, 11, 12, 14, 15, 16, 17]
  | 7 => [1, 4, 5, 6, 7, 8, 9, 15, 19, 23, 24, 25, 26, 27, 28]
  | 8 => [1, 2, 3, 4, 5, 6, 7, 8, 9, 10, 11, 12, 13, 14, 15]
  | 9 => [1, 2, 3, 4, 5, 6, 7]
  | 10 => [1, 2, 3, 4, 5, 6, 7, 8, 10, 11, 12, 13, 14, 15, 16]
  | _ => []

/-- The values of a record's held fields. -/
def State.heldOf (s : State) (table index : Nat) : List Int := (heldFields table).map (s.ownField table index)

/-- The held fields of every record, by table and index. -/
def State.snapshot (s : State) : Snapshot :=
  (List.range 11).map fun t => (List.range (tableCount t)).map fun i => s.heldOf t i

/-- A revision after an event: one more, from 255 wrapping to 0, if a held field changed (R5). -/
def bumpRevision (before after : List Int) (rev : Nat) : Nat := if before = after then rev else (rev + 1) % 256

/-- The revisions of one table after an event. -/
def bumpTable : List (List Int) → List (List Int) → List Nat → List Nat
  | b :: bs, a :: as, r :: rs => bumpRevision b a r :: bumpTable bs as rs
  | _, _, rs => rs

/-- The revisions of every table after an event (R5). -/
def bumpAll : Snapshot → Snapshot → RevTable → RevTable
  | b :: bs, a :: as, r :: rs => bumpTable b a r :: bumpAll bs as rs
  | _, _, rs => rs

/-- Every revision 0 (R6). -/
def zeroRevs : RevTable := (List.range 11).map fun t => List.replicate (tableCount t) 0

/-! ### Handles and guards (R2, R3, R7) -/

/-- What an item has done: the state, its status and, if OK, its result. -/
structure Answer where
  state : State
  status : ItemStatus
  result : ItemResult

/-- An item answered OK with an empty result. -/
def answerOk (s : State) : Answer := ⟨s, .ok, .bytes []⟩

/-- An item refused: it changes nothing more. -/
def refuse (s : State) (st : ItemStatus) : Answer := ⟨s, st, .bytes []⟩

/-- Resolve a handle: the state with the current table as R3 sets it, and the record, if the handle names one (R2). -/
def resolve (h : Handle) (s : State) : State × Option (Nat × Nat) :=
  match h with
  | .short i => (s, if i < tableCount s.port.table then some (s.port.table, i) else none)
  | .long t i =>
    if t < 11 then ({ s with port := { s.port with table := t } }, if i < tableCount t then some (t, i) else none)
    else (s, none)

/-- The guard matches the record's revision, or there is none (R7). -/
def guardPasses (s : State) (g : Option Nat) (table index : Nat) : Bool :=
  match g with
  | none => true
  | some b => b == s.revision table index

/-- Resolve the handle, check the guard, and hand the record on: ABSENT if it names none, STALE if the guard fails
(R2, R7). -/
def withRecord (h : Handle) (g : Option Nat) (s : State) (k : State → Nat → Nat → Answer) : Answer :=
  match resolve h s with
  | (s', none) => refuse s' .absent
  | (s', some (t, i)) => if guardPasses s' g t i then k s' t i else refuse s' .stale

/-- As `withRecord`, for an item that acts on one table: a record of another table is refused ABSENT. -/
def withTable (table n : Nat) (h : Handle) (g : Option Nat) (s : State) (k : State → Fin n → Answer) : Answer :=
  withRecord h g s fun s' t i =>
    if t = table then if hi : i < n then k s' ⟨i, hi⟩ else refuse s' .absent else refuse s' .absent

/-! ### Reading (R8) -/

/-- The field cursor: `count` values from a record's field on, running into the next record of the table and stopping
after its last record (R8). -/
def State.cursor (s : State) (table : Nat) : Nat → Nat → Nat → List Int
  | 0, _, _ => []
  | n + 1, index, f =>
    if index < tableCount table then
      s.readField table index f ::
        (if f < highestField table then s.cursor table n index (f + 1) else s.cursor table n (index + 1) 0)
    else []

end Sys2Proof.Machine
end

