-- ==== Sys2Proof/Machine/Conditions.lean ====
section
/-!
DEFINITION. The Condition Unit's records: what each report, acknowledge and expiry makes of a record (R157 to R163). The
judging of the consequences, which reaches the other blocks, stands in Judge.lean.
-/
namespace Sys2Proof.Machine

/-- What the Condition Unit reads at an onset: part time, ESCALATION_WINDOW and ESCALATION_COUNT (R161). -/
structure OnsetArgs where
  now : Nat
  window : Nat
  limit : Nat
  deriving DecidableEq, Repr

/-- The reading at this moment (R161, R16). -/
def State.onsetArgs (s : State) : OnsetArgs :=
  ⟨s.store.partTime, s.setting Setting.escalationWindow, s.setting Setting.escalationCount⟩

/-- The onset opens a new burst: no burst start, or more than ESCALATION_WINDOW after it (R161 item 1). -/
def CondRec.newBurst (o : OnsetArgs) (r : CondRec) : Bool :=
  match r.burst with
  | none => true
  | some b => decide (o.window < elapsed o.now b)

/-- Count, escalation and times of an onset (R161). -/
def CondRec.onset (o : OnsetArgs) (r : CondRec) : CondRec :=
  let opens := r.newBurst o
  let count := if opens then 1 else min (r.count + 1) 15
  { r with
    count := count
    burst := if opens then some o.now else r.burst
    persistent := r.persistent || decide (o.limit ≤ count)
    first := some (r.first.getD o.now)
    last := some o.now }

/-- Enter a state: the last change is the present part time, and entry to CLEAR makes the first onset absent (R156,
R163). -/
def CondRec.enter (now : Nat) (st : CondState) (r : CondRec) : CondRec :=
  { r with state := st, last := some now, first := if st = .clear then none else r.first }

/-- A timer for the record's onset delay; a delay of 0 starts none. -/
def CondRec.delayTimer (r : CondRec) : Option Nat := if r.delay = 0 then none else some r.delay

/-- ACTIVE with an onset, no timer running (R158). -/
def CondRec.activate (o : OnsetArgs) (r : CondRec) : CondRec := ({ r with timer := none }.onset o).enter o.now .active

/-- A level-kind cause arrives: the record and whether it took an onset (R158). An arrival of a cause already present
changes nothing (R157). -/
def CondRec.arrive (o : OnsetArgs) (r : CondRec) : CondRec × Bool :=
  if r.present then (r, false)
  else
    let p := { r with present := true }
    match r.state with
    | .clear =>
      if r.delay = 0 then (p.activate o, true) else ({ p with timer := some r.delay }.enter o.now .pending, false)
    | .latched => if r.delay = 0 then (p.activate o, true) else ({ p with timer := some r.delay }, false)
    | .pending => (p, false)
    | .active => (p, false)
    | .acked => (p, false)

/-- A level-kind cause goes (R158). A going of a cause not present changes nothing (R157). -/
def CondRec.depart (now : Nat) (r : CondRec) : CondRec :=
  if r.present then
    let p := { r with present := false }
    match r.state with
    | .pending => { p with timer := none }.enter now .clear
    | .active => p.enter now .latched
    | .acked => p.enter now .clear
    | .latched => { p with timer := none }
    | .clear => p
  else r

/-- An occurrence at an event-kind record: from CLEAR it latches with an onset; in LATCHED it adds one unless the
repeat timer runs; each onset starts the repeat timer (R160). -/
def CondRec.occur (o : OnsetArgs) (r : CondRec) : CondRec × Bool :=
  match r.state with
  | .clear => (({ r with timer := r.delayTimer }.onset o).enter o.now .latched, true)
  | .latched => if r.timer.isSome then (r, false) else ({ r with timer := r.delayTimer }.onset o, true)
  | .pending => (r, false)
  | .active => (r, false)
  | .acked => (r, false)

/-- A report at a record of a kind; a report of the other kind is never made. -/
def CondRec.take (k : CondKind) (rep : Report) (o : OnsetArgs) (r : CondRec) : CondRec × Bool :=
  match k, rep with
  | .level, .arrives => r.arrive o
  | .level, .goes => (r.depart o.now, false)
  | .event, .occurs => r.occur o
  | .level, .occurs => (r, false)
  | .event, .arrives => (r, false)
  | .event, .goes => (r, false)

/-- The flag, the count and the burst start are cleared together (R162). -/
def CondRec.clearBurst (r : CondRec) : CondRec := { r with count := 0, persistent := false, burst := none }

/-- An acknowledge; none is a refusal STATE (R163). A level-kind record LATCHED with its delay timer running becomes
PENDING and the timer runs on. -/
def CondRec.acknowledge (k : CondKind) (now : Nat) (r : CondRec) : Option CondRec :=
  match r.state with
  | .active => if k = .level then some (r.enter now .acked) else none
  | .latched =>
    if k = .level ∧ r.timer.isSome then some (r.clearBurst.enter now .pending)
    else some ({ r.clearBurst with timer := none }.enter now .clear)
  | .clear => none
  | .pending => none
  | .acked => none

/-- The delay timer of a level-kind record expires in PENDING or in LATCHED (R158). -/
def CondRec.delayExpires (o : OnsetArgs) (r : CondRec) : CondRec × Bool :=
  match r.state with
  | .pending => (r.activate o, true)
  | .latched => (r.activate o, true)
  | .clear => ({ r with timer := none }, false)
  | .active => ({ r with timer := none }, false)
  | .acked => ({ r with timer := none }, false)

/-- Store a record, noting its onset if it took one (R90, R161). -/
def State.putRec (s : State) (i : Fin 32) (p : CondRec × Bool) : State :=
  let t := s.setRec i p.1
  if p.2 then { t with ev := { t.ev with onsets := i :: t.ev.onsets } } else t

/-- The Condition Unit takes one report (R157). -/
def State.takeReport (i : Fin 32) (rep : Report) (s : State) : State :=
  s.putRec i ((s.cond.recs[i]).take catalogue[i].kind rep s.onsetArgs)

/-- Arrives or goes, as the cause is now present or not; a redundant report changes nothing (R157). -/
def causeIs (present : Bool) : Report := if present then .arrives else .goes

/-- The reports of one group (R165). -/
abbrev Group := List (Fin 32 × Report)

/-- The Condition Unit takes the reports of a group in order (R165). -/
def State.takeReports (g : Group) (s : State) : State := g.foldl (fun t p => t.takeReport p.1 p.2) s

end Sys2Proof.Machine
end

