-- ==== Sys2Proof/Machine/Apportioner.lean ====
section
/-!
DEFINITION. The Load Apportioner's operations over its claims and collections (R22 to R52): shed, withdrawal, grant, the
grant opportunity, opening, amending and freeing a claim.
-/
namespace Sys2Proof.Machine

/-! ### The collections (R24 to R28) -/

/-- Set a claim slot. -/
def Apportioner.setClaim (a : Apportioner) (i : Fin 16) (c : Claim) : Apportioner :=
  { a with claims := a.claims.set i c }

/-- The place a newly granted claim takes: last among the claims of its priority (R25). -/
def Apportioner.joinStanding (a : Apportioner) (i : Fin 16) : Apportioner :=
  let ahead := fun j : Fin 16 => decide ((a.claims[i]).priority ≤ (a.claims[j]).priority)
  { a with standing := a.standing.takeWhile ahead ++ i :: a.standing.dropWhile ahead }

/-- Leave the standing list. -/
def Apportioner.leaveStanding (a : Apportioner) (i : Fin 16) : Apportioner :=
  { a with standing := a.standing.filter (· != i) }

/-- Leave the shed stack from whatever depth (R26). -/
def Apportioner.leaveStack (a : Apportioner) (i : Fin 16) : Apportioner :=
  { a with shedStack := a.shedStack.filter (· != i) }

/-- Leave the waiting queue; the entries behind move up (R27). -/
def Apportioner.leaveQueue (a : Apportioner) (i : Fin 16) : Apportioner :=
  { a with waiting := a.waiting.filter (· != i) }

/-- Join the waiting queue at the tail, or keep the place already held (R27). -/
def Apportioner.joinQueue (a : Apportioner) (i : Fin 16) : Apportioner :=
  if a.waiting.contains i then a else { a with waiting := a.waiting ++ [i] }

/-- The walk order: the standing list reversed (R25). -/
def Apportioner.walkOrder (a : Apportioner) : List (Fin 16) := a.standing.reverse

/-- The greatest sequence number (R28). -/
def sequenceTop : Nat := 2147483647

/-- Renumber the grant sequences of the standing list from 1, keeping their order (R28). -/
def Apportioner.renumberGrants (a : Apportioner) : Apportioner :=
  let seqOf := fun i : Fin 16 => (a.claims[i]).grantSeq.getD 0
  { a with
    claims := Vector.ofFn fun i =>
      let c := a.claims[i]
      if a.standing.contains i then
        { c with grantSeq := some (1 + a.standing.countP fun j => decide (seqOf j < c.grantSeq.getD 0)) } else c
    grantCounter := a.standing.length }

/-- Renumber the shed sequences of the shed stack from 1, bottom upward (R28). -/
def Apportioner.renumberSheds (a : Apportioner) : Apportioner :=
  let seqOf := fun i : Fin 16 => (a.claims[i]).shedSeq.getD 0
  { a with
    claims := Vector.ofFn fun i =>
      let c := a.claims[i]
      if a.shedStack.contains i then
        { c with shedSeq := some (1 + a.shedStack.countP fun j => decide (seqOf j < c.shedSeq.getD 0)) } else c
    shedCounter := a.shedStack.length }

/-- The grant counter one higher, renumbered first where it stands at its top (R28). -/
def Apportioner.nextGrant (a : Apportioner) : Apportioner :=
  let b := if a.grantCounter = sequenceTop then a.renumberGrants else a
  { b with grantCounter := b.grantCounter + 1 }

/-- The shed counter one higher, renumbered first where it stands at its top (R28). -/
def Apportioner.nextShed (a : Apportioner) : Apportioner :=
  let b := if a.shedCounter = sequenceTop then a.renumberSheds else a
  { b with shedCounter := b.shedCounter + 1 }

/-! ### Taking power back (R30 to R32) -/

/-- Shed a claim (R30). -/
def Apportioner.shed (i : Fin 16) (a : Apportioner) : Apportioner :=
  let b := ((a.leaveStanding i).leaveQueue i).nextShed
  let c := b.claims[i]
  let b := b.setClaim i
    { c with state := .shed, granted := 0, grantSeq := none, shedSeq := some b.shedCounter, offerLeft := none }
  { b with shedStack := i :: b.shedStack }

/-- Withdraw an offer (R31). -/
def Apportioner.withdraw (i : Fin 16) (a : Apportioner) : Apportioner :=
  let b := a.leaveStanding i
  let c := b.claims[i]
  (b.setClaim i { c with state := .waiting, granted := 0, grantSeq := none, offerLeft := none }).joinQueue i

/-- Take the power of a claim in the standing list back: shed it if HELD, withdraw it if OFFERED (R32). -/
def Apportioner.takeFrom (i : Fin 16) (a : Apportioner) : Apportioner :=
  match (a.claims[i]).state with
  | .held => a.shed i
  | .offered => a.withdraw i
  | .free => a
  | .waiting => a
  | .shed => a

/-- Take claims back in the order given until the granted sum is at or below the limit (R32, R36). -/
def Apportioner.takeBack (limit : Nat) : List (Fin 16) → Apportioner → Apportioner
  | [], a => a
  | i :: rest, a => if a.grantedSum ≤ limit then a else takeBack limit rest (a.takeFrom i)

/-- Start the stagger timer, afresh if it runs (R33). -/
def Apportioner.startStagger (stagger : Nat) (a : Apportioner) : Apportioner := { a with stagger := some stagger }

/-- The shed walk of a budget drop, with the stagger timer started afresh if it took a claim (R32). -/
def Apportioner.shedWalk (budget stagger : Nat) (a : Apportioner) : Apportioner :=
  if a.grantedSum ≤ budget then a else (a.takeBack budget a.walkOrder).startStagger stagger

/-! ### Granting (R35 to R38) -/

/-- What a grant opportunity reads: the apportionable budget, STAGGER, COLLECTION_WINDOW, and SERVICE_SHED_PRIO while
SHED_SERVICE is in force. -/
structure GrantArgs where
  budget : Nat
  stagger : Nat
  window : Nat
  service : Option Nat
  deriving DecidableEq, Repr

/-- The reading at this moment (R16). -/
def State.grantArgs (s : State) : GrantArgs :=
  ⟨s.apportionable, s.setting Setting.stagger, s.setting Setting.collectionWindow,
   if s.shedServiceInForce then some (s.setting Setting.serviceShedPrio) else none⟩

/-- A link-owned claim of priority at or below SERVICE_SHED_PRIO (R35, R49). -/
def Apportioner.covered (a : Apportioner) (prio : Nat) (i : Fin 16) : Bool :=
  decide (6 ≤ i.val ∧ (a.claims[i]).priority ≤ prio)

/-- A claim left out of the candidates while SHED_SERVICE is in force (R35). -/
def Apportioner.leftOut (a : Apportioner) (service : Option Nat) (i : Fin 16) : Bool :=
  match service with
  | none => false
  | some prio => a.covered prio i

/-- The candidates in rank order: by priority, SHED claims from the top of the stack first, then queue entries (R35). -/
def Apportioner.candidates (a : Apportioner) (service : Option Nat) : List (Fin 16) :=
  [7, 6, 5, 4, 3, 2, 1, 0].flatMap fun p =>
    (a.shedStack ++ a.waiting).filter fun i => (a.claims[i]).priority == p && !a.leftOut service i

/-- A candidate's increase: asked less granted (R35). -/
def Apportioner.increase (a : Apportioner) (i : Fin 16) : Nat := (a.claims[i]).asked - (a.claims[i]).granted

/-- The candidate fits (R35). -/
def Apportioner.fits (a : Apportioner) (budget : Nat) (i : Fin 16) : Bool :=
  decide (a.grantedSum + a.increase i ≤ budget)

/-- Grant a claim (R38) and start the stagger timer (R33). -/
def Apportioner.grant (g : GrantArgs) (i : Fin 16) (a : Apportioner) : Apportioner :=
  let c := a.claims[i]
  if c.state = .held then
    ((a.setClaim i { c with granted := c.asked }).leaveQueue i).startStagger g.stagger
  else
    let b := ((a.leaveStack i).leaveQueue i).nextGrant
    let c := b.claims[i]
    let link := decide (6 ≤ i.val)
    ((b.setClaim i
        { c with
          state := if link then .offered else .held, granted := c.asked, grantSeq := some b.grantCounter,
          shedSeq := none, offerLeft := if link then some g.window else none }).joinStanding i).startStagger g.stagger

/-- The lower-priority claims of the standing list in walk order (R36). -/
def Apportioner.lowerHolders (a : Apportioner) (i : Fin 16) : List (Fin 16) :=
  a.walkOrder.filter fun j => decide ((a.claims[j]).priority < (a.claims[i]).priority)

/-- Shedding every lower-priority claim would make room for the candidate (R36). -/
def Apportioner.roomByShedding (a : Apportioner) (budget : Nat) (i : Fin 16) : Bool :=
  decide (a.grantedSum - ((a.lowerHolders i).map fun j => (a.claims[j]).granted).sum + a.increase i ≤ budget)

/-- A grant opportunity: the top candidate, by shedding if need be (R36), else the first other that fits (R37). -/
def Apportioner.opportunity (g : GrantArgs) (a : Apportioner) : Apportioner :=
  match a.candidates g.service with
  | [] => a
  | top :: others =>
    if a.fits g.budget top then a.grant g top
    else if a.roomByShedding g.budget top then
      (a.takeBack (g.budget - a.increase top) (a.lowerHolders top)).grant g top
    else
      match others.find? (a.fits g.budget) with
      | none => a
      | some i => a.grant g i

/-! ### Opening, amending, freeing (R42 to R46) -/

/-- Make a claim FREE: it leaves every collection it was in (R41, R44). -/
def Apportioner.release (i : Fin 16) (a : Apportioner) : Apportioner :=
  (((a.leaveStanding i).leaveStack i).leaveQueue i).setClaim i Claim.free

/-- Open a claim in a slot: WAITING at the tail of the queue (R42, R45). -/
def Apportioner.openSlot (i : Fin 16) (consumer priority asked tag : Nat) (a : Apportioner) : Apportioner :=
  (a.setClaim i ⟨.waiting, consumer, priority, asked, 0, tag, none, none, none⟩).joinQueue i

/-- Amend a claim's asked (R43); an OFFERED claim is not raised. -/
def Apportioner.amend (i : Fin 16) (asked : Nat) (a : Apportioner) : Apportioner :=
  let c := a.claims[i]
  match c.state with
  | .free => a
  | .waiting => a.setClaim i { c with asked := asked }
  | .shed => a.setClaim i { c with asked := asked }
  | .offered => if asked ≤ c.asked then a.setClaim i { c with asked := asked, granted := asked } else a
  | .held =>
    if asked ≤ c.granted then (a.setClaim i { c with asked := asked, granted := asked }).leaveQueue i
    else (a.setClaim i { c with asked := asked }).joinQueue i

/-- Take an offer: HELD, the deadline cancelled (R40). -/
def Apportioner.collect (i : Fin 16) (a : Apportioner) : Apportioner :=
  a.setClaim i { a.claims[i] with state := .held, offerLeft := none }

/-- An engine's request for an amount in its own slot: an open, an amendment, or for 0 a retirement; more than the rated
ask is taken at the rated ask (R45, R46). -/
def Apportioner.engineAsk (i : Fin 16) (priority asked : Nat) (a : Apportioner) : Apportioner :=
  let want := min asked (ratedAsk i.val)
  if (a.claims[i]).state = .free then if want = 0 then a else a.openSlot i i.val priority want 0
  else if want = 0 then a.release i
  else a.amend i want

/-! ### Service shedding (R49) -/

/-- The claims that SHED_SERVICE sheds, in its order: HELD and OFFERED in walk order, then WAITING from the head (R49). -/
def Apportioner.serviceClaims (a : Apportioner) (prio : Nat) : List (Fin 16) :=
  (a.walkOrder ++ a.waiting.filter fun i => (a.claims[i]).state == .waiting).filter (a.covered prio)

/-- SHED_SERVICE comes into force (R49). -/
def Apportioner.serviceShed (prio stagger : Nat) (a : Apportioner) : Apportioner :=
  match a.serviceClaims prio with
  | [] => a
  | is => (is.foldl (fun b i => b.shed i) a).startStagger stagger

/-! ### The apportioner's part of an event -/

/-- Apply an operation of the apportioner and report CLAIM_SHED where the shed stack became non-empty or empty (R51; log
15). -/
def State.apportion (f : Apportioner → Apportioner) (s : State) : State :=
  let t := { s with app := f s.app }
  t.takeReport Cond.claimShed (causeIs (!t.app.shedStack.isEmpty))

/-- As `apportion`, for an operation that may start the stagger timer: a start at 0 is noted, whatever stood in the timer
before (R33). No operation reads the timer, so that it starts one exactly where it leaves an idle one running. -/
def State.apportionStarting (f : Apportioner → Apportioner) (s : State) : State :=
  let t := s.apportion f
  let started := (f { s.app with stagger := none }).stagger
  { t with ev := { t.ev with zeroStagger := t.ev.zeroStagger || started == some 0 } }

/-- As `apportion`, for a request that is a claim event if it changes a claim (R34). -/
def State.claimRequest (f : Apportioner → Apportioner) (s : State) : State :=
  if f s.app = s.app then s else (s.apportion f).claimEvent

/-- An engine's request for its own slot; the priority is the engine's setting at that moment (R45). -/
def State.engineRequest (i : Fin 16) (asked : Nat) (s : State) : State :=
  s.claimRequest (Apportioner.engineAsk i (s.setting ⟨25 + min i.val 5, by omega⟩) asked)

end Sys2Proof.Machine
end

