-- ==== Sys2Proof/Machine/YawEngine.lean ====
section
/-!
DEFINITION. The yaw engine: ending and admitting routes (R132, R133), segment start (R143, R144) and the moves between the
engine states (R141 to R152). What the engine reports stands with the arrivals in YawEvents.lean.
-/
namespace Sys2Proof.Machine

/-! ### The alignment windows (R119) -/

/-- A window opened for a length in ms (R119). DESIGN CHOICE (log 34): its mark is 0 also where it opens while the stream
is already STALE or channel 7 already stale; only a report sets it (R120). -/
def Window.fresh (length : Nat) : Window := ⟨length, length, 0, 0, false⟩

/-- Both windows are opened (R119). -/
def State.openWindows (s : State) : State :=
  { s with
    align :=
      { s.align with
        short := some (Window.fresh (1000 * s.setting Setting.shortWindow))
        long := some (Window.fresh (1000 * s.setting Setting.longWindow)) } }

/-- Both windows are cleared (R119). -/
def State.clearWindows (s : State) : State := { s with align := { s.align with short := none, long := none } }

/-! ### Segment start (R143, R144) -/

/-- The direction, travel and target twist that a segment start writes to fields 7 to 9 (R143). -/
structure TurnPlan where
  direction : Option Turn
  travel : Nat
  target : Int
  deriving DecidableEq, Repr

/-- A turn by a travel; a travel of 0 leaves the direction absent (R143). -/
def turnBy (d : Turn) (travel : Nat) (twist : Int) : TurnPlan :=
  ⟨if travel = 0 then none else some d, travel,
   match d with
   | .cw => twist + travel
   | .ccw => twist - travel⟩

/-- The signed amount turned by its sign, its magnitude the travel (R143). -/
def turnSigned (amount twist : Int) : TurnPlan :=
  if amount < 0 then turnBy .ccw amount.natAbs twist else turnBy .cw amount.natAbs twist

/-- The travel in one sense to an amount modulo a full turn (R143). -/
def moduloTravel (amount : Int) : Nat := (amount % 36000).toNat

/-- The travel of a RELATIVE value in the sense in which it counts positive: the value itself if 0 or more, otherwise
36000 less its magnitude modulo 36000, and 0 if that is 36000 (R143). -/
def relativeTravel (value : Int) : Nat :=
  if 0 ≤ value then value.toNat else (36000 - value.natAbs % 36000) % 36000

/-- The other way round: 36000 less the travel in the other direction (R143). A travel of 0 has no other way. -/
def TurnPlan.otherWay (p : TurnPlan) (twist : Int) : TurnPlan :=
  match p.direction with
  | none => p
  | some .cw => turnBy .ccw (36000 - p.travel) twist
  | some .ccw => turnBy .cw (36000 - p.travel) twist

/-- The travel would take the twist past the limit (R144). -/
def TurnPlan.pastLimit (p : TurnPlan) (limit : Nat) (twist : Int) : Bool :=
  decide (limit < p.target.natAbs ∧ twist.natAbs < p.target.natAbs)

/-- The amount of an ABSOLUTE or RELATIVE target: its offset from the heading, or its value (R143). -/
def Segment.amount (g : Segment) (heading : Nat) : Int :=
  match g.kind with
  | .absolute => g.target - heading
  | .relative => g.target
  | .twist => g.target

/-- The travel under CW or CCW, the amount counted positive in that sense (R143). -/
def Segment.sensedTravel (g : Segment) (amount : Int) : Nat :=
  match g.kind with
  | .absolute => moduloTravel amount
  | .relative => relativeTravel amount
  | .twist => moduloTravel amount

/-- The turn a segment asks for from a heading and twist (R143, R144). -/
def Segment.plan (g : Segment) (limit heading : Nat) (twist : Int) : TurnPlan :=
  if g.kind = .twist then turnSigned (g.target - twist) twist
  else
    let amount := g.amount heading
    let near := turnSigned (normalise amount) twist
    match g.direction with
    | .shortest => near
    | .cw => turnBy .cw (g.sensedTravel amount) twist
    | .ccw => turnBy .ccw (g.sensedTravel (-amount)) twist
    | .safe => if near.pastLimit limit twist then near.otherWay twist else near

/-- The stop lead of a speed (R144). -/
def State.stopLead (s : State) (v : Speed) : Nat :=
  match v with
  | .normal => s.setting Setting.stopLeadNormal
  | .slow => s.setting Setting.stopLeadSlow

/-- The rate of a speed (R145). -/
def State.turnRate (s : State) (v : Speed) : Nat :=
  match v with
  | .normal => s.setting Setting.rateNormal
  | .slow => s.setting Setting.rateSlow

/-! ### Routes (R132, R133) -/

/-- End the RUNNING route, if there is one, with an outcome at the present position (R133). -/
def State.endRoute (o : RouteOutcome) (s : State) : State :=
  match s.runningRoute with
  | none => s
  | some r =>
    s.setRoute r { s.routes.routes[r] with state := .ended, outcome := some o, endedIn := some s.yaw.position }

/-- The turn at the present position is complete: segments done increases, and after the last segment the route ends DONE
(R145). -/
def State.completeTurn (s : State) : State :=
  match s.runningRoute with
  | none => s
  | some r =>
    let route := s.routes.routes[r]
    let t := s.setRoute r { route with done := route.done.map (· + 1) }
    if s.yaw.position = route.slots.length then t.endRoute .done else t

/-! ### Engine states (R141 to R148) -/

/-- The segment figures become absent (R148). -/
def Yaw.dropFigures (y : Yaw) : Yaw := { y with direction := none, travel := none, target := none }

/-- Enter PARKED: slot 0 is retired, brake hold cleared, the windows opened (R148). -/
def State.park (s : State) : State :=
  ({ s with
    yaw :=
      { s.yaw.dropFigures with
        engine := .parked, route := none, position := 0, begun := false, stageLeft := none, idleLeft := none,
        budgetLeft := none, brakeHold := false } }.openWindows).engineRequest 0 0

/-- Enter SETTLING (R147). -/
def State.enterSettling (s : State) : State :=
  { s with
    yaw :=
      { s.yaw with
        engine := .settling, stageLeft := some (s.setting Setting.settleTime), idleLeft := none,
        budgetLeft := none } }

/-- Enter BRAKING and start the apply timer (R147). -/
def State.applyBrake (s : State) : State :=
  { s with
    yaw :=
      { s.yaw with
        engine := .braking, stageLeft := some (s.setting Setting.brakeApplyTimeout), idleLeft := none,
        budgetLeft := none } }

/-- Enter TURNING: the idle timer and the segment time budget start (R145). -/
def State.enterTurning (g : Segment) (travel : Nat) (s : State) : State :=
  { s with
    yaw :=
      { s.yaw with
        engine := .turning, stageLeft := none, idleLeft := some (s.setting Setting.encoderIdleLimit),
        budgetLeft := some (ceilDiv (travel * 2000) (s.turnRate g.speed) + 20000) } }

/-- The segment at the present position of the engine route. -/
def State.presentSegment (s : State) : Option Segment := s.yaw.route.bind fun r => s.segmentAt r s.yaw.position

/-- Start the segment at the present position, the brake being open (R143, R144). DESIGN CHOICE (log 36): the direction is
written for every travel above 0 (R143), also where the segment does not turn, though R136 shows it from a start that
turns. -/
def State.startSegment (s : State) : State :=
  match s.presentSegment with
  | none => s
  | some g =>
    let limit := s.setting Setting.twistHardLimit
    let p := g.plan limit s.yaw.heading s.yaw.twist
    let t :=
      { s with
        yaw :=
          { s.yaw with
            direction := p.direction, travel := some p.travel, target := some p.target, stageLeft := none } }
    if p.pastLimit limit s.yaw.twist then (t.endRoute .limit).applyBrake
    else if p.travel ≤ s.stopLead g.speed then t.completeTurn.applyBrake
    else t.enterTurning g p.travel

/-- Enter RELEASING for the segment at the present position; it starts at once if BRAKE_OPEN is active (R142). -/
def State.enterReleasing (s : State) : State :=
  let t :=
    { s with
      yaw :=
        { s.yaw.dropFigures with
          engine := .releasing, begun := true, stageLeft := some (s.setting Setting.brakeReleaseTimeout) } }
  if s.level .brakeOpen then t.startSegment else t

/-- The present position advances by one (R148). -/
def State.advance (s : State) : State := { s with yaw := { s.yaw with position := s.yaw.position + 1 } }

/-- Leave BRAKING (R148). -/
def State.leaveBraking (s : State) : State :=
  match s.runningRoute with
  | none => s.park
  | some r =>
    if !s.yaw.begun then { s with yaw := { s.yaw with position := 1 } }.enterReleasing
    else if s.routes.routes[r].done = some s.yaw.position then
      match (s.segmentAt r s.yaw.position).map (·.dwell) with
      | some (d + 1) => { s with yaw := { s.yaw with engine := .dwelling, stageLeft := some (1000 * (d + 1)) } }
      | _ => s.advance.enterReleasing
    else s.park

/-- Enter BRAKING; a brake already closed is confirmed at once (R147), after a release expiry too: DESIGN CHOICE (log 33)
between R147 and R142. -/
def State.enterBraking (s : State) : State := if s.level .brakeOpen then s.applyBrake else s.applyBrake.leaveBraking

/-! ### Stop causes and preemption (R149 to R152) -/

/-- The stop path of the state the engine is in (R151). -/
def State.stopPath (s : State) : State :=
  match s.yaw.engine with
  | .claiming => s.park
  | .releasing => s.enterBraking
  | .turning => s.enterSettling
  | .dwelling => s.park
  | .settling => s
  | .braking => s
  | .parked => s

/-- A stop cause: the RUNNING route, if there is one, ends and the engine takes its stop path (R149 to R151). -/
def State.stopRunning (o : RouteOutcome) (s : State) : State :=
  if s.runningRoute.isSome then (s.endRoute o).stopPath else s

/-- The yaw claim has been shed (R150). -/
def State.yawShed (s : State) : State := { s with yaw := { s.yaw with brakeHold := true } }.stopRunning .shed

/-- The yaw claim has been granted: acted on in CLAIMING only (R141, R150). -/
def State.yawGranted (s : State) : State := if s.yaw.engine = .claiming then s.enterReleasing else s

/-- The engine works for a route from position 1, not yet begun. -/
def State.takeRoute (r : Fin 6) (s : State) : State :=
  { s with yaw := { s.yaw with route := some r, position := 1, begun := false } }

/-- Start the claim wait timer (R141). -/
def State.startClaimWait (s : State) : State :=
  { s with yaw := { s.yaw with stageLeft := some (1000 * s.setting Setting.claimWait) } }

/-- The rated ask of the yaw drive group (R141). -/
def yawAsk : Nat := ratedAsk 0

/-- A run that finds the engine PARKED: CLAIMING, the windows cleared, slot 0 opened (R141). -/
def State.startRun (r : Fin 6) (s : State) : State :=
  ({ s with yaw := { s.yaw with engine := .claiming } }.takeRoute r).startClaimWait.clearWindows.engineRequest 0 yawAsk

/-- The engine at a preemption, the old route having ended (R152). -/
def State.preempt (r : Fin 6) (s : State) : State :=
  let t := s.takeRoute r
  match s.yaw.engine with
  | .claiming => t.startClaimWait
  | .releasing => t.enterBraking
  | .turning => t.enterSettling
  | .dwelling => t.enterReleasing
  | .settling => t
  | .braking => t
  | .parked => t

/-- Admit a route that has passed its checks: a RUNNING route is preempted, and the new one starts from position 1
(R132). -/
def State.admitRoute (r : Fin 6) (s : State) : State :=
  let t := s.endRoute .preempted
  let t :=
    t.setRoute r { t.routes.routes[r] with state := .running, done := some 0, outcome := none, endedIn := none }
  if s.runningRoute.isSome then t.preempt r else t.startRun r

end Sys2Proof.Machine
end

