-- ==== Sys2Proof/Machine/Judge.lean ====
section
/-!
DEFINITION. What one block's act does to the others within the event: the consequences told (R165), the owners told of
their claims (R47), the grant opportunity (R34).
-/
namespace Sys2Proof.Machine

/-! ### The converter under consequences (R88, R89) -/

/-- The converter is energised: TRIP takes it to TRIPPED (R88). -/
def ConverterState.energised (c : ConverterState) : Bool :=
  c == .precharging || c == .charged || c == .running || c == .riding

/-- Enter TRIPPED; the trip reason is set from the onsets of the event at its end (R88, R90). -/
def State.enterTripped (s : State) : State :=
  { s with
    conv := { s.conv with state := .tripped, step := none, seqLeft := none }
    ev := { s.ev with tripped := true } }

/-- TRIP comes into force (R88). -/
def State.tripConverter (s : State) : State := if s.conv.state.energised then s.enterTripped else s

/-- Set the converter state alone. -/
def State.setConverter (st : ConverterState) (s : State) : State := { s with conv := { s.conv with state := st } }

/-- HOLD_CONVERTER comes into force (R89). -/
def State.holdConverter (s : State) : State := if s.conv.state.delivering then s.setConverter .charged else s

/-! ### Consequences told (R165) -/

/-- SHED_SERVICE comes into force (R49). -/
def State.shedService (s : State) : State :=
  s.apportionStarting (Apportioner.serviceShed (s.setting Setting.serviceShedPrio) (s.setting Setting.stagger))

/-- Tell the blocks each change of a consequence's presence. HOLD_CONVERTER and TRIP together trip (R89); SUPPRESS_AUTO is
read at each window close and needs no telling. -/
def State.tell (told now : Consequences) (s : State) : State :=
  let s := if now.trip && !told.trip then s.tripConverter else s
  let s := if now.hold && !told.hold then s.holdConverter else s
  let s := if now.inhibitYaw && !told.inhibitYaw then s.stopRunning .inhibited else s
  let s := if now.shedService && !told.shedService then s.shedService else s
  if told.shedService && !now.shedService then s.claimEvent else s

/-- Judge the consequences in force against what the blocks were last told, and tell them the changes (R165). -/
def State.judge (s : State) : State :=
  let now := s.cond.inForce
  { s with cond := { s.cond with told := now } }.tell s.cond.told now

/-- A group of reports: taken in order, then judged (R165). -/
def State.report (g : Group) (s : State) : State := (s.takeReports g).judge

/-! ### Actuators (R108 to R112) -/

/-- The claim amount of a level for an actuator: rated ask × DUTY_L ÷ 100, rounded up (R109). -/
def State.claimAmount (s : State) (z : Zone) (level : Nat) : Nat :=
  ceilDiv (ratedAsk (homeSlot z).val * s.setting (Setting.duty level)) 100

/-- The highest level at or below the bound whose claim amount the grant pays for; 0 if none does (R110). -/
def State.paidLevel (s : State) (z : Zone) (granted : Nat) : Nat → Nat
  | 0 => 0
  | l + 1 => if s.claimAmount z (l + 1) ≤ granted then l + 1 else s.paidLevel z granted l

/-- The effective level of an actuator (R110). -/
def State.effectiveLevel (s : State) (z : Zone) : Nat :=
  if s.isHeld (homeSlot z) then s.paidLevel z (s.claim (homeSlot z)).granted (s.cool.zones.get z).actuatorDemand else 0

/-- The flow check follows its arming (R112); FAILED is not left this way. -/
def State.armFlow (p : Pump) (s : State) : State :=
  let f := s.cool.flow.get p
  let armed := s.isHeld (homeSlot (pumpZone p)) && decide (1 ≤ (s.cool.zones.get (pumpZone p)).effective)
  match f.state with
  | .idle =>
    if armed then
      if s.level (pumpLine p) then s.setFlow p ⟨.flowing, none⟩
      else s.setFlow p ⟨.awaiting, some (1000 * s.setting Setting.flowWindow)⟩
    else s
  | .awaiting => if armed then s else s.setFlow p ⟨.idle, none⟩
  | .flowing => if armed then s else s.setFlow p ⟨.idle, none⟩
  | .failed => s

/-- Recompute an actuator's effective level and duty, and its pump's flow check (R110, R112). -/
def State.refreshActuator (s : State) (z : Zone) : State :=
  let e := s.effectiveLevel z
  let t := s.setZone z { s.cool.zones.get z with effective := e, duty := s.setting (Setting.duty e) }
  match zonePump z with
  | none => t
  | some p => t.armFlow p

/-! ### The owners of the engine claims (R47) -/

/-- The slot's state or granted changed (R47). -/
def claimMoved (before s : State) (i : Fin 16) : Bool :=
  (before.claim i).state != (s.claim i).state || (before.claim i).granted != (s.claim i).granted

/-- Note actuators whose effective level and duty are to be recomputed once the apportioner has answered (R101 item 6,
R110). -/
def State.noteActuators (homes : List Zone) (s : State) : State :=
  { s with ev := { s.ev with actuators := s.ev.actuators ++ homes } }

/-- The Cooling Controller is told of its claims (R47, R110). -/
def State.tellCooling (before s : State) : State :=
  s.noteActuators (consumerOrder.filter fun z => claimMoved before s (homeSlot z))

/-- After the last answer of the apportioner in the event, the effective levels and duties of the actuators noted, in
consumer order (R101 item 6, R110). -/
def State.settleActuators (s : State) : State :=
  (consumerOrder.filter fun z => s.ev.actuators.contains z).foldl State.refreshActuator s

/-- The Converter Sequencer is told when slot 1 becomes HELD and when it leaves HELD (R47, R82, R95). -/
def State.tellConverter (before s : State) : State :=
  if !before.isHeld 1 && s.isHeld 1 then { s with conv := { s.conv with flowProven := s.level .flowConv } }
  else if before.isHeld 1 && !s.isHeld 1 then
    let t := { s with conv := { s.conv with flowProven := false } }
    if s.conv.state.delivering then t.report [(Cond.coolingLost, .occurs)] else t
  else s

/-- The Yaw Sequencer is told of the grant and the shed of slot 0 (R47, R141, R150). -/
def State.tellYaw (before s : State) : State :=
  if !before.isHeld 0 && s.isHeld 0 then s.yawGranted
  else if (before.claim 0).state != .shed && (s.claim 0).state == .shed then s.yawShed
  else s

/-- The owners of engine claims are told, after an operation of the apportioner, of what it changed (R47; log 14). -/
def State.tellOwners (before s : State) : State :=
  State.tellYaw before (State.tellConverter before (State.tellCooling before s))

/-- A grant opportunity, if the stagger timer is idle (R34 to R38); a change of a slot tells its owner. -/
def State.grantOpportunity (s : State) : State :=
  if s.app.stagger.isNone then State.tellOwners s (s.apportionStarting (Apportioner.opportunity s.grantArgs)) else s

end Sys2Proof.Machine
end

