-- ==== Sys2Proof/Machine/Cooling.lean ====
section
/-!
DEFINITION. The Cooling Controller: zone evaluation (R101 to R109), stale zones (R100), flow supervision (R113, R114).
-/
namespace Sys2Proof.Machine

/-! ### Thermal state, ceiling and computed level (R102 to R104) -/

/-- The rising state: the highest whose entry threshold the reading is at or above (R102). -/
def Thresholds.rising (l : Thresholds) (t : Int) : ThermalState :=
  if (l.critical : Int) ≤ t then .critical else if (l.hot : Int) ≤ t then .hot
  else if (l.warm : Int) ≤ t then .warm else .normal

/-- The entry threshold of WARM still holds the zone there: the reading is above it less 2.0 °C (R102). -/
def Thresholds.fallFromWarm (l : Thresholds) (t : Int) : ThermalState := if (l.warm : Int) - 20 < t then .warm else .normal

/-- As for WARM, from HOT (R102). -/
def Thresholds.fallFromHot (l : Thresholds) (t : Int) : ThermalState :=
  if (l.hot : Int) - 20 < t then .hot else l.fallFromWarm t

/-- As for WARM, from CRITICAL (R102). -/
def Thresholds.fallFromCritical (l : Thresholds) (t : Int) : ThermalState :=
  if (l.critical : Int) - 20 < t then .critical else l.fallFromHot t

/-- The state a zone falls to from its present state: the highest at or below it that still holds (R102). -/
def Thresholds.falling (l : Thresholds) (present : ThermalState) (t : Int) : ThermalState :=
  match present with
  | .normal => .normal
  | .warm => l.fallFromWarm t
  | .hot => l.fallFromHot t
  | .critical => l.fallFromCritical t

/-- The thermal state at an evaluation; HOT as stale (R102). -/
def Thresholds.judge (l : Thresholds) (present : ThermalState) (reading : Option Int) : ThermalState :=
  match reading with
  | none => .hot
  | some t => if present.code < (l.rising t).code then l.rising t else l.falling present t

/-- The thermal ceiling of a state, in % (R103). -/
def Thresholds.ceiling (l : Thresholds) (floor : Nat) (st : ThermalState) (reading : Option Int) : Nat :=
  match st with
  | .normal => 100
  | .warm =>
    match reading with
    | none => 100
    | some t => 100 - ceilDiv ((100 - floor) * (t - l.warm).toNat) (l.hot - l.warm)
  | .hot => floor
  | .critical => 0

/-- The computed level; 15 as stale (R104). -/
def Thresholds.level (l : Thresholds) (reading : Option Int) : Nat :=
  match reading with
  | none => 15
  | some t =>
    if t ≤ l.start then 0 else if (l.full : Int) ≤ t then 15 else ceilDiv (15 * (t - l.start).toNat) (l.full - l.start)

/-! ### Demand (R105, R106) -/

/-- The target level: the computed level, for CONV at least CONV_MIN_LEVEL while the converter is not OFF (R105). -/
def State.targetLevel (s : State) (z : Zone) (computed : Nat) : Nat :=
  if z = .conv ∧ s.conv.state ≠ .off then max computed (s.setting Setting.convMinLevel) else computed

/-- The demand level follows the target upward at once and downward after the decrease hold (R106). -/
def ZoneRec.follow (target holdTime : Nat) (r : ZoneRec) : ZoneRec :=
  if target > r.demand then { r with target := target, demand := target, hold := none }
  else if target = r.demand then { r with target := target, hold := none }
  else { r with target := target, hold := some (r.hold.getD holdTime) }

/-- Steps 1 to 4 of a zone evaluation (R101). -/
def State.evaluated (s : State) (z : Zone) : ZoneRec :=
  let r := s.cool.zones.get z
  let reading := s.temperature z
  let st := r.limits.judge r.thermal reading
  let computed := r.limits.level reading
  { r with
    thermal := st
    ceiling := r.limits.ceiling (s.setting Setting.derateFloor) st reading
    computed := some computed }.follow (s.targetLevel z computed) (1000 * s.setting Setting.levelDecreaseHold)

/-! ### Actuators (R108, R109) -/

/-- The zones that an actuator, named by its home record, serves (R108). -/
def zonesServed (home : Zone) : List Zone :=
  match home with
  | .conv => [.conv]
  | .gen => [.gen]
  | .chop => [.conv, .chop]
  | .xfmr => [.gen, .xfmr]
  | .cab => [.cab]

/-- The proving minimum of a pump: 1 while its PUMP_NO_FLOW cause is present, that is while its check is FAILED (R108,
R113). -/
def State.provingMinimum (s : State) (home : Zone) : Nat :=
  match zonePump home with
  | none => 0
  | some p => if (s.cool.flow.get p).state = .failed then 1 else 0

/-- The actuator demand: the larger demand of the zones served, and the proving minimum (R108). DESIGN CHOICE (log 42): a zone
not yet evaluated counts with its demand level 0, so the other zone of a shared actuator opens its claim before that
zone's first evaluation, though R101 says that the actuators of a zone make no claim before it. -/
def State.actuatorDemand (s : State) (home : Zone) : Nat :=
  ((zonesServed home).map fun z => (s.cool.zones.get z).demand).foldl max (s.provingMinimum home)

/-- Recompute an actuator demand and make its request to the apportioner (R108, R109). -/
def State.askActuator (s : State) (home : Zone) : State :=
  let d := s.actuatorDemand home
  (s.setZone home { s.cool.zones.get home with actuatorDemand := d }).engineRequest (homeSlot home)
    (s.claimAmount home d)

/-- Recompute actuators in consumer order; what the owners hear; their effective levels follow once the apportioner has
answered, at the end of the event (R101 items 5 and 6, R109, R110). -/
def State.driveActuators (homes : List Zone) (s : State) : State :=
  State.tellOwners s ((homes.foldl State.askActuator s).noteActuators homes)

/-! ### Zone evaluation (R101) -/

/-- The reports of a zone's thermal state (R103). -/
def zoneReports (z : Zone) (st : ThermalState) : Group :=
  [(Cond.zoneHot z, causeIs (st == .hot || st == .critical)), (Cond.zoneCritical z, causeIs (st == .critical))]

/-- A decrease hold has been started at 0 in zone `z` between the two states: LEVEL_DECREASE_HOLD was 0 (R106). -/
def zeroHoldStarted (before s : State) (z : Zone) : Bool :=
  (before.cool.zones.get z).hold.isNone && (s.cool.zones.get z).hold == some 0

/-- Note the decrease holds started at 0; each expires in an event of its own right after this one (R106). -/
def State.noteZeroHolds (before : State) (zs : List Zone) (s : State) : State :=
  { s with ev := { s.ev with zeroHolds := s.ev.zeroHolds ++ zs.filter (zeroHoldStarted before s) } }

/-- Evaluate zones in one event: every zone's record, the reports as one group, then the actuators served (R101; log
16). -/
def State.evaluateZones (zs : List Zone) (s : State) : State :=
  let t := State.noteZeroHolds s zs (zs.foldl (fun t z => t.setZone z (t.evaluated z)) s)
  let t := t.report (zs.flatMap fun z => zoneReports z (t.cool.zones.get z).thermal)
  t.driveActuators (consumerOrder.filter fun home => (zonesServed home).any fun z => zs.contains z)

/-- A decrease hold expires: the demand takes the target of the last evaluation, and the zone is evaluated (R106). -/
def State.holdExpired (z : Zone) (s : State) : State :=
  let r := s.cool.zones.get z
  (s.setZone z { r with demand := r.target, hold := none }).evaluateZones [z]

/-- A fresh reading: the age returns to 0 and the zone is evaluated (R100); its value is already in its channel. -/
def State.freshReading (z : Zone) (s : State) : State :=
  (s.setZone z { s.cool.zones.get z with age := some 0 }).evaluateZones [z]

/-- The Cooling Controller is told that the converter has entered or left OFF (R76, R105). -/
def State.offChanged (s : State) : State := s.evaluateZones [.conv]

/-! ### Flow supervision (R113, R114) -/

/-- A loss of flow: FAILED, PUMP_NO_FLOW arrives, the proving minimum raises the actuator demand (R113). -/
def State.flowLost (p : Pump) (s : State) : State :=
  ((s.setFlow p ⟨.failed, none⟩).report [(Cond.pumpNoFlow p, .arrives)]).driveActuators [pumpZone p]

/-- In FAILED the flow line becomes active: the fault ends, the demand is recomputed without the minimum, and the check is
FLOWING if then armed, else IDLE (R114). -/
def State.flowRecovered (p : Pump) (s : State) : State :=
  ((s.setFlow p ⟨.idle, none⟩).report [(Cond.pumpNoFlow p, .goes)]).driveActuators [pumpZone p]

/-- A filtered change of a flow line at the flow check (R112, R114). -/
def State.flowChanged (p : Pump) (active : Bool) (s : State) : State :=
  let f := s.cool.flow.get p
  match f.state with
  | .idle => s
  | .awaiting => if active then s.setFlow p ⟨.flowing, none⟩ else s
  | .flowing =>
    if active then s.setFlow p ⟨.flowing, none⟩
    else s.setFlow p ⟨.flowing, some (1000 * s.setting Setting.flowLossTime)⟩
  | .failed => if active then s.flowRecovered p else s

/-- FLOW_CONV becoming active proves the pump while slot 1 is HELD (R82). -/
def State.proveFlow (s : State) : State :=
  if s.isHeld 1 then { s with conv := { s.conv with flowProven := true } } else s

end Sys2Proof.Machine
end

