-- ==== Sys2Proof/Machine/Supply.lean ====
section
/-!
DEFINITION. The Supply Monitor: the envelope (R56), the supply states (R57 to R63), budget delivery (R29, R67), the
handing over to the converter (R72, R85).
-/
namespace Sys2Proof.Machine

/-! ### Budget delivery (R29) -/

/-- The apportionable budget has been computed again: a drop runs the shed walk, a rise is a claim event (R29, R32, R34). -/
def State.rebudget (old : Nat) (s : State) : State :=
  if s.apportionable < old then
    State.tellOwners s (s.apportionStarting (Apportioner.shedWalk s.apportionable (s.setting Setting.stagger)))
  else if old < s.apportionable then s.claimEvent
  else s

/-! ### What the converter is handed (R85) -/

/-- The converter at a change of supply state (R85). -/
def State.handSupply (old new : SupplyState) (s : State) : State :=
  match old, new, s.conv.state with
  | .grid, .dip, .running => s.setConverter .riding
  | .dip, .grid, .riding => s.setConverter .running
  | .dip, .lost, .riding => s.enterTripped
  | _, _, _ => s

/-! ### Changes of supply state (R63) -/

/-- No below-time. -/
def noBelow : Vector Nat 6 := Vector.replicate 6 0

/-- The Supply Monitor's own part of a change of supply state: holds, below-times, loss point (R63). -/
def Supply.move (new : SupplyState) (loss : Option Nat) (u : Supply) : Supply :=
  match u.state, new with
  | .grid, .dip => { u with state := .dip }
  | .dip, .grid => { u with state := .grid, recovery := none }
  | .dip, .lost => { u with state := .lost, recovery := none, below := noBelow, lossPoint := loss }
  | .lost, .grid => { u with state := .grid, reconnect := none, below := noBelow, lossPoint := none }
  | .backup, .grid => { u with state := .grid, reconnect := none, below := noBelow, lossPoint := none }
  | _, _ => { u with state := new }

/-- Change the supply state: the record, the budget delivered, the converter handed the change (R63; log 12). -/
def State.changeSupply (new : SupplyState) (loss : Option Nat) (s : State) : State :=
  ({ s with supply := s.supply.move new loss }.rebudget s.apportionable).handSupply s.supply.state new

/-- The reports of GRID_DIP and GRID_LOST (R68, R69). -/
def SupplyState.reports (u : SupplyState) : Group :=
  [(Cond.gridDip, causeIs (u == .dip)), (Cond.gridLost, causeIs (u == .lost || u == .backup))]

/-! ### The envelope (R56) -/

/-- A point is in use. -/
def State.pointInUse (s : State) (k : Fin 6) : Bool := decide (k.val < s.setting Setting.envelopePoints)

/-- The below-time of a point after a frame (R56). -/
def State.belowAfter (s : State) (vmin : Nat) (k : Fin 6) : Nat :=
  if s.pointInUse k && decide (vmin < s.setting (Setting.envelopeLevel k)) then min (s.supply.below[k] + 2) 65535 else 0

/-- Update every below-time at a frame (R56). -/
def State.countBelow (vmin : Nat) (s : State) : State :=
  { s with supply := { s.supply with below := Vector.ofFn (s.belowAfter vmin) } }

/-- A point in use is exceeded (R56). -/
def State.exceeded (s : State) (k : Fin 6) : Bool :=
  s.pointInUse k && decide (s.setting (Setting.envelopeTime k) < s.supply.below[k])

/-- The lowest-numbered point exceeded (R58). -/
def State.firstExceeded (s : State) : Option (Fin 6) := allRoutes.find? s.exceeded

/-! ### Frames (R57 to R60) -/

/-- The recovery hold at a DIP frame (R58 items 2 and 3). -/
def State.judgeRecovery (vmin : Nat) (s : State) : State :=
  { s with
    supply :=
      { s.supply with
        recovery :=
          if s.setting Setting.dipRecoveryLevel ≤ vmin then
            some (s.supply.recovery.getD (s.setting Setting.recoveryHold)) else none } }

/-- The reconnection hold at a LOST or BACKUP frame (R60 items 2 and 3). -/
def State.judgeReconnect (vmin : Nat) (s : State) : State :=
  { s with
    supply :=
      { s.supply with
        reconnect :=
          if s.setting Setting.dipRecoveryLevel ≤ vmin then
            some (s.supply.reconnect.getD (1000 * s.setting Setting.reconnectHold)) else none } }

/-- The backup line compared with LOST or BACKUP (R60 item 1, R61). -/
def State.compareBackup (s : State) : State :=
  match s.supply.state, s.level .backupOnline with
  | .lost, true => s.changeSupply .backup none
  | .backup, false => s.changeSupply .lost none
  | _, _ => s

/-- A frame judged in the supply state (R57, R58, R60). -/
def State.judgeSupply (vmin : Nat) (s : State) : State :=
  match s.supply.state with
  | .grid =>
    let t := s.countBelow vmin
    if vmin < s.setting (Setting.envelopeLevel 0) then t.changeSupply .dip none else t
  | .dip =>
    let t := s.countBelow vmin
    match t.firstExceeded with
    | some k => t.changeSupply .lost (some (k.val + 1))
    | none => t.judgeRecovery vmin
  | .lost => s.compareBackup.judgeReconnect vmin
  | .backup => s.compareBackup.judgeReconnect vmin

/-- The frequency is out of band (R71). -/
def State.outOfBand (s : State) (f : Fast) : Bool :=
  decide (f.frequency < s.setting Setting.freqLow) || decide (s.setting Setting.freqHigh < f.frequency)

/-- FREQ_OUT_OF_BAND at a frame: evaluated in GRID and DIP after the state change; gone elsewhere (R71). -/
def State.freqReport (s : State) (f : Fast) : Report :=
  causeIs ((s.supply.state == .grid || s.supply.state == .dip) && s.outOfBand f)

/-- ENVELOPE_TRIP: an occurrence at a loss that found the converter RUNNING or RIDING when the frame arrived (R70). -/
def envelopeReport (before after : SupplyState) (conv : ConverterState) : Group :=
  if before = .dip ∧ after = .lost ∧ conv.delivering then [(Cond.envelopeTrip, .occurs)] else []

/-- The Supply Monitor at an accepted frame (R55 to R63, R70, R71). -/
def State.supplyFrame (f : Fast) (s : State) : State :=
  let t := s.judgeSupply f.vmin
  t.report
    (t.supply.state.reports ++ envelopeReport s.supply.state t.supply.state s.conv.state ++
      [(Cond.freqOutOfBand, t.freqReport f)])

/-- A hold or the backup line changes the supply state: the change and its reports (R59, R61, R62). -/
def State.supplyMoved (f : State → State) (s : State) : State :=
  let t := f s
  t.report t.supply.state.reports

/-- The stream goes STALE (R64). -/
def State.supplyStale (s : State) : State :=
  { s with supply := { s.supply with recovery := none, reconnect := none } }

end Sys2Proof.Machine
end

