-- ==== Sys2Proof/Machine/Converter.lean ====
section
/-!
DEFINITION. The Converter Sequencer: accepted frames (R80, R86, R93, R94), sequence timers (R80, R81, R86), the breaker
and gate lines (R81, R91, R92), requests (R78 to R87).
-/
namespace Sys2Proof.Machine

/-! ### Sequences (R79 to R81, R86) -/

/-- The charge is complete (R81). -/
def Converter.completeCharge (c : Converter) : Converter := { c with state := .charged, step := none, seqLeft := none }

/-- Enter DISCHARGING with the discharge timer started; the trip reason becomes absent (R86, R87). -/
def State.enterDischarging (s : State) : State :=
  { s with
    conv :=
      { s.conv with
        state := .discharging, step := none, seqLeft := some (1000 * s.setting Setting.dischargeTimeout),
        tripReason := none } }

/-- Vdc in per-mille of VDC_NOMINAL, rounded down (R75). -/
def State.perMille (s : State) (vdc : Nat) : Nat := vdc * 1000 / s.setting Setting.vdcNominal

/-- Vdc reaches PRECHARGE_LEVEL in LINK_CHARGING: BREAKER_CLOSING, complete at once if MAIN_CLOSED is active (R80). -/
def State.closeBreaker (s : State) : State :=
  let c := { s.conv with step := some .breakerClosing, seqLeft := some (s.setting Setting.breakerTimeout) }
  { s with conv := if s.level .mainClosed then c.completeCharge else c }

/-- The sequence at an accepted frame with Vdc in per-mille (R80, R86). -/
def State.sequenceFrame (vdc : Nat) (s : State) : State :=
  match s.conv.state, s.conv.step with
  | .precharging, some .linkCharging => if s.setting Setting.prechargeLevel ≤ vdc then s.closeBreaker else s
  | .discharging, _ =>
    if vdc < s.setting Setting.dischargeSafeLevel then
      { s with conv := { s.conv with state := .off, seqLeft := none } }.offChanged
    else s
  | _, _ => s

/-! ### Overvoltage and chopper energy (R93, R94) -/

/-- The gain of a frame in joules: duty × CHOPPER_RATED ÷ 100; a fraction is taken up or down freely (R94; log 22). -/
def chopperGain (duty rated : Nat) : Nat :=
  let n := duty * rated
  if n % 100 = 0 then n / 100 else if Config.chopperGainUp n then n / 100 + 1 else n / 100

/-- The greatest chopper energy in joules (R94). -/
def energyTop : Nat := 2147483647

/-- The overvoltage run after a frame (R93). -/
def State.overvoltAfter (s : State) (vdc : Nat) : Nat :=
  if s.setting Setting.overvoltLevel ≤ vdc then min (s.conv.overvoltRun + 1) 2 else 0

/-- DC_OVERVOLT after a frame: arriving with a run of 2, gone with a run of 0 (R93). -/
def overvoltReport (run : Nat) : Group :=
  if run = 2 then [(Cond.dcOvervolt, .arrives)] else if run = 0 then [(Cond.dcOvervolt, .goes)] else []

/-- CHOPPER_EXHAUSTED as the energy compares with its limit (R94; log 23). -/
def State.chopperReport (s : State) : Group := [(Cond.chopperExhausted, causeIs s.chopperOver)]

/-- Take a frame's values: Vdc, the Vmin for the ride-through term, the chopper gain, the overvoltage run (R75, R93, R94,
R96). -/
def State.measureFrame (f : Fast) (s : State) : State :=
  let vdc := s.perMille f.vdc
  { s with
    conv :=
      { s.conv with
        vdc := some vdc
        rideVmin := f.vmin
        energy := min (s.conv.energy + chopperGain f.duty (s.setting Setting.chopperRated)) energyTop
        overvoltRun := s.overvoltAfter vdc } }

/-- The Converter Sequencer at an accepted frame. -/
def State.converterFrame (f : Fast) (s : State) : State :=
  let t := (s.measureFrame f).sequenceFrame (s.perMille f.vdc)
  t.report (overvoltReport t.conv.overvoltRun ++ t.chopperReport)

/-- A decay expiry: CHOPPER_DECAY × 10 J less, the timer started again (R94). -/
def State.decay (s : State) : State :=
  let t :=
    { s with
      conv := { s.conv with energy := s.conv.energy - 10 * s.setting Setting.chopperDecay, decayLeft := some 10 } }
  t.report t.chopperReport

/-- The stream goes STALE: Vdc absent, an overvoltage run of 1 returns to 0 (R93, R172). -/
def State.converterStale (s : State) : State :=
  { s with
    conv := { s.conv with vdc := none, overvoltRun := if s.conv.overvoltRun = 1 then 0 else s.conv.overvoltRun } }

/-! ### Timers -/

/-- The precharge timer expires in LINK_CHARGING (R80). -/
def State.prechargeExpired (s : State) : State :=
  if s.conv.state = .precharging ∧ s.conv.step = some .linkCharging then s.report [(Cond.dcSequenceFail, .occurs)] else s

/-- The breaker timer expires in BREAKER_CLOSING (R81). -/
def State.breakerExpired (s : State) : State :=
  if s.conv.state = .precharging ∧ s.conv.step = some .breakerClosing then s.report [(Cond.breakerFail, .occurs)] else s

/-- The discharge timer expires in DISCHARGING: TRIPPED on its own account (R86). -/
def State.dischargeExpired (s : State) : State :=
  if s.conv.state = .discharging then s.enterTripped.report [(Cond.dcSequenceFail, .occurs)] else s

/-! ### Lines (R81, R91, R92) -/

/-- MAIN_CLOSED is expected to stay closed (R92). -/
def ConverterState.breakerClosed (c : ConverterState) : Bool := c == .charged || c == .running || c == .riding

/-- A filtered change of MAIN_CLOSED (R81, R92). -/
def State.mainChanged (active : Bool) (s : State) : State :=
  if active then
    if s.conv.state = .precharging ∧ s.conv.step = some .breakerClosing then { s with conv := s.conv.completeCharge }
    else s
  else if s.conv.state.breakerClosed then s.report [(Cond.breakerFail, .occurs)]
  else s

/-! ### Requests (R78) -/

/-- Neither TRIP nor HOLD_CONVERTER in force. -/
def State.released (s : State) : Bool := !s.tripInForce && !s.holdInForce

/-- CHARGE (R78, R79). -/
def doCharge (s : State) : Answer :=
  if s.conv.state ≠ .off then refuse s .state
  else if !(decide (s.supply.state = .grid) && s.released) then refuse s .notReady
  else
    answerOk { s with
      conv :=
        { s.conv with
          state := .precharging, step := some .linkCharging,
          seqLeft := some (s.setting Setting.prechargeTimeout) } }.offChanged

/-- The readiness of START (R83). -/
def State.readyToStart (s : State) : Bool :=
  s.isHeld 1 && s.conv.flowProven && s.released && decide (s.supply.state = .grid)

/-- START (R83). -/
def doStart (s : State) : Answer :=
  if s.conv.state ≠ .charged then refuse s .state
  else if !s.readyToStart then refuse s .notReady
  else answerOk (s.setConverter .running)

/-- STOP CONVERTER (R84). -/
def doStop (s : State) : Answer :=
  if s.conv.state.delivering then answerOk (s.setConverter .charged) else refuse s .state

/-- DISCHARGE (R86). -/
def doDischarge (s : State) : Answer :=
  if s.conv.state = .charged then answerOk s.enterDischarging else refuse s .state

/-- CLEAR TRIP (R87). -/
def doClearTrip (s : State) : Answer :=
  if s.conv.state ≠ .tripped then refuse s .state
  else if s.tripInForce then refuse s .notReady
  else answerOk s.enterDischarging

end Sys2Proof.Machine
end

