-- ==== Sys2Proof/Machine/YawEvents.lean ====
section
/-!
DEFINITION. The arrivals at the Yaw Sequencer and the Alignment Unit: encoder steps (R137 to R139, R145), the yaw timers
(R141 to R148), BRAKE_OPEN (R142 to R153), RESTORE YAW (R138), window closes and readings (R119 to R125).
-/
namespace Sys2Proof.Machine

/-! ### Untwist and twist limit (R124, R139) -/

/-- UNTWIST_DUE goes once the magnitude of twist is below TWIST_UNTWIST (R124). -/
def State.judgeUntwist (s : State) : State :=
  if s.align.untwistDue && decide (s.yaw.twist.natAbs < s.setting Setting.twistUntwist) then
    { s with align := { s.align with untwistDue := false } }.report [(Cond.untwistDue, .goes)]
  else s

/-- The TWIST_LIMIT report: the yaw known and the magnitude of twist at or above TWIST_HARD_LIMIT (R139). -/
def State.twistReport (s : State) : Group :=
  [(Cond.twistLimit, causeIs (s.yaw.known && decide (s.setting Setting.twistHardLimit ≤ s.yaw.twist.natAbs)))]

/-! ### Encoder steps (R137, R145) -/

/-- Heading and twist after a counted step (R137). -/
def Yaw.count (clockwise : Bool) (y : Yaw) : Yaw :=
  if clockwise then { y with heading := (y.heading + 1) % 36000, twist := y.twist + 1 }
  else { y with heading := (y.heading + 35999) % 36000, twist := y.twist - 1 }

/-- The turn is in the sense that moves the twist away from zero (R145 item 2). -/
def Yaw.winding (y : Yaw) : Bool :=
  match y.direction with
  | some .cw => decide (0 < y.twist)
  | some .ccw => decide (y.twist < 0)
  | none => false

/-- A counted step in TURNING: the idle timer restarted, completion judged, then the limit (R145, R146). -/
def State.judgeTurn (s : State) : State :=
  match s.yaw.engine, s.presentSegment with
  | .turning, some g =>
    let t := { s with yaw := { s.yaw with idleLeft := some (s.setting Setting.encoderIdleLimit) } }
    if s.yaw.remaining ≤ s.stopLead g.speed then t.completeTurn.enterSettling
    else if s.setting Setting.twistHardLimit ≤ s.yaw.twist.natAbs ∧ s.yaw.winding then (t.endRoute .limit).enterSettling
    else t
  | _, _ => s

/-- One valid step of the encoder: discarded while the yaw is unknown (R137). -/
def State.encoderStep (clockwise : Bool) (s : State) : State :=
  if s.yaw.known then
    let t := { s with yaw := s.yaw.count clockwise }.judgeTurn.judgeUntwist
    t.report t.twistReport
  else s

/-- The sense of a transition of one phase alone, with ENCODER_SENSE at 0: with phase A leading the order of (A, B) is
(0,0), (1,0), (1,1), (0,1) (R137; log 19). -/
def phaseSense (a b a' b' : Bool) : Option Bool :=
  if a = a' then if b = b' then none else some (a' == b')
  else if b = b' then some (a' != b') else none

/-- The phases change (R176): one phase alone is a step, both at once or neither are not. -/
def State.encoderMoves (a b : Bool) (s : State) : State :=
  let t := { s with inputs := { s.inputs with phaseA := a, phaseB := b } }
  match phaseSense s.inputs.phaseA s.inputs.phaseB a b with
  | none => t
  | some cw => t.encoderStep (if s.setting Setting.encoderSense = 1 then !cw else cw)

/-! ### The yaw timers -/

/-- The claim wait timer expires in CLAIMING (R141). -/
def State.claimWaitExpired (s : State) : State :=
  if s.yaw.engine = .claiming then (s.endRoute .noPower).park else s

/-- The release timer expires in RELEASING (R142). BRAKE_OPEN is inactive then, so BRAKING is confirmed and left in this
event as R147 says, and a rise that comes later meets the state after BRAKING: DESIGN CHOICE (log 33), for R142 speaks of
a BRAKING that still waits and ignores that rise. -/
def State.releaseExpired (s : State) : State :=
  if s.yaw.engine = .releasing then (s.endRoute .brakeFault).enterBraking.report [(Cond.brakeFault, .occurs)] else s

/-- The idle or the budget timer expires in TURNING: a stall (R146). -/
def State.stalled (s : State) : State :=
  if s.yaw.engine = .turning then (s.endRoute .stall).enterSettling.report [(Cond.yawStall, .occurs)] else s

/-- The settle timer expires in SETTLING (R147). -/
def State.settleExpired (s : State) : State := if s.yaw.engine = .settling then s.enterBraking else s

/-- The apply timer expires in BRAKING: the fault first, then BRAKING is left (R147). -/
def State.applyExpired (s : State) : State :=
  if s.yaw.engine = .braking then (s.report [(Cond.brakeFault, .occurs)]).leaveBraking else s

/-- The dwell timer expires in DWELLING (R148). -/
def State.dwellExpired (s : State) : State := if s.yaw.engine = .dwelling then s.advance.enterReleasing else s

/-! ### BRAKE_OPEN (R142, R146, R147, R153) -/

/-- The filtered BRAKE_OPEN line becomes active (R142, R153). -/
def State.brakeRises (s : State) : State :=
  match s.yaw.engine with
  | .releasing => s.startSegment
  | .parked => s.report [(Cond.brakeFault, .occurs)]
  | .claiming => s.report [(Cond.brakeFault, .occurs)]
  | .dwelling => s.report [(Cond.brakeFault, .occurs)]
  | .settling => if s.yaw.brakeHold then s.report [(Cond.brakeFault, .occurs)] else s
  | .turning => s
  | .braking => s

/-- The filtered BRAKE_OPEN line becomes inactive (R146, R147). -/
def State.brakeFalls (s : State) : State :=
  match s.yaw.engine with
  | .turning => s.enterSettling.report [(Cond.brakeFault, .occurs)]
  | .settling => if s.isHeld 0 && !s.yaw.brakeHold then s.report [(Cond.brakeFault, .occurs)] else s
  | .braking => s.leaveBraking
  | .parked => s
  | .claiming => s
  | .releasing => s
  | .dwelling => s

/-! ### RESTORE YAW (R138) and STOP YAW (R149) -/

/-- The operands of RESTORE YAW are in range (R138). -/
def restoreInRange (heading : Nat) (twist : Int) : Bool := decide (heading ≤ 35999 ∧ -360000 ≤ twist ∧ twist ≤ 360000)

/-- RESTORE YAW (R138). DESIGN CHOICE (log 38): a known yaw is refused STATE before the operands are judged. -/
def doRestoreYaw (heading : Nat) (twist : Int) (s : State) : Answer :=
  if s.yaw.known then refuse s .state
  else if !restoreInRange heading twist then refuse s .range
  else
    let t := { s with yaw := { s.yaw with known := true, heading := heading, twist := twist } }
    answerOk (t.report ((Cond.twistUnknown, .goes) :: t.twistReport))

/-- STOP YAW (R149). -/
def doStopYaw (s : State) : Answer := answerOk (s.stopRunning .stopped)

/-! ### Readings at the Alignment Unit (R120, R125) -/

/-- A window takes a wind direction (R120). -/
def Window.gather (v : Int) (w : Window) : Window := { w with count := w.count + 1, sum := w.sum + v }

/-- A window's motion-exceeded mark is set (R120). -/
def Window.mark (w : Window) : Window := { w with motion := true }

/-- Both windows, where they are open, take an operation. -/
def State.windows (f : Window → Window) (s : State) : State :=
  { s with align := { s.align with short := s.align.short.map f, long := s.align.long.map f } }

/-- A wind direction (R120): outside −1800 to 1799 it is not used. -/
def State.windDirection (v : Int) (s : State) : State := if -1800 ≤ v ∧ v ≤ 1799 then s.windows (Window.gather v) else s

/-- A motion index (R120, R125). -/
def State.motionIndex (v : Int) (s : State) : State :=
  let high := decide ((s.setting Setting.motionLimit : Int) < v)
  let t := { s with align := { s.align with motionIndex := some v } }
  (if high then t.windows Window.mark else t).report [(Cond.motionHigh, causeIs high)]

/-! ### Window closes (R121 to R124) -/

/-- The mean of a closing window, truncated toward zero; none if twice the count is less than the expected count (R121).
DESIGN CHOICE (log 41): the expected count, the length over 16, is not rounded where it is no whole number. -/
def Window.mean (w : Window) : Option Int := if 32 * w.count < w.length then none else some (w.sum.tdiv w.count)

/-- The alignment preconditions at a close, given the closing window's mark (R122). -/
def State.mayAlign (marked : Bool) (s : State) : Bool :=
  !marked &&
  (match s.windSpeed with
   | none => false
   | some v => decide ((s.setting Setting.yawMinWind : Int) ≤ v)) &&
  decide (s.setting Setting.autoYawEnable = 1) && s.yaw.known && s.runningRoute.isNone && !s.suppressInForce &&
  !s.inhibitInForce

/-- Write a one-segment route of the Alignment Unit and run it (R122, R123). -/
def State.runAlignment (r : Fin 6) (slot : Fin 24) (trigger : Trigger) (kind : TargetKind) (target : Int)
    (direction : SegDirection) (speed : Speed) (s : State) : State :=
  let t := s.setSegment slot (some ⟨r, 1, kind, target, direction, speed, 0⟩)
  let t := t.setRoute r { t.routes.routes[r] with slots := [slot] }
  let t := { t with align := { t.align with trigger := trigger, triggerTime := some s.store.partTime } }
  t.admitRoute r

/-- The auto trigger of a close with its mean and threshold (R122). -/
def State.autoTrigger (mean : Option Int) (threshold : Nat) (marked : Bool) (s : State) : State :=
  match mean with
  | none => s
  | some m =>
    if decide (threshold ≤ m.natAbs) && s.mayAlign marked then
      s.runAlignment 0 0 .auto .relative (m * 10) .safe .normal
    else s

/-- An untwist falls due at a long close (R123). -/
def State.untwistFallsDue (s : State) : Bool :=
  s.yaw.known && decide (s.setting Setting.twistUntwist ≤ s.yaw.twist.natAbs)

/-- The wind is light enough for an untwist (R123). -/
def State.lightWind (s : State) : Bool :=
  match s.windSpeed with
  | none => false
  | some v => decide (v ≤ s.setting Setting.untwistWindMax)

/-- The untwist's target: the twist less the nearest whole number of turns (R123). -/
def untwistTarget (twist : Int) : Int := twist - 36000 * nearestTurns twist

/-- An untwist is deferred: UNTWIST_DUE arrives (R123, R124). -/
def State.deferUntwist (s : State) : State :=
  { s with align := { s.align with untwistDue := true } }.report [(Cond.untwistDue, .arrives)]

/-- The short window closes: its mean, a fresh window, the auto trigger (R119, R121, R122). -/
def State.closeShort (w : Window) (s : State) : State :=
  { s with
    align :=
      { s.align with
        lastShort := w.mean, short := some (Window.fresh (1000 * s.setting Setting.shortWindow)) } }.autoTrigger
    w.mean (s.setting Setting.shortThreshold) w.motion

/-- The long window closes: its mean, a fresh window, the untwist check, the auto trigger (R119, R121 to R124). -/
def State.closeLong (w : Window) (s : State) : State :=
  let t :=
    { s with
      align :=
        { s.align with
          lastLong := w.mean, long := some (Window.fresh (1000 * s.setting Setting.longWindow)) } }
  if t.untwistFallsDue then
    if t.lightWind && t.mayAlign w.motion then
      t.runAlignment 1 1 .untwist .twist (untwistTarget t.yaw.twist) .shortest .slow
    else t.deferUntwist.autoTrigger w.mean (s.setting Setting.longThreshold) w.motion
  else t.autoTrigger w.mean (s.setting Setting.longThreshold) w.motion

end Sys2Proof.Machine
end

