-- ==== Sys2Proof/Machine/Meter.lean ====
section
/-!
DEFINITION. The Meter Receiver: frames accepted or discarded (R170), delivery (R171), the stream state (R172), slow channels
(R173); the discrete inputs and their filters (R175).
-/
namespace Sys2Proof.Machine

/-! ### Accepting a frame (R170, 10.6-1) -/

/-- The run is a whole frame: 17 bytes, the sync value, the CRC-8, a slow channel 0 to 7 (R170). -/
def frameWhole (bytes : List Byte) : Bool :=
  decide (bytes.length = 17) && bytes.head? == some 0xA5#8 &&
  decide (fieldNat bytes 16 1 = (crc8 (bytes.take 16)).toNat) && decide (fieldNat bytes 13 1 < 8)

/-- The frame is accepted: whole, and not a repeat of the last sequence number (R170). -/
def Meter.accepts (m : Meter) (bytes : List Byte) : Bool := frameWhole bytes && m.lastSeq != some (fieldNat bytes 1 1)

/-- The fast values of a frame; a chopper duty above 200 is taken as 200 (R170, 10.6-1). -/
def frameFast (bytes : List Byte) : Fast :=
  ⟨fieldNat bytes 2 2, fieldNat bytes 4 2, fieldNat bytes 6 2, fieldNat bytes 8 2, fieldNat bytes 10 2,
   min (fieldNat bytes 12 1) 200⟩

/-- The slow channel a frame carries (10.6-1). -/
def frameChannel (bytes : List Byte) : Fin 8 := Fin.ofNat 8 (fieldNat bytes 13 1)

/-- The slow value a frame carries (10.6-1). -/
def frameSlow (bytes : List Byte) : Int := fieldInt bytes 14 2

/-- The Meter Receiver's state after an accepted frame (R170, R172, R173). -/
def Meter.take (bytes : List Byte) (m : Meter) : Meter :=
  { m with
    live := true
    staleLeft := some 10
    lastSeq := some (fieldNat bytes 1 1)
    fast := some (frameFast bytes)
    channels := m.channels.set (frameChannel bytes) ⟨some (frameSlow bytes), some 500⟩ }

/-! ### Delivery (R171) -/

/-- The zone whose temperature a channel carries (R171). -/
def channelZone (c : Fin 8) : Option Zone :=
  if c.val = 2 then some .conv else if c.val = 3 then some .gen else if c.val = 4 then some .xfmr
  else if c.val = 5 then some .chop else if c.val = 6 then some .cab else none

/-- A slow value handed on (R171). The wind speed is kept as its channel's value (log 31). -/
def State.slowValue (c : Fin 8) (v : Int) (s : State) : State :=
  match channelZone c with
  | some z => s.freshReading z
  | none => if c.val = 0 then s.windDirection v else if c.val = 7 then s.motionIndex v else s

/-- An accepted frame: the stream LIVE, then the blocks in the order of log 12 (R171, R172). DESIGN CHOICE (log 12): the
slow value stands in its channel from the first, so where the same frame brings the converter to OFF the evaluation of
CONV at that entry (R105) reads the channel 2 value of the frame, before that value is handed over (R100). -/
def State.acceptFrame (bytes : List Byte) (s : State) : State :=
  let f := frameFast bytes
  let t := { s with meter := s.meter.take bytes }
  let t := if s.meter.live then t else t.report [(Cond.meterStale, .goes)]
  ((t.supplyFrame f).converterFrame f).slowValue (frameChannel bytes) (frameSlow bytes)

/-! ### Staleness (R172, R173) -/

/-- A channel without a value. -/
def Channel.empty : Channel := ⟨none, none⟩

/-- The Meter Receiver's state when the stream goes STALE, and at a reset (R172, R174). -/
def Meter.silent : Meter := ⟨false, none, none, none, Vector.replicate 8 Channel.empty⟩

/-- The stale timer expires: every block is told (R172; log 13). -/
def State.streamStale (s : State) : State :=
  let t := { s with meter := Meter.silent }.report [(Cond.meterStale, .arrives)]
  (t.supplyStale.converterStale.evaluateZones allZones).windows Window.mark

/-- A channel is reported stale to the block that uses it (R173, R100, R120). -/
def State.channelStale (c : Fin 8) (s : State) : State :=
  let t := { s with meter := { s.meter with channels := s.meter.channels.set c Channel.empty } }
  match channelZone c with
  | some z => t.evaluateZones [z]
  | none => if c.val = 7 then t.windows Window.mark else t

/-! ### Discrete inputs (R175) -/

/-- The filter time in ms (R175). -/
def filterTime : Nat := 20

/-- A raw line takes a level: the filter timer is started, or cancelled where the line returns to the filtered level
(R175). -/
def State.rawLine (l : Line) (level : Bool) (s : State) : State :=
  if s.inputs.raw.get l = level then s
  else
    let f := s.inputs.filters.get l
    { s with
      inputs :=
        { s.inputs with
          raw := s.inputs.raw.set l level
          filters := s.inputs.filters.set l { f with left := if level = f.level then none else some filterTime } } }

/-- Every line reads as its raw level with no filter timer (R175, end of a reset). -/
def Inputs.settle (i : Inputs) : Inputs := { i with filters := i.raw.map fun b => ⟨b, none⟩ }

/-- A pin changes: a line, or one of the pins read at a reset (R17, R19, R175; log 7). -/
def State.pinChanges (c : PinChange) (s : State) : State :=
  match c with
  | .line l level => s.rawLine l level
  | .linksel f => { s with inputs := { s.inputs with linksel := f } }
  | .addr high => { s with inputs := { s.inputs with addr := high } }
  | .warmsel high => { s with inputs := { s.inputs with warmsel := high } }

/-- While a reset holds the part, pins have their levels and nothing is filtered (R19, R175; log 29). -/
def State.heldPin (c : PinChange) (s : State) : State :=
  match c with
  | .line l level => { s with inputs := { s.inputs with raw := s.inputs.raw.set l level } }
  | .linksel f => { s with inputs := { s.inputs with linksel := f } }
  | .addr high => { s with inputs := { s.inputs with addr := high } }
  | .warmsel high => { s with inputs := { s.inputs with warmsel := high } }

/-- A filtered change handed to the line's owner (R175). -/
def State.lineChanged (l : Line) (active : Bool) (s : State) : State :=
  match l with
  | .brakeOpen => if active then s.brakeRises else s.brakeFalls
  | .mainClosed => s.mainChanged active
  | .gateFault => s.report [(Cond.gateFault, causeIs active)]
  | .flowConv => let t := s.flowChanged .conv active
    if active then t.proveFlow else t
  | .flowGen => s.flowChanged .gen active
  | .backupOnline => if s.meter.live then s.supplyMoved State.compareBackup else s

/-- A filter timer expires: the filtered level takes the raw level (R175). -/
def State.filterExpired (l : Line) (s : State) : State :=
  let level := s.inputs.raw.get l
  { s with inputs := { s.inputs with filters := s.inputs.filters.set l ⟨level, none⟩ } }.lineChanged l level

end Sys2Proof.Machine
end

