-- ==== Sys2Proof/Machine/Events.lean ====
section
/-!
DEFINITION. An event from its first change to its end: the grant opportunity, the trip reason, the output lines, the
revisions (R5, R34, R90); the two kinds of reset (R19, R20 and the reset rule of each block).
-/
namespace Sys2Proof.Machine

/-- What the machine answers to a command. -/
abbrev Result := Host.Outcome State Fault Refusal

/-! ### The end of an event -/

/-- Every condition index, lowest first. -/
def allRecords : List (Fin 32) := List.finRange 32

/-- The trip reason of an entry to TRIPPED: the lowest TRIP-carrying record with an onset in the event (R90). -/
def tripReasonOf (onsets : List (Fin 32)) : Option (Fin 32) :=
  allRecords.find? fun i => catalogue[i].consequences.trip && onsets.contains i

/-- Set the trip reason if the event entered TRIPPED (R90). -/
def State.setTripReason (s : State) : State :=
  if s.ev.tripped then { s with conv := { s.conv with tripReason := tripReasonOf s.ev.onsets } } else s

/-- What the event gathered is used up, and every output line is driven (9.7). -/
def State.drive (s : State) : State :=
  let t := { s with ev := Scratch.empty }
  { t with out := t.outputs }

/-- A claim event gives its grant opportunity at its end (R34). -/
def State.settleClaims (s : State) : State := if s.ev.claimEvent then s.grantOpportunity else s

/-- What the end of an event adds to the blocks: the grant opportunity, then the actuators' effective levels, then the
trip reason (R34, R90, R101 item 6). -/
def State.settle (s : State) : State := s.settleClaims.settleActuators.setTripReason

/-- The end of one event that began in `before`: what `settle` adds, the lines, the revisions (R5). -/
def closeEvent (before s : State) : State :=
  let t := s.settle.drive
  { t with revs := bumpAll before.snapshot t.snapshot t.revs }

/-- The stagger timer becomes idle and a grant opportunity is taken (R33). -/
def State.staggerExpired (s : State) : State := { s with app := { s.app with stagger := none } }.grantOpportunity

/-- A stagger timer started at 0 expires in an event of its own, and where the grant of that expiry starts it at 0 once
more, again (R33). At most `n` times: an expiry that is left over falls due at the next step. -/
def State.expireZeroStagger : Nat → State → State
  | 0, s => s
  | n + 1, s => if s.app.stagger = some 0 then State.expireZeroStagger n (closeEvent s s.staggerExpired) else s

/-- The most expiries of a stagger timer at 0 that follow one event: four for each claim record. Each grants a claim, and
a granted claim can be shed again only for a higher priority (R36). -/
def staggerRounds : Nat := 64

/-- The end of one event that began in `before`, and the expiries of the stagger timer that follow it at once where the
event started the timer at 0, whether it stood idle, ran, or stood at 0 before (R33; log 24). -/
def endEvent (before s : State) : State :=
  let t := closeEvent before s
  if s.settle.ev.zeroStagger then t.expireZeroStagger staggerRounds else t

/-- A decrease hold that was started at 0 expires, in an event of its own; not where the event that started it has also
cancelled it (R106). -/
def State.expireZeroHold (s : State) (z : Zone) : State :=
  if (s.cool.zones.get z).hold = some 0 then endEvent s (s.holdExpired z) else s

/-- The end of an arrival's event that began in `before`, and the events that follow it at once: the expiries of a stagger
timer started at 0 (R33), then the expiry of each decrease hold that the arrival started at 0 (R106; log 24). -/
def finishEvent (before s : State) : State := s.settle.ev.zeroHolds.foldl State.expireZeroHold (endEvent before s)

/-- An arrival, one event; while a reset holds the part it is not acted on (R19). -/
def event (f : State → State) (s : State) : Result := if s.held then .next s else .next (finishEvent s (f s))

/-- The expiry of a timer: no effect where the timer does not run (log 3). -/
def expiry (running : State → Bool) (f : State → State) (s : State) : Result :=
  if s.held || !running s then .next s else .next (finishEvent s (f s))

/-! ### The values a reset holds (R19) -/

/-- The Record Store's own state: a warm reset keeps all but the cause (R20). -/
def Store.reset (kind : ResetKind) (cause : ResetCause) (t : Store) : Store :=
  match kind with
  | .cold => ⟨settingDefaults, false, 0, 1000, cause⟩
  | .warm => { t with resetCause := cause }

/-- The port's state (R184); form and address are taken at the end. -/
def Port.reset (p : Port) : Port := ⟨p.form, p.addrHigh, 0, none, false, [], 0, [], false, noResponse, none⟩

/-- The Load Apportioner's state (R53). -/
def Apportioner.initial : Apportioner := ⟨Vector.replicate 16 Claim.free, [], [], [], 0, 0, none⟩

/-- The Supply Monitor's state (R73). -/
def Supply.initial : Supply := ⟨.grid, noBelow, none, none, none⟩

/-- The Converter Sequencer's state; its timers are started at the end (R98). -/
def Converter.initial : Converter := ⟨.discharging, none, none, none, false, none, 0, none, 0, 0⟩

/-- The Cooling Controller's state; the thresholds are given (R117). -/
def Cooling.initial (floor : Nat) (limits : PerZone Thresholds) : Cooling :=
  ⟨limits.map (ZoneRec.atReset floor), ⟨⟨.idle, none⟩, ⟨.idle, none⟩⟩, none⟩

/-- The thresholds in place. -/
def Cooling.limits (c : Cooling) : PerZone Thresholds := c.zones.map (·.limits)

/-- The Alignment Unit's state; the windows open at the end (R135). -/
def Alignment.initial : Alignment := ⟨none, none, none, none, none, false, .none, none⟩

/-- The route store's state (R135). -/
def RouteStore.initial : RouteStore := ⟨Vector.replicate 6 Route.empty, Vector.replicate 24 none⟩

/-- The Yaw Sequencer's state: a warm reset keeps heading, twist and known (R154). -/
def Yaw.reset (kind : ResetKind) (y : Yaw) : Yaw :=
  match kind with
  | .cold => ⟨false, 0, 0, .parked, none, 0, false, none, none, none, none, none, none, false⟩
  | .warm => ⟨y.known, y.heading, y.twist, .parked, none, 0, false, none, none, none, none, none, none, false⟩

/-- A record is kept by a warm reset: LATCHED, and latching or persistent (R169). -/
def CondRec.kept (c : CondSpec) (r : CondRec) : Bool := r.state == .latched && (c.latching || r.persistent)

/-- A record through a warm reset (R169). -/
def CondRec.warm (c : CondSpec) (r : CondRec) : CondRec :=
  if r.kept c then { r with present := false, timer := none }
  else
    { r with
      state := .clear, present := false, timer := none, count := 0, persistent := false, burst := none, first := none }

/-- The records through a reset (R168, R169). -/
def resetConditions (kind : ResetKind) (recs : Vector CondRec 32) : Vector CondRec 32 :=
  match kind with
  | .cold => freshRecords
  | .warm => Vector.ofFn fun i => (recs[i]).warm catalogue[i]

/-- The records whose state a warm reset changes: they take the part time of its end as last change (R169). -/
def restampOf (kind : ResetKind) (recs : Vector CondRec 32) : List (Fin 32) :=
  match kind with
  | .cold => []
  | .warm => allRecords.filter fun i => (recs[i]).state != .clear && !(recs[i]).kept catalogue[i]

/-- A reset begins: every block holds the reset values of its kind (R19). -/
def State.beginReset (kind : ResetKind) (cause : ResetCause) (s : State) : State :=
  let store := s.store.reset kind cause
  let t :=
    { s with
      store := store
      port := s.port.reset
      meter := Meter.silent
      inputs := s.inputs.settle
      app := Apportioner.initial
      supply := Supply.initial
      conv := Converter.initial
      cool :=
        Cooling.initial store.settings[Setting.derateFloor]
          (match kind with
           | .cold => zoneLimitDefaults
           | .warm => s.cool.limits)
      align := Alignment.initial
      routes := RouteStore.initial
      yaw := s.yaw.reset kind
      cond := ⟨resetConditions kind s.cond.recs, Consequences.none⟩
      hold := some ⟨kind, cause, s.snapshot, restampOf kind s.cond.recs⟩ }
  t.drive

/-! ### The end of a reset -/

/-- The timers that the end of a reset starts, and the straps, filters and windows it takes (R98, R117, R119, R175, R184).
The STALE report marks the windows (R135; log 17). -/
def State.startAfterReset (s : State) : State :=
  let t :=
    { s with
      port := { s.port with form := s.inputs.linksel, addrHigh := s.inputs.addr }
      inputs := s.inputs.settle
      conv := { s.conv with seqLeft := some (1000 * s.setting Setting.dischargeTimeout), decayLeft := some 10 }
      cool := { s.cool with firstEval := some 500 } }
  t.openWindows.windows Window.mark

/-- Stamp the last change of records at the present part time (R169). -/
def State.restamp (is : List (Fin 32)) (s : State) : State :=
  is.foldl (fun t i => t.setRec i { t.cond.recs[i] with last := some t.store.partTime }) s

/-- The reports that the blocks make at the end of a reset, as one group (R168, R169, R91, R117, R138, R139). -/
def State.resetReports (s : State) : Group :=
  (Cond.meterStale, .arrives) :: (Cond.gateFault, causeIs (s.level .gateFault)) ::
    (allZones.map (fun z => (Cond.zoneHot z, Report.arrives)) ++
      (Cond.twistUnknown, causeIs (!s.yaw.known)) :: s.twistReport)

/-- The revisions after a reset: 0 after a cold one but for the records the end-of-reset group moves (log 9), compared
before and after for a warm one (R6; log 10). -/
def ResetHold.revisions (h : ResetHold) (fresh after : Snapshot) (revs : RevTable) : RevTable :=
  match h.kind with
  | .cold => bumpAll fresh after zeroRevs
  | .warm => bumpAll h.before after revs

/-- The reset ends (R19): timers, straps, the end-of-reset group, the revisions. -/
def State.endReset (s : State) : State :=
  match s.hold with
  | none => s
  | some h =>
    let fresh := { s.startAfterReset.restamp h.restamp with hold := none }
    let t := (fresh.report fresh.resetReports).drive
    { t with revs := h.revisions fresh.snapshot t.snapshot t.revs }

/-- The warm reset of a RESTART takes place (R183). -/
def State.warmRestart (s : State) : State := (s.beginReset .warm .warmLink).endReset

end Sys2Proof.Machine
end

