-- ==== Sys2Proof/Machine/Writes.lean ====
section
/-!
DEFINITION. WRITE FIELD: bounds and cross-checks (R9, R10), freeze and busy checks (R11, R12), and what the owning block
does with the new value (R13, R16).
-/
namespace Sys2Proof.Machine

/-! ### What may be written (R9) -/

/-- A writable field: a setting's value, a zone threshold, a condition's onset delay, route or mask (R9). -/
inductive WriteTarget where
  | setting (k : Fin 86)
  | zone (z : Zone) (field : Nat)
  | condition (i : Fin 32) (field : Nat)
  deriving DecidableEq, Repr

/-- The writable field a record and field number name; none is READ_ONLY (R9). -/
def writeTarget (table index field : Nat) : Option WriteTarget :=
  match table with
  | 1 => if h : index < 86 then if field = 1 then some (.setting ⟨index, h⟩) else none else none
  | 6 => if 8 ≤ field ∧ field ≤ 12 then (zoneOf index).map fun z => .zone z field else none
  | 10 => if h : index < 32 then
      if field = 8 ∨ field = 10 ∨ field = 11 then some (.condition ⟨index, h⟩ field) else none
    else none
  | _ => none

/-- The write class of a field (R9). -/
def WriteTarget.cls (t : WriteTarget) : WriteClass :=
  match t with
  | .setting k => settingSpecs[k].cls
  | .zone _ field => if field ≤ 9 then .tuning else .protection
  | .condition _ _ => .tuning

/-! ### Bounds and cross-checks (R10) -/

/-- The level of envelope point k, counted from 1. -/
def State.envelopeLevelAt (s : State) (k : Nat) : Nat :=
  if h : k - 1 < 6 then s.setting (Setting.envelopeLevel ⟨k - 1, h⟩) else 0

/-- The cross-check of ENVELOPE_LEVEL_k (R10). -/
def State.levelFits (s : State) (k v : Nat) : Bool :=
  let n := s.setting Setting.envelopePoints
  decide (n < k) ||
    (decide (k ≤ 1 ∨ v < s.envelopeLevelAt (k - 1)) && decide (n ≤ k ∨ s.envelopeLevelAt (k + 1) < v) &&
      decide (1 < k ∨ v < s.setting Setting.dipRecoveryLevel))

/-- Levels 1 to n are strictly descending (R10). -/
def State.levelsDescend (s : State) (n : Nat) : Bool :=
  (List.range (n - 1)).all fun i => decide (s.envelopeLevelAt (i + 2) < s.envelopeLevelAt (i + 1))

/-- The cross-check of DUTY_k for k from 1 (R10). -/
def State.dutyFits (s : State) (k v : Nat) : Bool :=
  decide (s.setting (Setting.duty (k - 1)) ≤ v) && decide (15 ≤ k ∨ v ≤ s.setting (Setting.duty (k + 1)))

/-- The cross-checks of a SETTINGS value (R10). -/
def State.crossCheck (s : State) (k v : Nat) : Bool :=
  if k ≤ 3 then decide (s.setting Setting.essentialReserve ≤ v)
  else if k = 4 then
    decide (v ≤ s.setting Setting.budgetGrid ∧ v ≤ s.setting Setting.budgetDip ∧ v ≤ s.setting Setting.budgetLost ∧
      v ≤ s.setting Setting.budgetBackup)
  else if k = 5 then decide (s.envelopeLevelAt 1 < v)
  else if k = 8 then s.levelsDescend v
  else if 9 ≤ k ∧ k ≤ 14 then s.levelFits (k - 8) v
  else if k = 21 then decide (v < s.setting Setting.freqHigh)
  else if k = 22 then decide (s.setting Setting.freqLow < v)
  else if k = 49 then decide (v ≤ s.setting Setting.twistHardLimit)
  else if k = 50 then decide (s.setting Setting.twistUntwist ≤ v)
  else if k = 53 then decide (v < s.setting Setting.longWindow)
  else if k = 54 then decide (s.setting Setting.shortWindow < v)
  else if 68 ≤ k ∧ k ≤ 82 then s.dutyFits (k - 67) v
  else true

/-- Thresholds with one field, numbered as in the zone record, replaced (R99). -/
def Thresholds.put (l : Thresholds) (field v : Nat) : Thresholds :=
  match field with
  | 8 => { l with start := v }
  | 9 => { l with full := v }
  | 10 => { l with warm := v }
  | 11 => { l with hot := v }
  | 12 => { l with critical := v }
  | _ => l

/-- START < FULL, and WARM < HOT < CRITICAL (R10). -/
def Thresholds.ordered (l : Thresholds) : Bool :=
  decide (l.start < l.full) && decide (l.warm < l.hot) && decide (l.hot < l.critical)

/-- The value lies within the field's bounds (R10). -/
def WriteTarget.inBounds (t : WriteTarget) (v : Int) : Bool :=
  match t with
  | .setting k => decide ((settingSpecs[k].lo : Int) ≤ v ∧ v ≤ settingSpecs[k].hi)
  | .zone _ _ => decide (0 ≤ v ∧ v ≤ 4000)
  | .condition _ field =>
    if field = 8 then decide (0 ≤ v ∧ v ≤ 10000) else if field = 10 then decide (0 ≤ v ∧ v ≤ 4)
    else decide (0 ≤ v ∧ v ≤ 1)

/-- The value meets the cross-checks (R10). -/
def State.crossFits (s : State) (t : WriteTarget) (v : Nat) : Bool :=
  match t with
  | .setting k => s.crossCheck k.val v
  | .zone z field => ((s.cool.zones.get z).limits.put field v).ordered
  | .condition _ _ => true

/-! ### Applying a value (R13, R16) -/

/-- Put a SETTINGS value. -/
def State.putSetting (k : Fin 86) (v : Nat) (s : State) : State :=
  { s with store := { s.store with settings := s.store.settings.set k v } }

/-- The below-times of points that leave use return to 0 (R16, R66). -/
def State.trimEnvelope (s : State) : State :=
  { s with
    supply := { s.supply with below := Vector.ofFn fun k => if s.pointInUse k then s.supply.below[k] else 0 } }

/-- What the owning block does at once with a new SETTINGS value (R16): the apportioner re-apportions, the envelope is
trimmed, UNTWIST_DUE and TWIST_LIMIT are judged; every other setting is read when its rule uses it. -/
def State.applySetting (k : Fin 86) (v : Nat) (s : State) : State :=
  let t := s.putSetting k v
  if k.val ≤ 4 then t.rebudget s.apportionable
  else if k = Setting.envelopePoints then t.trimEnvelope
  else if k = Setting.twistUntwist then t.judgeUntwist
  else if k = Setting.twistHardLimit then t.report t.twistReport
  else t

/-- A new threshold: the zone is evaluated with its present reading (R116). DESIGN CHOICE (log 37): the write that is a stale
zone's first evaluation gives it computed level 15 (R101), though R116 says that a write to a stale zone leaves that level. -/
def State.applyThreshold (z : Zone) (field v : Nat) (s : State) : State :=
  let r := s.cool.zones.get z
  (s.setZone z { r with limits := r.limits.put field v }).evaluateZones [z]

/-- A condition record with its onset delay, route or mask replaced (R167). -/
def CondRec.put (r : CondRec) (field v : Nat) : CondRec :=
  match field with
  | 8 => { r with delay := v }
  | 10 => { r with route := v }
  | 11 => { r with mask := v == 1 }
  | _ => r

/-- Apply a checked write at the owning block (R13). -/
def State.applyWrite (t : WriteTarget) (v : Nat) (s : State) : State :=
  match t with
  | .setting k => s.applySetting k v
  | .zone z field => s.applyThreshold z field v
  | .condition i field => s.setRec i ((s.cond.recs[i]).put field v)

/-- The converter is not OFF or the yaw engine not PARKED (R12). -/
def State.busy (s : State) : Bool := decide (s.conv.state ≠ .off ∨ s.yaw.engine ≠ .parked)

/-- WRITE FIELD once the handle is resolved and the guard checked, in the order of R9. -/
def writeRecord (field : Nat) (v : Int) (s : State) (table index : Nat) : Answer :=
  if highestField table < field then refuse s .range
  else
    match writeTarget table index field with
    | none => refuse s .readOnly
    | some t =>
      if !(t.inBounds v && s.crossFits t v.toNat) then refuse s .range
      else if decide (t.cls = .protection) && s.store.frozen then
        refuse (s.report [(Cond.settingRefused, .occurs)]) .frozen
      else if decide (t.cls = .protection) && s.busy then refuse s .state
      else answerOk (s.applyWrite t v.toNat)

/-- WRITE FIELD (R9). -/
def doWrite (h : Handle) (g : Option Nat) (field : Nat) (v : Int) (s : State) : Answer :=
  withRecord h g s (writeRecord field v)

end Sys2Proof.Machine
end

