-- ==== Sys2Proof/Machine/Requests.lean ====
section
/-!
DEFINITION. What the other link items do at the block that owns the record: reads (R3, R8), claims (R40 to R44), routes
(R128 to R134), conditions (R163, R164), FREEZE (R14) and RESTART (R183).
-/
namespace Sys2Proof.Machine

/-! ### Reads -/

/-- SELECT TABLE (R3). -/
def doSelect (table : Nat) (s : State) : Answer :=
  if table < 11 then answerOk { s with port := { s.port with table := table } } else refuse s .absent

/-- READ FIELDS once the handle is resolved (R8). -/
def readRecord (first count : Nat) (s : State) (table index : Nat) : Answer :=
  if count < 1 ∨ 16 < count then refuse s .range
  else if highestField table < first then refuse s .range
  else ⟨s, .ok, .bytes ((s.cursor table count index first).flatMap (toBytesInt 4))⟩

/-- READ FIELDS (R8). -/
def doRead (h : Handle) (first count : Nat) (s : State) : Answer := withRecord h none s (readRecord first count)

/-! ### Claims -/

/-- The link pool, lowest slot first (R22). -/
def poolSlots : List (Fin 16) := [6, 7, 8, 9, 10, 11, 12, 13, 14, 15]

/-- The operands of OPEN CLAIM are in range (R42 item 3). -/
def openInRange (consumer priority asked tag : Nat) : Bool :=
  decide (priority ≤ 5 ∧ 1 ≤ asked ∧ asked ≤ ratedAsk consumer ∧ tag ≤ 65535)

/-- Some slot holds a claim for the consumer (R42 item 4). -/
def Apportioner.holdsConsumer (a : Apportioner) (consumer : Nat) : Bool :=
  a.claims.toList.any fun c => c.state != .free && c.consumer == consumer

/-- The lowest FREE pool slot (R42). -/
def Apportioner.freeSlot (a : Apportioner) : Option (Fin 16) := poolSlots.find? fun i => (a.claims[i]).state == .free

/-- OPEN CLAIM on a CONSUMERS record (R42). -/
def openConsumer (priority asked tag : Nat) (s : State) (c : Fin 19) : Answer :=
  if c.val < 6 then refuse s .notOwner
  else if !openInRange c.val priority asked tag then refuse s .range
  else if s.app.holdsConsumer c.val then refuse s .exists
  else
    match s.app.freeSlot with
    | none => refuse s .full
    | some i => ⟨s.claimRequest (Apportioner.openSlot i c.val priority asked tag), .ok, .claim i⟩

/-- OPEN CLAIM (R42). -/
def doOpen (h : Handle) (priority asked tag : Nat) (s : State) : Answer :=
  withTable 2 19 h none s (openConsumer priority asked tag)

/-- AMEND CLAIM on a slot (R43). -/
def amendSlot (asked : Nat) (s : State) (i : Fin 16) : Answer :=
  let c := s.claim i
  if i.val < 6 then refuse s .notOwner
  else if c.state = .free then refuse s .absent
  else if asked < 1 ∨ ratedAsk c.consumer < asked then refuse s .range
  else if c.state = .offered ∧ c.asked < asked then refuse s .state
  else answerOk (s.claimRequest (Apportioner.amend i asked))

/-- AMEND CLAIM (R43). -/
def doAmend (h : Handle) (g : Option Nat) (asked : Nat) (s : State) : Answer := withTable 3 16 h g s (amendSlot asked)

/-- TAKE CLAIM on a slot (R40). -/
def takeSlot (s : State) (i : Fin 16) : Answer :=
  if i.val < 6 then refuse s .notOwner
  else
    match (s.claim i).state with
    | .offered => answerOk (s.claimRequest (Apportioner.collect i))
    | .free => refuse s .tooLate
    | .waiting => refuse s .notOffered
    | .held => refuse s .notOffered
    | .shed => refuse s .notOffered

/-- TAKE CLAIM (R40). -/
def doTake (h : Handle) (s : State) : Answer := withTable 3 16 h none s takeSlot

/-- RETIRE CLAIM on a slot (R44). -/
def retireSlot (s : State) (i : Fin 16) : Answer :=
  if i.val < 6 then refuse s .notOwner
  else if (s.claim i).state = .free then refuse s .absent
  else answerOk (s.claimRequest (Apportioner.release i))

/-- RETIRE CLAIM (R44). -/
def doRetireClaim (h : Handle) (g : Option Nat) (s : State) : Answer := withTable 3 16 h g s retireSlot

/-- A collection deadline expires: the offer lapses (R41, R52). -/
def State.lapse (i : Fin 16) (s : State) : State :=
  if (s.claim i).state = .offered then
    (s.claimRequest (Apportioner.release i)).report [(Cond.offerLapsed, .occurs)]
  else s

/-! ### Routes -/

/-- A manual route (R126). -/
def manualRoute (r : Fin 6) : Bool := decide (2 ≤ r.val)

/-- BEGIN ROUTE on a route (R128). -/
def beginOn (s : State) (r : Fin 6) : Answer :=
  let route := s.routes.routes[r]
  if !manualRoute r then refuse s .notOwner
  else if route.state ≠ .empty then refuse s .state
  else
    let t := s.setRoute r { route with state := .composing, slots := [] }
    answerOk { t with port := { t.port with composing := some r } }

/-- BEGIN ROUTE (R128). -/
def doBegin (h : Handle) (s : State) : Answer := withTable 8 6 h none s beginOn

/-- The target value lies within the range of its kind (R127). -/
def targetInRange (k : TargetKind) (v : Int) : Bool :=
  match k with
  | .absolute => decide (0 ≤ v ∧ v ≤ 35999)
  | .relative => decide (-72000 ≤ v ∧ v ≤ 72000)
  | .twist => decide (-108000 ≤ v ∧ v ≤ 108000)

/-- The lowest free slot of the segment pool, slots 2 to 23 (R127). -/
def State.freeSegment (s : State) : Option (Fin 24) :=
  (List.finRange 24).find? fun i => decide (2 ≤ i.val) && (s.routes.segments[i]).isNone

/-- Append a segment to a route in a slot (R129). -/
def State.appendSegment (r : Fin 6) (slot : Fin 24) (g : Segment) (s : State) : State :=
  let route := s.routes.routes[r]
  (s.setSegment slot (some { g with route := r, position := route.slots.length + 1 })).setRoute r
    { route with slots := route.slots ++ [slot] }

/-- The segment that the operands of SEGMENT name; none is RANGE (R129 item 2). -/
def segmentOf (kind : Nat) (target : Int) (direction speed dwell : Nat) : Option Segment :=
  match targetKindOf kind, segDirectionOf direction, speedOf speed with
  | some k, some d, some v =>
    if targetInRange k target && decide (dwell ≤ 600) then some ⟨0, 0, k, target, d, v, dwell⟩ else none
  | _, _, _ => none

/-- SEGMENT (R129). -/
def doSegment (kind : Nat) (target : Int) (direction speed dwell : Nat) (s : State) : Answer :=
  match s.port.composing with
  | none => refuse s .sequence
  | some r =>
    match segmentOf kind target direction speed dwell with
    | none => refuse s .range
    | some g =>
      if 8 ≤ (s.routes.routes[r]).slots.length then refuse s .full
      else
        match s.freeSegment with
        | none => refuse s .full
        | some slot => ⟨s.appendSegment r slot g, .ok, .bytes [BitVec.ofNat 8 slot.val]⟩

/-- The composition ends (R130). -/
def State.endComposition (s : State) : State := { s with port := { s.port with composing := none } }

/-- A route becomes EMPTY and its slots are freed (R130, R134). -/
def State.emptyRoute (r : Fin 6) (s : State) : State :=
  ((s.routes.routes[r]).slots.foldl (fun t slot => t.setSegment slot none) s).setRoute r Route.empty

/-- END ROUTE (R130): answered ABSENT, an empty composition still ends. -/
def doEndRoute (s : State) : Answer :=
  match s.port.composing with
  | none => refuse s .sequence
  | some r =>
    let route := s.routes.routes[r]
    if route.slots.isEmpty then refuse (s.setRoute r Route.empty).endComposition .absent
    else answerOk (s.setRoute r { route with state := .ready }).endComposition

/-- ABANDON ROUTE (R130). -/
def doAbandon (s : State) : Answer :=
  match s.port.composing with
  | none => refuse s .sequence
  | some r => answerOk (s.emptyRoute r).endComposition

/-- The admission checks 4 to 6 of RUN ROUTE; none is a pass (R132). -/
def State.admission (s : State) (r : Fin 6) : Option ItemStatus :=
  if !s.yaw.known || s.inhibitInForce then some .inhibited
  else
    match s.runningRoute with
    | some q => if routeRank r ≤ routeRank q then some .busy else none
    | none => if s.yaw.engine = .parked then none else some .busy

/-- RUN ROUTE on a route (R132). A COMPOSING route is never met here (log 20). -/
def runOn (s : State) (r : Fin 6) : Answer :=
  if !manualRoute r then refuse s .notOwner
  else
    match (s.routes.routes[r]).state with
    | .empty => refuse s .absent
    | .running => refuse s .busy
    | .composing => refuse s .busy
    | .ready | .ended =>
      match s.admission r with
      | some st => refuse s st
      | none => answerOk (s.admitRoute r)

/-- RUN ROUTE (R132). -/
def doRun (h : Handle) (g : Option Nat) (s : State) : Answer := withTable 8 6 h g s runOn

/-- RETIRE ROUTE on a route (R134). A COMPOSING route is never met here (log 20). -/
def retireOn (s : State) (r : Fin 6) : Answer :=
  match (s.routes.routes[r]).state with
  | .empty => refuse s .absent
  | .running => refuse s .busy
  | .composing => refuse s .busy
  | .ready | .ended => answerOk (s.emptyRoute r)

/-- RETIRE ROUTE (R134). -/
def doRetireRoute (h : Handle) (g : Option Nat) (s : State) : Answer := withTable 8 6 h g s retireOn

/-! ### Conditions -/

/-- ACKNOWLEDGE on a record (R163). -/
def acknowledgeOn (s : State) (i : Fin 32) : Answer :=
  match (s.cond.recs[i]).acknowledge catalogue[i].kind s.store.partTime with
  | none => refuse s .state
  | some r => answerOk (s.setRec i r).judge

/-- ACKNOWLEDGE (R163). -/
def doAcknowledge (h : Handle) (g : Option Nat) (s : State) : Answer := withTable 10 32 h g s acknowledgeOn

/-- The records an ACKNOWLEDGE LINE reaches: routed to the line, ACTIVE or LATCHED (R164). -/
def State.lineRecords (s : State) (line : Nat) : List (Fin 32) :=
  allRecords.filter fun i =>
    (s.cond.recs[i]).route == line && ((s.cond.recs[i]).state == .active || (s.cond.recs[i]).state == .latched)

/-- Acknowledge one record, without judging (R164). -/
def State.ackRecord (s : State) (i : Fin 32) : State :=
  match (s.cond.recs[i]).acknowledge catalogue[i].kind s.store.partTime with
  | none => s
  | some r => s.setRec i r

/-- ACKNOWLEDGE LINE (R164). -/
def doAcknowledgeLine (line : Nat) (s : State) : Answer :=
  if 3 < line then refuse s .range
  else
    let is := s.lineRecords line
    ⟨(is.foldl State.ackRecord s).judge, .ok, .bytes [BitVec.ofNat 8 is.length]⟩

/-- The delay timer of a level-kind record, or the repeat timer of an event-kind one, expires (R158, R160). -/
def State.conditionTimer (i : Fin 32) (s : State) : State :=
  match catalogue[i].kind with
  | .level => (s.putRec i ((s.cond.recs[i]).delayExpires s.onsetArgs)).judge
  | .event => s.setRec i { s.cond.recs[i] with timer := none }

/-! ### The part -/

/-- FREEZE (R14). -/
def doFreeze (s : State) : Answer := answerOk { s with store := { s.store with frozen := true } }

/-- RESTART: a warm reset is due at the end of the frame (R19, R183). -/
def doRestart (s : State) : Answer := answerOk { s with port := { s.port with restartDue := true } }

/-- UNKNOWN_ITEM (R181). -/
def doUnknown (s : State) : Answer := refuse s .unknown

end Sys2Proof.Machine
end

