-- ==== Sys2Proof/Machine/Link.lean ====
section
/-!
DEFINITION. The Nacelle Link Port: transfers (R177, R178), taking a frame (R179), executing items (R180, R181), the response
frame (R182) and RESTART (R183).
-/
namespace Sys2Proof.Machine

/-! ### Responses (R182, 10.6-3) -/

/-- Frame statuses (10.6-3). -/
def frameOk : Byte := 0#8
def frameCrcBad : Byte := 1#8
def frameFormat : Byte := 2#8

/-- A byte of a count or a length. -/
def countByte (n : Nat) : Byte := BitVec.ofNat 8 n

/-- Close a frame with the CRC-8 over every byte before it (R182). -/
def sealFrame (bytes : List Byte) : List Byte := bytes ++ [crc8 bytes]

/-- The response of a request frame (R182). -/
def responseFrame (count : Nat) (entries : List Byte) : List Byte := sealFrame (frameOk :: countByte count :: entries)

/-- The response of a refused frame (R179). -/
def refusalFrame (status : Byte) : List Byte := sealFrame [status, 0#8]

/-- The result bytes of an item answered OK (R182). -/
def State.resultBytes (s : State) (r : ItemResult) : List Byte :=
  match r with
  | .bytes b => b
  | .claim slot => [countByte slot.val, countByte (s.revision 3 slot.val)]

/-- An item's entry: status, length, result; an item not answered OK carries length 0 (R182). -/
def State.entry (s : State) (st : ItemStatus) (r : ItemResult) : List Byte :=
  let b := if st = .ok then s.resultBytes r else []
  countByte st.code :: countByte b.length :: b

/-! ### Executing an item (R180, R181) -/

/-- The composition lock lets the item through; a form refused UNKNOWN is refused before the lock is asked (R131, R181). -/
def passesLock (i : Instr) : Bool :=
  match i with
  | .segment _ _ _ _ _ | .endRoute | .abandonRoute | .stopYaw | .unknownItem _ _ _ => true
  | _ => false

/-- The answer to an item, under the composition lock (R131, R181). -/
def answerItem (i : Instr) (body : State → Answer) (s : State) : Answer :=
  if s.port.composing.isSome && !passesLock i then refuse s .sequence else body s

/-- The last item has been executed: the response is prepared, or the warm reset of a RESTART takes place (R180, R183). -/
def State.endFrame (s : State) : State :=
  let t :=
    { s with
      port :=
        { s.port with
          prepared := responseFrame s.port.itemCount s.port.entries, executing := false, entries := [], itemCount := 0 } }
  if s.port.restartDue then t.warmRestart else t

/-- Add an item's entry to the response; after the last item the frame ends (R180). -/
def State.addEntry (entry : List Byte) (s : State) : State :=
  let t := { s with port := { s.port with entries := s.port.entries ++ entry } }
  if t.port.items.isEmpty then t.endFrame else t

/-- Execute one item as one event and add its entry, made at the end of that event (R42, R180). -/
def State.executeItem (i : Instr) (body : State → Answer) (s : State) : State :=
  let a := answerItem i body s
  (finishEvent s a.state).addEntry ((closeEvent s a.state).entry a.status a.result)

/-- A frame of `n` items enters execution: the prepared response is NO_RESPONSE (R180). -/
def Port.enter (items : List Instr) (n : Nat) (p : Port) : Port :=
  { p with executing := true, items := items, itemCount := n, entries := [], prepared := noResponse }

/-- An item command: the next item of the frame in execution, or, at an idle port, a frame of that one item (log 4). While a
reset holds the part it is not acted on. -/
def runItem (i : Instr) (body : State → Answer) (s : State) : Result :=
  if s.held then .next s
  else if s.port.executing then
    match s.port.items with
    | [] => .next s
    | j :: rest =>
      if j = i then .next ({ s with port := { s.port with items := rest } }.executeItem i body) else .next s
  else .next ({ s with port := s.port.enter [] 1 }.executeItem i body)

/-! ### Taking a frame (R179) -/

/-- What the port makes of the bytes of a frame (R179). -/
inductive FrameOutcome where
  | fetch
  | refused (status : Byte)
  | request (items : List Instr)
  deriving DecidableEq, Repr

/-- Fetch, length, CRC, parse, in this order (R179). -/
def judgeFrame (bytes : List Byte) : FrameOutcome :=
  if bytes.head? = some 0#8 then .fetch
  else if 64 < bytes.length then .refused frameFormat
  else if bytes.getLast? ≠ some (crc8 bytes.dropLast) then .refused frameCrcBad
  else
    match parseItems 8 bytes.dropLast with
    | none => .refused frameFormat
    | some items => .request items

/-- The port takes a frame (R179, R180). -/
def Port.takeFrame (o : FrameOutcome) (p : Port) : Port :=
  match o with
  | .fetch => p
  | .refused st => { p with prepared := refusalFrame st }
  | .request items => p.enter items items.length

/-- What the port makes of the bytes shifted in during a 4-wire select; a part of a byte is refused FORMAT (R177). DESIGN
CHOICE (log 5): before the fetch test of R179, and also where no whole byte came before the part. -/
def selectOutcome (bytes : List Byte) (partByte : Bool) : FrameOutcome :=
  if partByte then .refused frameFormat else judgeFrame bytes

/-! ### Transfers (R177, R178) -/

/-- `n` bytes shifted out: a response, then 0x00 for each further byte (R177). -/
def shiftBytes (response : List Byte) (n : Nat) : List Byte :=
  response.take n ++ List.replicate (n - response.length) 0#8

/-- The address the port answers at (R178). -/
def Port.address (p : Port) : Nat := if p.addrHigh then 0x2D else 0x2C

/-- The frame of a transfer is taken. -/
def State.takeFrame (o : FrameOutcome) (s : State) : State := { s with port := s.port.takeFrame o }

/-- A select of the 4-wire form (R177, R184). A select asserted while the port was executing is met with NO_RESPONSE, and
its bytes are discarded; one asserted before the release of a reset shifts out 0x00 and is not taken. DESIGN CHOICE (log 39):
it shifts out 0x00 throughout. DESIGN CHOICE (log 5) between two sentences of R177: a select that shifts in a part of a byte
and no whole one is a frame, refused FORMAT. -/
def State.select (start : TransferStart) (bytes : List Byte) (partByte : Bool) (s : State) : State :=
  let n := bytes.length + if partByte then 1 else 0
  match start with
  | .beforeRelease => s.shiftOut (some (shiftBytes [] n))
  | .whileExecuting => s.shiftOut (some (shiftBytes noResponse n))
  | .fresh =>
    if s.port.executing then s.shiftOut (some (shiftBytes noResponse n))
    else
      let t := s.shiftOut (some (shiftBytes s.port.prepared n))
      if n = 0 then t else t.takeFrame (selectOutcome bytes partByte)

/-- A 2-wire write (R178, R184): declined at another address, while the port is executing, and from before the release. -/
def State.wireWrite (start : TransferStart) (address : Nat) (bytes : List Byte) (s : State) : State :=
  if address ≠ s.port.address then s.shiftOut none
  else
    match start with
    | .beforeRelease => s.shiftOut none
    | .whileExecuting => s.shiftOut none
    | .fresh =>
      if s.port.executing then s.shiftOut none
      else
        let t := s.shiftOut (some [])
        if bytes.isEmpty then t else t.takeFrame (judgeFrame bytes)

/-- A 2-wire read (R178, R184): the prepared response, which a read does not consume. DESIGN CHOICE (log 35): a read that
began while the port was executing returns NO_RESPONSE whole, though the execution ends before it does. -/
def State.wireRead (start : TransferStart) (address length : Nat) (s : State) : State :=
  if address ≠ s.port.address then s.shiftOut none
  else
    match start with
    | .beforeRelease => s.shiftOut none
    | .whileExecuting => s.shiftOut (some (shiftBytes noResponse length))
    | .fresh => s.shiftOut (some (shiftBytes s.port.prepared length))

/-- A transfer at the port (R177, R178); a transfer of the other form finds no port that answers. DESIGN CHOICE (log 39): the
form and address are those at the transfer's end, also for one that a reset changed them under. -/
def State.transfer (t : Transfer) (s : State) : State :=
  match t, s.port.form with
  | .fourWire start bytes part, .fourWire => s.select start bytes part
  | .twoWireWrite start address bytes, .twoWire => s.wireWrite start address bytes
  | .twoWireRead start address length, .twoWire => s.wireRead start address length
  | .fourWire _ _ _, .twoWire => s.shiftOut none
  | .twoWireWrite _ _ _, .fourWire => s.shiftOut none
  | .twoWireRead _ _ _, .fourWire => s.shiftOut none

/-- The bytes shifted while RESETn is held: 0x00 in the 4-wire form, declined in the 2-wire form (R184). DESIGN CHOICE
(log 39): the same is recorded for the whole of a transfer that was in progress when RESETn was asserted. DESIGN CHOICE
(log 43): the same for a transfer within the power-up sequence while RESETn is not asserted. -/
def heldTransfer (t : Transfer) : Option (List Byte) :=
  match t with
  | .fourWire _ bytes part => some (shiftBytes [] (bytes.length + if part then 1 else 0))
  | .twoWireWrite _ _ _ => none
  | .twoWireRead _ _ _ => none

end Sys2Proof.Machine
end

