-- ==== Sys2Proof/Machine/Timers.lean ====
section
/-!
DEFINITION. Time: which timers stand at 0, and one millisecond of every running timer and reading age (log 1, 24).
-/
namespace Sys2Proof.Machine

/-! ### Timers at 0 -/

/-- The expiry command of a timer that stands at 0. -/
def dueIf (t : Option Nat) (i : Instr) : List Instr := if t = some 0 then [i] else []

/-- The expiry command of the yaw engine's stage timer, by the engine state (R136). -/
def Yaw.stageDue (y : Yaw) : List Instr :=
  match y.engine with
  | .claiming => dueIf y.stageLeft .claimWaitExpiry
  | .releasing => dueIf y.stageLeft .releaseTimerExpiry
  | .settling => dueIf y.stageLeft .settleTimerExpiry
  | .braking => dueIf y.stageLeft .applyTimerExpiry
  | .dwelling => dueIf y.stageLeft .dwellTimerExpiry
  | .parked => []
  | .turning => []

/-- The expiry command of the converter's sequence timer, by state and step (R75). -/
def Converter.sequenceDue (c : Converter) : List Instr :=
  match c.state, c.step with
  | .precharging, some .linkCharging => dueIf c.seqLeft .prechargeTimerExpiry
  | .precharging, some .breakerClosing => dueIf c.seqLeft .breakerTimerExpiry
  | .discharging, _ => dueIf c.seqLeft .dischargeTimerExpiry
  | _, _ => []

/-- The expiry command of a pump's flow timer (R112). -/
def FlowCheck.due (p : Pump) (f : FlowCheck) : List Instr :=
  match f.state with
  | .awaiting => dueIf f.left (.flowWindowExpiry p)
  | .flowing => dueIf f.left (.flowLossTimerExpiry p)
  | .idle => []
  | .failed => []

/-- The expiry command of a condition record's timer (R159, R160). -/
def CondRec.due (i : Fin 32) (r : CondRec) : List Instr :=
  match catalogue[i].kind with
  | .level => dueIf r.timer (.onsetDelayExpiry i)
  | .event => dueIf r.timer (.repeatIntervalExpiry i)

/-- The timers of the meter stream, the lines and part time that stand at 0. -/
def State.inputsDue (s : State) : List Instr :=
  dueIf s.meter.staleLeft .staleTimerExpiry ++
    (List.finRange 8).flatMap (fun c => dueIf (s.meter.channels[c]).ageLeft (.slowChannelAgeExpiry c)) ++
    allLines.flatMap (fun l => dueIf (s.inputs.filters.get l).left (.filterTimerExpiry l)) ++
    dueIf (some s.store.secondLeft) .partTimeTick

/-- The timers of the claims, the supply, the converter and the cooling that stand at 0. -/
def State.powerDue (s : State) : List Instr :=
  dueIf s.app.stagger .staggerTimerExpiry ++
    (List.finRange 16).flatMap (fun i => dueIf (s.claim i).offerLeft (.collectionDeadlineExpiry i)) ++
    dueIf s.supply.recovery .recoveryHoldExpiry ++ dueIf s.supply.reconnect .reconnectionHoldExpiry ++
    s.conv.sequenceDue ++ dueIf s.conv.decayLeft .chopperDecayExpiry ++
    dueIf s.cool.firstEval .firstEvaluationTimerExpiry ++
    allZones.flatMap (fun z => dueIf (s.cool.zones.get z).hold (.decreaseHoldExpiry z)) ++
    [Pump.conv, .gen].flatMap (fun p => (s.cool.flow.get p).due p)

/-- The timers of the windows, the yaw engine and the condition records that stand at 0. -/
def State.yawDue (s : State) : List Instr :=
  dueIf (s.align.short.map (·.left)) .shortWindowClose ++ dueIf (s.align.long.map (·.left)) .longWindowClose ++
    s.yaw.stageDue ++ dueIf s.yaw.idleLeft .idleTimerExpiry ++ dueIf s.yaw.budgetLeft .budgetTimerExpiry ++
    allRecords.flatMap (fun i => (s.cond.recs[i]).due i)

/-- The expiries due: one for each timer that stands at 0. -/
def State.due (s : State) : List Instr := s.inputsDue ++ s.powerDue ++ s.yawDue

/-! ### One millisecond -/

/-- A zone's age counts up and its decrease hold down (R99, R107). -/
def ZoneRec.tick (r : ZoneRec) : ZoneRec :=
  { r with age := r.age.map fun a => min (a + 1) 65535, hold := countDown r.hold }

/-- A window's timer (R119). -/
def Window.tick (w : Window) : Window := { w with left := w.left - 1 }

/-- The meter stream's timers (R172, R173). -/
def Meter.tick (m : Meter) : Meter :=
  { m with
    staleLeft := countDown m.staleLeft
    channels := Vector.ofFn fun c => { m.channels[c] with ageLeft := countDown (m.channels[c]).ageLeft } }

/-- The apportioner's timers (R33, R39). -/
def Apportioner.tick (a : Apportioner) : Apportioner :=
  { a with
    stagger := countDown a.stagger
    claims := Vector.ofFn fun i => { a.claims[i] with offerLeft := countDown (a.claims[i]).offerLeft } }

/-- The Cooling Controller's timers. -/
def Cooling.tick (c : Cooling) : Cooling :=
  { zones := c.zones.map ZoneRec.tick
    flow := ⟨{ c.flow.conv with left := countDown c.flow.conv.left }, { c.flow.gen with left := countDown c.flow.gen.left }⟩
    firstEval := countDown c.firstEval }

/-- The yaw engine's timers (R136). -/
def Yaw.tick (y : Yaw) : Yaw :=
  { y with
    stageLeft := countDown y.stageLeft, idleLeft := countDown y.idleLeft, budgetLeft := countDown y.budgetLeft }

/-- The condition records' timers (R159, R160). -/
def Conditions.tick (k : Conditions) : Conditions :=
  { k with recs := Vector.ofFn fun i => { k.recs[i] with timer := countDown (k.recs[i]).timer } }

/-- The time to the next second of part time; a cold reset holds it (R18). -/
def State.secondTick (s : State) : Nat :=
  match s.hold with
  | some ⟨.cold, _, _, _⟩ => s.store.secondLeft
  | some ⟨.warm, _, _, _⟩ => s.store.secondLeft - 1
  | none => s.store.secondLeft - 1

/-- One millisecond passes: every running timer counts down and every reading age up. No record's held field moves. -/
def State.tick (s : State) : State :=
  { s with
    store := { s.store with secondLeft := s.secondTick }
    meter := s.meter.tick
    inputs := { s.inputs with filters := s.inputs.filters.map fun f => { f with left := countDown f.left } }
    app := s.app.tick
    supply :=
      { s.supply with recovery := countDown s.supply.recovery, reconnect := countDown s.supply.reconnect }
    conv := { s.conv with seqLeft := countDown s.conv.seqLeft, decayLeft := countDown s.conv.decayLeft }
    cool := s.cool.tick
    align := { s.align with short := s.align.short.map Window.tick, long := s.align.long.map Window.tick }
    yaw := s.yaw.tick
    cond := s.cond.tick }

/-! ### Part time (R18) -/

/-- A second of part time, wrapping from 2147483647 to 0 (R18). -/
def Store.second (t : Store) : Store := { t with partTime := (t.partTime + 1) % 2147483648, secondLeft := 1000 }

/-- Part time stays at 0 while a cold reset is held (R18). -/
def State.coldHeld (s : State) : Bool :=
  match s.hold with
  | some h => h.kind == .cold
  | none => false

end Sys2Proof.Machine
end

