-- ==== Sys2Proof/Machine/InputMeanings.lean ====
section
/-!
DEFINITION. The meanings of what arrives from outside the link: power and RESETn (R19), meter frames (R170), line and pin
changes (R175), encoder transitions (R176).
-/
namespace Sys2Proof.Machine

/-! ### Resets (R19) -/

/-- POWER_UP: a cold reset, whatever the state of RESETn and WARMSEL (R19). It ends at POWER_UP_SEQUENCE_COMPLETE or, if
RESETn is asserted, at its release. -/
def execPowerUp (resetnAsserted : Bool) (s : State) : Result :=
  .next ({ s with inputs := { s.inputs with resetn := resetnAsserted } }.beginReset .cold .coldPower)

/-- A power-up reset is in progress (R19). -/
def State.poweringUp (s : State) : Bool :=
  match s.hold with
  | none => false
  | some h => h.cause == .coldPower

/-- POWER_UP_SEQUENCE_COMPLETE: ends the power-up reset unless RESETn holds it (R19; log 6). -/
def execPowerUpSequenceComplete (s : State) : Result :=
  if s.poweringUp && !s.inputs.resetn then .next s.endReset else .next s

/-- The kind and cause of a reset by RESETn, as WARMSEL stands at the assertion (R19). -/
def lineReset (warmsel : Bool) : ResetKind × ResetCause := if warmsel then (.warm, .warmLine) else (.cold, .coldLine)

/-- RESETN_ASSERT: a reset by RESETn; inside a power-up reset, that reset goes on and ends at the release (R19; log 6). -/
def execResetnAssert (s : State) : Result :=
  if s.inputs.resetn then .next s
  else
    let t := { s with inputs := { s.inputs with resetn := true } }
    if s.held then .next t
    else .next (t.beginReset (lineReset s.inputs.warmsel).1 (lineReset s.inputs.warmsel).2)

/-- RESETN_RELEASE: the reset that RESETn holds ends (R19). -/
def execResetnRelease (s : State) : Result :=
  if s.inputs.resetn then .next { s with inputs := { s.inputs with resetn := false } }.endReset else .next s

/-! ### Meter frames, lines, encoder -/

/-- METER_FRAME: the run of bytes between two idle spells; a discarded frame changes nothing (R170). -/
def execMeterFrame (bytes : List Byte) (s : State) : Result :=
  if s.held || !s.meter.accepts bytes then .next s else .next (finishEvent s (s.acceptFrame bytes))

/-- RAW_LINE_CHANGE: a pin takes a new level (R175; log 7, 29). -/
def execRawLineChange (c : PinChange) (s : State) : Result :=
  if s.held then .next (s.heldPin c) else .next (s.pinChanges c)

/-- ENCODER_TRANSITION: the phases take the levels given (R176, R137); while a reset is held the step is lost (R19). -/
def execEncoderTransition (a b : Bool) (s : State) : Result :=
  if s.held then .next { s with inputs := { s.inputs with phaseA := a, phaseB := b } }
  else .next (finishEvent s (s.encoderMoves a b))

end Sys2Proof.Machine
end

