-- ==== Sys2Proof/Machine/ItemMeanings.lean ====
section
/-!
DEFINITION. The meanings of the port's commands: LINK_FRAME, the twenty-four link items and UNKNOWN_ITEM. Each item runs
its block's operation through the port (R180, R181).
-/
namespace Sys2Proof.Machine

/-- LINK_FRAME: a transfer at the link pins (R177 to R179, R184). DESIGN CHOICE (log 43): the port answers no transfer within
the power-up sequence either, RESETn not being asserted. -/
def execLinkFrame (t : Transfer) (s : State) : Result :=
  if s.held then .next (s.shiftOut (heldTransfer t)) else .next (s.transfer t)

/-- SELECT TABLE (R3). -/
def execSelectTable (table : Nat) (s : State) : Result := runItem (.selectTable table) (doSelect table) s

/-- READ FIELDS (R8). -/
def execReadFields (h : Handle) (first count : Nat) (s : State) : Result :=
  runItem (.readFields h first count) (doRead h first count) s

/-- WRITE FIELD (R9 to R13). -/
def execWriteField (h : Handle) (g : Option Nat) (field : Nat) (value : Int) (s : State) : Result :=
  runItem (.writeField h g field value) (doWrite h g field value) s

/-- OPEN CLAIM (R42). -/
def execOpenClaim (h : Handle) (priority asked tag : Nat) (s : State) : Result :=
  runItem (.openClaim h priority asked tag) (doOpen h priority asked tag) s

/-- AMEND CLAIM (R43). -/
def execAmendClaim (h : Handle) (g : Option Nat) (asked : Nat) (s : State) : Result :=
  runItem (.amendClaim h g asked) (doAmend h g asked) s

/-- TAKE CLAIM (R40). -/
def execTakeClaim (h : Handle) (s : State) : Result := runItem (.takeClaim h) (doTake h) s

/-- RETIRE CLAIM (R44). -/
def execRetireClaim (h : Handle) (g : Option Nat) (s : State) : Result :=
  runItem (.retireClaim h g) (doRetireClaim h g) s

/-- BEGIN ROUTE (R128). -/
def execBeginRoute (h : Handle) (s : State) : Result := runItem (.beginRoute h) (doBegin h) s

/-- SEGMENT (R129). -/
def execSegment (kind : Nat) (target : Int) (direction speed dwell : Nat) (s : State) : Result :=
  runItem (.segment kind target direction speed dwell) (doSegment kind target direction speed dwell) s

/-- END ROUTE (R130). -/
def execEndRoute (s : State) : Result := runItem .endRoute doEndRoute s

/-- ABANDON ROUTE (R130). -/
def execAbandonRoute (s : State) : Result := runItem .abandonRoute doAbandon s

/-- RUN ROUTE (R132). -/
def execRunRoute (h : Handle) (g : Option Nat) (s : State) : Result := runItem (.runRoute h g) (doRun h g) s

/-- STOP YAW (R149). -/
def execStopYaw (s : State) : Result := runItem .stopYaw doStopYaw s

/-- RETIRE ROUTE (R134). -/
def execRetireRoute (h : Handle) (g : Option Nat) (s : State) : Result :=
  runItem (.retireRoute h g) (doRetireRoute h g) s

/-- RESTORE YAW (R138). -/
def execRestoreYaw (heading : Nat) (twist : Int) (s : State) : Result :=
  runItem (.restoreYaw heading twist) (doRestoreYaw heading twist) s

/-- CHARGE (R78, R79). -/
def execCharge (s : State) : Result := runItem .charge doCharge s

/-- START (R78, R83). -/
def execStart (s : State) : Result := runItem .start doStart s

/-- STOP CONVERTER (R78, R84). -/
def execStopConverter (s : State) : Result := runItem .stopConverter doStop s

/-- DISCHARGE (R78, R86). -/
def execDischarge (s : State) : Result := runItem .discharge doDischarge s

/-- CLEAR TRIP (R78, R87). -/
def execClearTrip (s : State) : Result := runItem .clearTrip doClearTrip s

/-- ACKNOWLEDGE (R163). -/
def execAcknowledge (h : Handle) (g : Option Nat) (s : State) : Result :=
  runItem (.acknowledge h g) (doAcknowledge h g) s

/-- ACKNOWLEDGE LINE (R164). -/
def execAcknowledgeLine (line : Nat) (s : State) : Result := runItem (.acknowledgeLine line) (doAcknowledgeLine line) s

/-- FREEZE (R14). -/
def execFreeze (s : State) : Result := runItem .freeze doFreeze s

/-- RESTART (R183). -/
def execRestart (s : State) : Result := runItem .restart doRestart s

/-- UNKNOWN_ITEM: a form the port refuses (R181). -/
def execUnknownItem (code : Nat) (long guard : Bool) (s : State) : Result :=
  runItem (.unknownItem code long guard) doUnknown s

end Sys2Proof.Machine
end

