-- ==== Sys2Proof/Machine/TimerMeanings.lean ====
section
/-!
DEFINITION. The meanings of the timer expiries. Each acts where its timer runs and has no effect elsewhere (log 3).
-/
namespace Sys2Proof.Machine

/-! ### Stream, lines, part time -/

/-- STALE_TIMER_EXPIRY (R172). -/
def execStaleTimerExpiry (s : State) : Result := expiry (fun s => s.meter.staleLeft.isSome) State.streamStale s

/-- SLOW_CHANNEL_AGE_EXPIRY (R173). -/
def execSlowChannelAgeExpiry (c : Fin 8) (s : State) : Result :=
  expiry (fun s => (s.meter.channels[c]).ageLeft.isSome) (State.channelStale c) s

/-- FILTER_TIMER_EXPIRY (R175). -/
def execFilterTimerExpiry (l : Line) (s : State) : Result :=
  expiry (fun s => (s.inputs.filters.get l).left.isSome) (State.filterExpired l) s

/-- PART_TIME_TICK: one second of part time, counted in a warm reset too (R18). -/
def execPartTimeTick (s : State) : Result := if s.coldHeld then .next s else .next { s with store := s.store.second }

/-! ### Claims and supply -/

/-- STAGGER_TIMER_EXPIRY: the timer is idle when its event begins, so that a grant may start it at 0 (R33). -/
def execStaggerTimerExpiry (s : State) : Result :=
  if s.held || s.app.stagger.isNone then .next s
  else event State.grantOpportunity { s with app := { s.app with stagger := none } }

/-- COLLECTION_DEADLINE_EXPIRY (R41). -/
def execCollectionDeadlineExpiry (i : Fin 16) (s : State) : Result :=
  expiry (fun s => (s.claim i).offerLeft.isSome) (State.lapse i) s

/-- RECOVERY_HOLD_EXPIRY (R59). -/
def execRecoveryHoldExpiry (s : State) : Result :=
  expiry (fun s => s.supply.recovery.isSome) (State.supplyMoved (State.changeSupply .grid none)) s

/-- RECONNECTION_HOLD_EXPIRY (R62). -/
def execReconnectionHoldExpiry (s : State) : Result :=
  expiry (fun s => s.supply.reconnect.isSome) (State.supplyMoved (State.changeSupply .grid none)) s

/-! ### Converter -/

/-- The sequence timer runs. -/
def State.sequenceRuns (s : State) : Bool := s.conv.seqLeft.isSome

/-- PRECHARGE_TIMER_EXPIRY (R80). -/
def execPrechargeTimerExpiry (s : State) : Result := expiry State.sequenceRuns State.prechargeExpired s

/-- BREAKER_TIMER_EXPIRY (R81). -/
def execBreakerTimerExpiry (s : State) : Result := expiry State.sequenceRuns State.breakerExpired s

/-- DISCHARGE_TIMER_EXPIRY (R86). -/
def execDischargeTimerExpiry (s : State) : Result := expiry State.sequenceRuns State.dischargeExpired s

/-- CHOPPER_DECAY_EXPIRY (R94). -/
def execChopperDecayExpiry (s : State) : Result := expiry (fun s => s.conv.decayLeft.isSome) State.decay s

/-! ### Cooling -/

/-- At the first-evaluation timer's expiry every zone not yet evaluated is evaluated as stale (R101, R117). -/
def State.firstEvaluation (s : State) : State :=
  { s with cool := { s.cool with firstEval := none } }.evaluateZones
    (allZones.filter fun z => (s.cool.zones.get z).computed.isNone)

/-- FIRST_EVALUATION_TIMER_EXPIRY (R101). -/
def execFirstEvaluationTimerExpiry (s : State) : Result :=
  expiry (fun s => s.cool.firstEval.isSome) State.firstEvaluation s

/-- DECREASE_HOLD_EXPIRY (R106). -/
def execDecreaseHoldExpiry (z : Zone) (s : State) : Result :=
  expiry (fun s => (s.cool.zones.get z).hold.isSome) (State.holdExpired z) s

/-- A pump's flow timer runs in the state given. -/
def State.flowRuns (s : State) (p : Pump) (st : FlowState) : Bool :=
  (s.cool.flow.get p).left.isSome && (s.cool.flow.get p).state == st

/-- FLOW_WINDOW_EXPIRY (R113). -/
def execFlowWindowExpiry (p : Pump) (s : State) : Result :=
  expiry (fun s => s.flowRuns p .awaiting) (State.flowLost p) s

/-- FLOW_LOSS_TIMER_EXPIRY (R113). -/
def execFlowLossTimerExpiry (p : Pump) (s : State) : Result :=
  expiry (fun s => s.flowRuns p .flowing) (State.flowLost p) s

/-! ### Alignment and yaw -/

/-- The short window, if open, closes (R119). -/
def State.shortCloses (s : State) : State :=
  match s.align.short with
  | none => s
  | some w => s.closeShort w

/-- SHORT_WINDOW_CLOSE (R119, R121, R122). -/
def execShortWindowClose (s : State) : Result := expiry (fun s => s.align.short.isSome) State.shortCloses s

/-- The long window, if open, closes (R119). -/
def State.longCloses (s : State) : State :=
  match s.align.long with
  | none => s
  | some w => s.closeLong w

/-- LONG_WINDOW_CLOSE (R119, R121 to R123). -/
def execLongWindowClose (s : State) : Result := expiry (fun s => s.align.long.isSome) State.longCloses s

/-- The stage timer runs in the engine state given. -/
def State.stageRuns (s : State) (e : EngineState) : Bool := s.yaw.stageLeft.isSome && s.yaw.engine == e

/-- CLAIM_WAIT_EXPIRY (R141). -/
def execClaimWaitExpiry (s : State) : Result := expiry (fun s => s.stageRuns .claiming) State.claimWaitExpired s

/-- RELEASE_TIMER_EXPIRY (R142). -/
def execReleaseTimerExpiry (s : State) : Result := expiry (fun s => s.stageRuns .releasing) State.releaseExpired s

/-- IDLE_TIMER_EXPIRY (R146). -/
def execIdleTimerExpiry (s : State) : Result := expiry (fun s => s.yaw.idleLeft.isSome) State.stalled s

/-- BUDGET_TIMER_EXPIRY (R146). -/
def execBudgetTimerExpiry (s : State) : Result := expiry (fun s => s.yaw.budgetLeft.isSome) State.stalled s

/-- SETTLE_TIMER_EXPIRY (R147). -/
def execSettleTimerExpiry (s : State) : Result := expiry (fun s => s.stageRuns .settling) State.settleExpired s

/-- APPLY_TIMER_EXPIRY (R147). -/
def execApplyTimerExpiry (s : State) : Result := expiry (fun s => s.stageRuns .braking) State.applyExpired s

/-- DWELL_TIMER_EXPIRY (R148). -/
def execDwellTimerExpiry (s : State) : Result := expiry (fun s => s.stageRuns .dwelling) State.dwellExpired s

/-! ### Conditions -/

/-- A record's timer runs and the record is of the kind given. -/
def State.recordRuns (s : State) (i : Fin 32) (k : CondKind) : Bool :=
  (s.cond.recs[i]).timer.isSome && catalogue[i].kind == k

/-- ONSET_DELAY_EXPIRY (R158). -/
def execOnsetDelayExpiry (i : Fin 32) (s : State) : Result :=
  expiry (fun s => s.recordRuns i .level) (State.conditionTimer i) s

/-- REPEAT_INTERVAL_EXPIRY (R160). -/
def execRepeatIntervalExpiry (i : Fin 32) (s : State) : Result :=
  expiry (fun s => s.recordRuns i .event) (State.conditionTimer i) s

end Sys2Proof.Machine
end

