-- ==== Sys2Proof/Machine/Dispatch.lean ====
section
/-!
DEFINITION. The meaning of every command: one arm per constructor of Instr.
-/
namespace Sys2Proof.Machine

/-- The command's effect on everything but the queue. -/
def exec (i : Instr) (s : State) : Host.Outcome State Fault Refusal :=
  match i with
  | .linkFrame t => Sys2Proof.Machine.execLinkFrame t s
  | .selectTable table => Sys2Proof.Machine.execSelectTable table s
  | .readFields h first count => Sys2Proof.Machine.execReadFields h first count s
  | .writeField h guard field value => Sys2Proof.Machine.execWriteField h guard field value s
  | .openClaim h priority asked tag => Sys2Proof.Machine.execOpenClaim h priority asked tag s
  | .amendClaim h guard asked => Sys2Proof.Machine.execAmendClaim h guard asked s
  | .takeClaim h => Sys2Proof.Machine.execTakeClaim h s
  | .retireClaim h guard => Sys2Proof.Machine.execRetireClaim h guard s
  | .beginRoute h => Sys2Proof.Machine.execBeginRoute h s
  | .segment kind target direction speed dwell => Sys2Proof.Machine.execSegment kind target direction speed dwell s
  | .endRoute => Sys2Proof.Machine.execEndRoute s
  | .abandonRoute => Sys2Proof.Machine.execAbandonRoute s
  | .runRoute h guard => Sys2Proof.Machine.execRunRoute h guard s
  | .stopYaw => Sys2Proof.Machine.execStopYaw s
  | .retireRoute h guard => Sys2Proof.Machine.execRetireRoute h guard s
  | .restoreYaw heading twist => Sys2Proof.Machine.execRestoreYaw heading twist s
  | .charge => Sys2Proof.Machine.execCharge s
  | .start => Sys2Proof.Machine.execStart s
  | .stopConverter => Sys2Proof.Machine.execStopConverter s
  | .discharge => Sys2Proof.Machine.execDischarge s
  | .clearTrip => Sys2Proof.Machine.execClearTrip s
  | .acknowledge h guard => Sys2Proof.Machine.execAcknowledge h guard s
  | .acknowledgeLine line => Sys2Proof.Machine.execAcknowledgeLine line s
  | .freeze => Sys2Proof.Machine.execFreeze s
  | .restart => Sys2Proof.Machine.execRestart s
  | .unknownItem code long guard => Sys2Proof.Machine.execUnknownItem code long guard s
  | .powerUp resetnAsserted => Sys2Proof.Machine.execPowerUp resetnAsserted s
  | .powerUpSequenceComplete => Sys2Proof.Machine.execPowerUpSequenceComplete s
  | .resetnAssert => Sys2Proof.Machine.execResetnAssert s
  | .resetnRelease => Sys2Proof.Machine.execResetnRelease s
  | .meterFrame bytes => Sys2Proof.Machine.execMeterFrame bytes s
  | .staleTimerExpiry => Sys2Proof.Machine.execStaleTimerExpiry s
  | .slowChannelAgeExpiry channel => Sys2Proof.Machine.execSlowChannelAgeExpiry channel s
  | .rawLineChange change => Sys2Proof.Machine.execRawLineChange change s
  | .filterTimerExpiry line => Sys2Proof.Machine.execFilterTimerExpiry line s
  | .encoderTransition a b => Sys2Proof.Machine.execEncoderTransition a b s
  | .partTimeTick => Sys2Proof.Machine.execPartTimeTick s
  | .staggerTimerExpiry => Sys2Proof.Machine.execStaggerTimerExpiry s
  | .collectionDeadlineExpiry slot => Sys2Proof.Machine.execCollectionDeadlineExpiry slot s
  | .recoveryHoldExpiry => Sys2Proof.Machine.execRecoveryHoldExpiry s
  | .reconnectionHoldExpiry => Sys2Proof.Machine.execReconnectionHoldExpiry s
  | .prechargeTimerExpiry => Sys2Proof.Machine.execPrechargeTimerExpiry s
  | .breakerTimerExpiry => Sys2Proof.Machine.execBreakerTimerExpiry s
  | .dischargeTimerExpiry => Sys2Proof.Machine.execDischargeTimerExpiry s
  | .chopperDecayExpiry => Sys2Proof.Machine.execChopperDecayExpiry s
  | .firstEvaluationTimerExpiry => Sys2Proof.Machine.execFirstEvaluationTimerExpiry s
  | .decreaseHoldExpiry zone => Sys2Proof.Machine.execDecreaseHoldExpiry zone s
  | .flowWindowExpiry pump => Sys2Proof.Machine.execFlowWindowExpiry pump s
  | .flowLossTimerExpiry pump => Sys2Proof.Machine.execFlowLossTimerExpiry pump s
  | .shortWindowClose => Sys2Proof.Machine.execShortWindowClose s
  | .longWindowClose => Sys2Proof.Machine.execLongWindowClose s
  | .claimWaitExpiry => Sys2Proof.Machine.execClaimWaitExpiry s
  | .releaseTimerExpiry => Sys2Proof.Machine.execReleaseTimerExpiry s
  | .idleTimerExpiry => Sys2Proof.Machine.execIdleTimerExpiry s
  | .budgetTimerExpiry => Sys2Proof.Machine.execBudgetTimerExpiry s
  | .settleTimerExpiry => Sys2Proof.Machine.execSettleTimerExpiry s
  | .applyTimerExpiry => Sys2Proof.Machine.execApplyTimerExpiry s
  | .dwellTimerExpiry => Sys2Proof.Machine.execDwellTimerExpiry s
  | .onsetDelayExpiry record => Sys2Proof.Machine.execOnsetDelayExpiry record s
  | .repeatIntervalExpiry record => Sys2Proof.Machine.execRepeatIntervalExpiry record s

end Sys2Proof.Machine
end

