-- ==== Sys2Proof/Machine/Step.lean ====
section
/-!
DEFINITION. One step: the command at the front of the queue; with none waiting, the port's next item, a timer that stands
at 0, or one millisecond (log 1). How a word is put at the front of the queue.
-/
namespace Sys2Proof.Machine

/-- Take one of several timers at 0: which is a free choice (R119; log 2). -/
def State.choose (s : State) (due : List Instr) : Option Instr := due[Config.duePick s.choices % due.length]?

/-- With no command waiting and no item to execute: a timer at 0 expires, or one millisecond passes (log 1). -/
def idle (s : State) : Result :=
  match s.due with
  | [] => .next s.tick
  | [i] => exec i s
  | due =>
    match s.choose due with
    | none => .next s
    | some i => exec i { s with choices := s.choices + 1 }

/-- One step of the machine. -/
def step (s : State) : Host.Outcome State Fault Refusal :=
  match s.pending with
  | c :: rest => exec c { s with pending := rest }
  | [] =>
    match s.port.items with
    | i :: _ => if s.port.executing && !s.held then exec i s else idle s
    | [] => idle s

/-- The state with the command a word spells at the front of the queue; no row of the table gives bits, so unchanged. -/
def State.withFetchWord (s : State) (nbits w : Nat) : State :=
  match decodeTableWord nbits w with
  | none => s
  | some c => { s with pending := c :: s.pending }

end Sys2Proof.Machine
end

