-- ==== Sys2Proof/WellFormed.lean ====
section
/-!
DEFINITION. When a command is one the outside can send: every operand fits the bytes that carry it (10.6-2), and an
UNKNOWN_ITEM has a form the port refuses (R181). The meanings are total: an ill-formed command is no stop.
-/
namespace Sys2Proof

/-- A value of `n` unsigned bytes. -/
def fitsBytes (n v : Nat) : Bool := decide (v < 256 ^ n)

/-- A value of `n` bytes in two's complement. -/
def fitsSigned (n : Nat) (v : Int) : Bool := decide (-(2 ^ (8 * n - 1) : Int) ≤ v ∧ v < 2 ^ (8 * n - 1))

/-- Each byte of the handle is a byte. -/
def Handle.wf (h : Handle) : Bool :=
  match h with
  | .short i => fitsBytes 1 i
  | .long t i => fitsBytes 1 t && fitsBytes 1 i

/-- The guard byte, if there is one, is a byte. -/
def guardWf (g : Option Nat) : Bool :=
  match g with
  | none => true
  | some b => fitsBytes 1 b

/-- A 2-wire address has seven bits. PRESUMED (log 40): R178 names 0x2C and 0x2D and gives no width. -/
def Transfer.wf (t : Transfer) : Bool :=
  match t with
  | .fourWire _ _ _ => true
  | .twoWireWrite _ a _ => decide (a < 128)
  | .twoWireRead _ a _ => decide (a < 128)

/-- Every operand of the command fits what carries it. -/
def Instr.wf (i : Instr) : Bool :=
  match i with
  | .linkFrame t => t.wf
  | .selectTable t => fitsBytes 1 t
  | .readFields h f c => h.wf && fitsBytes 1 f && fitsBytes 1 c
  | .writeField h g f v => h.wf && guardWf g && fitsBytes 1 f && fitsSigned 4 v
  | .openClaim h p a t => h.wf && fitsBytes 1 p && fitsBytes 2 a && fitsBytes 2 t
  | .amendClaim h g a => h.wf && guardWf g && fitsBytes 2 a
  | .takeClaim h => h.wf
  | .retireClaim h g => h.wf && guardWf g
  | .beginRoute h => h.wf
  | .segment k t d s w => fitsBytes 1 k && fitsSigned 3 t && fitsBytes 1 d && fitsBytes 1 s && fitsBytes 2 w
  | .runRoute h g => h.wf && guardWf g
  | .retireRoute h g => h.wf && guardWf g
  | .restoreYaw h t => fitsBytes 2 h && fitsSigned 4 t
  | .acknowledge h g => h.wf && guardWf g
  | .acknowledgeLine l => fitsBytes 1 l
  | .unknownItem c l g => decide (c < 32) && !legalForm c l g
  | .endRoute | .abandonRoute | .stopYaw | .charge | .start | .stopConverter | .discharge | .clearTrip | .freeze
  | .restart | .powerUp _ | .powerUpSequenceComplete | .resetnAssert | .resetnRelease | .meterFrame _
  | .staleTimerExpiry | .slowChannelAgeExpiry _ | .rawLineChange _ | .filterTimerExpiry _ | .encoderTransition _ _
  | .partTimeTick | .staggerTimerExpiry | .collectionDeadlineExpiry _ | .recoveryHoldExpiry | .reconnectionHoldExpiry
  | .prechargeTimerExpiry | .breakerTimerExpiry | .dischargeTimerExpiry | .chopperDecayExpiry
  | .firstEvaluationTimerExpiry | .decreaseHoldExpiry _ | .flowWindowExpiry _ | .flowLossTimerExpiry _
  | .shortWindowClose | .longWindowClose | .claimWaitExpiry | .releaseTimerExpiry | .idleTimerExpiry
  | .budgetTimerExpiry | .settleTimerExpiry | .applyTimerExpiry | .dwellTimerExpiry | .onsetDelayExpiry _
  | .repeatIntervalExpiry _ => true

end Sys2Proof
end

