-- ==== Sys2Proof/Safety.lean ====
section
/-!
DEFINITION. The terms that claims about the machine use: the pieces of the state and which of them a change may touch, the
moments at which a command is stated, and the laws that every step keeps.
-/
namespace Sys2Proof

/-! ### Kinds of command -/

/-- The command is an item of a request frame (10.6-2). -/
def Instr.isItem (i : Instr) : Bool := (encodeItem false i).isSome

/-- The commands that begin or end a reset, or make one due (R19). -/
def Instr.resets (i : Instr) : Bool :=
  match i with
  | .restart | .powerUp _ | .powerUpSequenceComplete | .resetnAssert | .resetnRelease => true
  | _ => false

/-- The commands that a part held by a reset still meets: the resets, the pins and the phases, a transfer, part time
(R18, R19, R184). -/
def Instr.reachesHeld (i : Instr) : Bool :=
  match i with
  | .powerUp _ | .powerUpSequenceComplete | .resetnAssert | .resetnRelease | .linkFrame _ | .rawLineChange _
  | .encoderTransition _ _ | .partTimeTick => true
  | _ => false

end Sys2Proof

namespace Sys2Proof.Machine

/-! ### Pieces of the state -/

/-- A piece of the state: one for each field. -/
inductive Piece where
  | store | revs | port | meter | inputs | app | supply | conv | cool | align | routes | yaw | cond | out | hold | ev
  | choices | pending
  deriving DecidableEq, Repr

/-- The piece is the same in both states. -/
def Piece.same (p : Piece) (s t : State) : Prop :=
  match p with
  | .store => t.store = s.store
  | .revs => t.revs = s.revs
  | .port => t.port = s.port
  | .meter => t.meter = s.meter
  | .inputs => t.inputs = s.inputs
  | .app => t.app = s.app
  | .supply => t.supply = s.supply
  | .conv => t.conv = s.conv
  | .cool => t.cool = s.cool
  | .align => t.align = s.align
  | .routes => t.routes = s.routes
  | .yaw => t.yaw = s.yaw
  | .cond => t.cond = s.cond
  | .out => t.out = s.out
  | .hold => t.hold = s.hold
  | .ev => t.ev = s.ev
  | .choices => t.choices = s.choices
  | .pending => t.pending = s.pending

/-- Nothing outside the pieces listed differs. -/
def Changes (ps : List Piece) (s t : State) : Prop := ∀ p, p ∉ ps → p.same s t

/-! ### The moments at which a command is stated -/

/-- No reset holds the part, and no event is half done. -/
abbrev Between (s : State) : Prop := s.hold = none ∧ s.ev = Scratch.empty

/-- Between events, with no frame in execution and no RESTART due; a composition may be open. -/
abbrev PortIdle (s : State) : Prop := Between s ∧ s.port.executing = false ∧ s.port.restartDue = false

/-- The port is idle and no composition is open: an item is executed at once. -/
abbrev Ready (s : State) : Prop := PortIdle s ∧ s.port.composing = none

/-- The consequences in force are those the blocks were last told (R165). -/
abbrev Judged (s : State) : Prop := s.cond.told = s.cond.inForce

/-- The stagger timer runs: a claim event makes its change and the candidates wait (R34). -/
abbrev StaggerRuns (s : State) : Prop := s.app.stagger.isSome = true

/-- The claim event of an operation makes no grant: the stagger timer runs, or the operation leaves no candidate (R34,
R35). -/
abbrev GrantsNothing (f : Apportioner → Apportioner) (s : State) : Prop :=
  s.app.stagger.isSome = true ∨ (f s.app).candidates s.grantArgs.service = []

/-- The CLAIM_SHED cause is present exactly while the shed stack holds a claim (R51). -/
abbrev ShedReported (s : State) : Prop := (s.cond.recs[Cond.claimShed]).present = !s.app.shedStack.isEmpty

/-! ### Responses -/

/-- The response frame of one item answered with a status and result bytes (R182). -/
def itemResponse (st : ItemStatus) (data : List Byte) : List Byte :=
  responseFrame 1 (countByte st.code :: countByte data.length :: data)

/-- The port after a frame of one item: idle, with its response prepared (R180). -/
def Port.answered (p : Port) (st : ItemStatus) (data : List Byte) : Port :=
  { p with prepared := itemResponse st data, executing := false, items := [], itemCount := 0, entries := [] }

/-- The end of the event of an item that brought about the state given: the lines driven, the response prepared. -/
def State.answered (st : ItemStatus) (data : List Byte) (s : State) : State :=
  { s.drive with port := s.port.answered st data }

/-! ### What a reset leaves -/

/-- A condition record through a reset, before the reports of its end: the default CLEAR record after a cold one (R168);
after a warm one kept where it is LATCHED and latching or persistent, and CLEAR otherwise, with the present part time as
its last change where that changes its state (R169). -/
def CondRec.through (kind : ResetKind) (c : CondSpec) (now : Nat) (r : CondRec) : CondRec :=
  match kind with
  | .cold => ⟨.clear, false, c.delay, none, c.route, false, 0, false, none, none, none⟩
  | .warm =>
    if r.state = .latched ∧ (c.latching = true ∨ r.persistent = true) then { r with present := false, timer := none }
    else
      { r with
        state := .clear, present := false, timer := none, count := 0, persistent := false, burst := none, first := none
        last := if r.state = .clear then r.last else some now }

/-- The cause that the end of a reset reports as present: METER_STALE, GATE_FAULT with its line active, the five ZONE_HOT,
TWIST_UNKNOWN with the yaw unknown, TWIST_LIMIT with a known twist at or above the limit (R168, R169, R91, R117, R139). -/
def State.causeAfterReset (s : State) (i : Fin 32) : Bool :=
  i == Cond.meterStale || (i == Cond.gateFault && s.level .gateFault) || decide (11 ≤ i.val ∧ i.val ≤ 15) ||
    (i == Cond.twistUnknown && !s.yaw.known) ||
    (i == Cond.twistLimit && s.yaw.known && decide (s.setting Setting.twistHardLimit ≤ s.yaw.twist.natAbs))

/-- A record, CLEAR or kept LATCHED, that the report of a present cause meets at the end of a reset: ACTIVE with an onset
where its delay is 0; else its delay timer runs, a CLEAR record being PENDING (R158, R168, R169). -/
def CondRec.meetsCause (o : OnsetArgs) (r : CondRec) : CondRec :=
  if r.delay = 0 then { { r with present := true, timer := none }.onset o with state := .active }
  else if r.state = .latched then { r with present := true, timer := some r.delay }
  else { r with state := .pending, present := true, timer := some r.delay, last := some o.now }

/-- The state `t` at the end of a reset of a kind and cause that began in `s` (R6, R20, R53, R73, R98, R117, R135, R154,
R168, R169, R174, R184). -/
def ResetLeaves (kind : ResetKind) (cause : ResetCause) (s t : State) : Prop :=
  t.hold = none ∧
  t.store.resetCause = cause ∧
  (kind = .cold → t.store.settings = settingDefaults ∧ t.store.frozen = false ∧ t.store.partTime = 0) ∧
  (kind = .warm →
    t.store.settings = s.store.settings ∧ t.store.frozen = s.store.frozen ∧ t.store.partTime = s.store.partTime) ∧
  t.meter = Meter.silent ∧
  t.app = Apportioner.initial ∧
  t.supply = Supply.initial ∧
  t.conv =
    { Converter.initial with seqLeft := some (1000 * t.setting Setting.dischargeTimeout), decayLeft := some 10 } ∧
  t.routes = RouteStore.initial ∧
  t.yaw = s.yaw.reset kind ∧
  t.cool =
    { Cooling.initial (t.setting Setting.derateFloor)
        (match kind with
         | .cold => zoneLimitDefaults
         | .warm => s.cool.limits) with firstEval := some 500 } ∧
  t.align.lastShort = none ∧ t.align.lastLong = none ∧ t.align.motionIndex = none ∧ t.align.untwistDue = false ∧
  t.align.trigger = .none ∧ t.align.triggerTime = none ∧
  t.align.short =
    some ⟨1000 * t.setting Setting.shortWindow, 1000 * t.setting Setting.shortWindow, 0, 0, true⟩ ∧
  t.align.long =
    some ⟨1000 * t.setting Setting.longWindow, 1000 * t.setting Setting.longWindow, 0, 0, true⟩ ∧
  (∀ i : Fin 32,
    t.cond.recs[i] =
      (if t.causeAfterReset i then
        ((s.cond.recs[i]).through kind catalogue[i] t.store.partTime).meetsCause t.onsetArgs
      else (s.cond.recs[i]).through kind catalogue[i] t.store.partTime)) ∧
  t.cond.told = t.cond.inForce ∧
  (kind = .cold →
    (∀ (table : Fin 11) (index : Fin 86), table ≠ 10 → t.revision table.val index.val = 0) ∧
      ∀ i : Fin 32, t.revision 10 i.val = if t.causeAfterReset i then 1 else 0) ∧
  t.inputs =
    { s.inputs with filters := s.inputs.raw.map (fun b => ⟨b, none⟩), resetn := t.inputs.resetn } ∧
  t.port.form = t.inputs.linksel ∧ t.port.addrHigh = t.inputs.addr ∧ t.port.table = 0 ∧ t.port.composing = none ∧
  t.port.prepared = noResponse ∧ t.port.executing = false ∧ t.port.restartDue = false ∧
  t.out = t.outputs

/-! ### Laws that every step keeps -/

/-- Every output line is what the rules of 9.7 drive on it (R48, R76, R77, R96, R111, R140, R166). -/
abbrev LinesDriven (s : State) : Prop := s.out = s.outputs

/-- The revisions are there for every record and each lies within 0 to 255 (R5). -/
def RevisionsKept (s : State) : Prop :=
  s.revs.map List.length = (List.range 11).map tableCount ∧ ∀ row ∈ s.revs, ∀ r ∈ row, r < 256

/-- Part time within 0 to 2147483647 (R18), the current table 0 to 10 (R3), the heading 0 to 35999 (R137), every SETTINGS
value within its bounds and every zone's thresholds in order (R10, R15), the revisions in range (R5), and nothing gathered
between events. -/
def Carried (s : State) : Prop :=
  s.store.partTime ≤ 2147483647 ∧ s.port.table < 11 ∧ s.yaw.heading < 36000 ∧
    (∀ k : Fin 86, settingSpecs[k].lo ≤ s.setting k ∧ s.setting k ≤ settingSpecs[k].hi) ∧
    (∀ z ∈ allZones, (s.cool.zones.get z).limits.ordered = true) ∧ RevisionsKept s ∧ s.ev = Scratch.empty

/-! ### Claims within the budget -/

/-- A claim is in the standing list exactly when it is HELD or OFFERED, in the shed stack exactly when it is SHED, in the
waiting queue exactly when it is WAITING or HELD with a shortfall; each collection holds a slot at most once; a claim
neither HELD nor OFFERED has granted 0, none more than it asked, and an OFFERED one all of it (R23, R24, R38). -/
def Apportioner.Consistent (a : Apportioner) : Prop :=
  a.standing.Nodup ∧ a.shedStack.Nodup ∧ a.waiting.Nodup ∧
    ∀ i : Fin 16,
      (i ∈ a.standing ↔ ((a.claims[i]).state = .held ∨ (a.claims[i]).state = .offered)) ∧
      (i ∈ a.shedStack ↔ (a.claims[i]).state = .shed) ∧
      (i ∈ a.waiting ↔
        (a.claims[i]).state = .waiting ∨
          ((a.claims[i]).state = .held ∧ (a.claims[i]).granted < (a.claims[i]).asked)) ∧
      ((a.claims[i]).state ≠ .held → (a.claims[i]).state ≠ .offered → (a.claims[i]).granted = 0) ∧
      (a.claims[i]).granted ≤ (a.claims[i]).asked ∧
      ((a.claims[i]).state = .offered → (a.claims[i]).granted = (a.claims[i]).asked)

/-- The law of R29, with the collections it rests on: the granted sum is within the apportionable budget. -/
def WithinBudget (s : State) : Prop := s.app.Consistent ∧ s.app.grantedSum ≤ s.apportionable

/-! ### The composing route -/

/-- The law of R128: the route named as composing is a manual route in COMPOSING. -/
def Composes (s : State) : Prop :=
  ∀ r : Fin 6, s.port.composing = some r → 2 ≤ r.val ∧ (s.routes.routes[r]).state = .composing

/-! ### Routes and the yaw engine -/

/-- The law of R132: at most one route is RUNNING. -/
def OneRuns (s : State) : Prop :=
  ∀ q r : Fin 6, (s.routes.routes[q]).state = .running → (s.routes.routes[r]).state = .running → q = r

/-- The law of R138: while the yaw is unknown, the yaw engine is PARKED. -/
abbrev UnknownParked (s : State) : Prop := s.yaw.known = false → s.yaw.engine = .parked

/-- The law of R127: a slot in a route's list is taken by that route, so no other route has it; slot 0 is route 0's, slot 1
route 1's, the pool the manual routes'. -/
def SlotsOwned (s : State) : Prop :=
  ∀ (r : Fin 6) (slot : Fin 24), slot ∈ (s.routes.routes[r]).slots →
    s.routes.segments[slot].map (·.route) = some r ∧ (r.val < 2 → slot.val = r.val) ∧ (2 ≤ r.val → 2 ≤ slot.val)

/-- The engine is in a state that it leaves when its route ends (R151). -/
def EngineState.engaged (e : EngineState) : Bool := e == .claiming || e == .releasing || e == .turning || e == .dwelling

/-- The third and fourth terms of the law of R140, with what they rest on: in TURNING the filtered BRAKE_OPEN is active; an
engaged engine has a RUNNING route; under INHIBIT_YAW no route is RUNNING; outside a reset the Yaw Sequencer has been told
whether INHIBIT_YAW is in force; in a reset the engine is PARKED and no route is RUNNING. -/
def DrivesSafely (s : State) : Prop :=
  (s.yaw.engine = .turning → s.level .brakeOpen = true) ∧
    (s.yaw.engine.engaged = true → s.runningRoute.isSome = true) ∧
    (s.inhibitInForce = true → s.runningRoute = none) ∧
    (s.hold = none → s.cond.told.inhibitYaw = s.cond.inForce.inhibitYaw) ∧
    (s.hold.isSome = true → s.yaw.engine = .parked ∧ s.runningRoute = none)

/-- The law of R145, with what it rests on: in TURNING there is a segment to judge the steps by, and a twist at or above
TWIST_HARD_LIMIT is not wound further; an engine that is not PARKED works for the RUNNING route. -/
def WindsWithin (s : State) : Prop :=
  (s.yaw.engine = .turning →
      s.presentSegment.isSome = true ∧
        (s.setting Setting.twistHardLimit ≤ s.yaw.twist.natAbs → s.yaw.winding = false)) ∧
    (s.yaw.engine ≠ .parked → ∀ r : Fin 6, s.runningRoute = some r → s.yaw.route = some r)

/-- The laws of the routes and of the yaw engine. -/
def YawLaws (s : State) : Prop :=
  Composes s ∧ OneRuns s ∧ UnknownParked s ∧ SlotsOwned s ∧ DrivesSafely s ∧ WindsWithin s

/-! ### Segment start and written values -/

/-- The turn by a signed amount, clockwise where it is positive; an amount of 0 has no direction (R143). -/
def signedTurn (amount twist : Int) : TurnPlan :=
  ⟨if amount = 0 then none else if 0 < amount then some .cw else some .ccw, amount.natAbs, twist + amount⟩

/-- The turn that the table of R143 gives a segment at a limit, heading and twist, by kind and direction, SAFE tested as
R144 says. An amount `m` that differs from the offset or value by whole turns is the one the direction asks for where it
lies in that direction's range. -/
def PlansTurn (g : Segment) (limit heading : Nat) (twist m : Int) : Prop :=
  let amount := if g.kind = .absolute then g.target - heading else g.target
  let congruent := (m - amount) % 36000 = 0
  let past := limit < (twist + m).natAbs ∧ twist.natAbs < (twist + m).natAbs
  (g.kind = .twist → g.plan limit heading twist = signedTurn (g.target - twist) twist) ∧
    (g.kind ≠ .twist →
      (g.direction = .shortest → congruent → -18000 < m → m ≤ 18000 →
          g.plan limit heading twist = signedTurn m twist) ∧
        (g.direction = .safe → congruent → -18000 < m → m ≤ 18000 →
          (¬past → g.plan limit heading twist = signedTurn m twist) ∧
            (past → g.plan limit heading twist = signedTurn (if 0 < m then m - 36000 else m + 36000) twist)) ∧
        (g.direction = .cw → g.kind = .absolute ∨ g.target < 0 → congruent → 0 ≤ m → m < 36000 →
          g.plan limit heading twist = signedTurn m twist) ∧
        (g.direction = .cw → g.kind = .relative → 0 ≤ g.target →
          g.plan limit heading twist = signedTurn g.target twist) ∧
        (g.direction = .ccw → g.kind = .absolute ∨ 0 < g.target → congruent → -36000 < m → m ≤ 0 →
          g.plan limit heading twist = signedTurn m twist) ∧
        (g.direction = .ccw → g.kind = .relative → g.target ≤ 0 →
          g.plan limit heading twist = signedTurn g.target twist))

/-- The cross-checks of R10 on a value `n` for setting `k`, each against the values in place. -/
def State.MeetsChecks (s : State) (k : Fin 86) (n : Nat) : Prop :=
  (k.val ≤ 3 → s.setting Setting.essentialReserve ≤ n) ∧
    (k = Setting.essentialReserve →
      n ≤ s.setting Setting.budgetGrid ∧ n ≤ s.setting Setting.budgetDip ∧ n ≤ s.setting Setting.budgetLost ∧
        n ≤ s.setting Setting.budgetBackup) ∧
    (k = Setting.dipRecoveryLevel → s.setting (Setting.envelopeLevel 0) < n) ∧
    (∀ i : Fin 6, k = Setting.envelopeLevel i → i.val + 1 ≤ s.setting Setting.envelopePoints →
      (∀ j : Fin 6, j.val + 1 = i.val → n < s.setting (Setting.envelopeLevel j)) ∧
        (∀ j : Fin 6, j.val = i.val + 1 → j.val + 1 ≤ s.setting Setting.envelopePoints →
          s.setting (Setting.envelopeLevel j) < n) ∧
        (i = 0 → n < s.setting Setting.dipRecoveryLevel)) ∧
    (k = Setting.envelopePoints →
      ∀ i j : Fin 6, j.val = i.val + 1 → j.val + 1 ≤ n →
        s.setting (Setting.envelopeLevel j) < s.setting (Setting.envelopeLevel i)) ∧
    (k = Setting.freqLow → n < s.setting Setting.freqHigh) ∧
    (k = Setting.freqHigh → s.setting Setting.freqLow < n) ∧
    (k = Setting.twistUntwist → n ≤ s.setting Setting.twistHardLimit) ∧
    (k = Setting.twistHardLimit → s.setting Setting.twistUntwist ≤ n) ∧
    (k = Setting.shortWindow → n < s.setting Setting.longWindow) ∧
    (k = Setting.longWindow → s.setting Setting.shortWindow < n) ∧
    (∀ l : Fin 16, 1 ≤ l.val → k = Setting.duty l.val →
      s.setting (Setting.duty (l.val - 1)) ≤ n ∧ (l.val < 15 → n ≤ s.setting (Setting.duty (l.val + 1))))

end Sys2Proof.Machine
end

