-- ==== Sys2Proof/Certificates/Slice0/Obligations.lean ====
section
/-!
DEFINITION. The statements for the provers. A next state that differs from the one written out in nothing but revisions is
written `Changes [.revs]`: RevisionsFollowHeldFields says what the revisions do.
-/
open Sys2Proof Sys2Proof.Machine

/-! ### Steps and laws -/

/-- A step takes the command at the front of the queue. -/
def Obligations.StepRunsFront : Prop :=
  ∀ (s : State) (c : Instr) (rest : List Instr),
    s.pending = c :: rest →
    step s = exec c { s with pending := rest }

/-- The model's choice (log 1, log 2): with no command waiting, the next item of the frame in execution; else a timer at 0
expires, any of them where several stand there; else one millisecond passes. -/
def Obligations.StepOnEmptyQueue : Prop :=
  ∀ (s : State),
    s.pending = [] →
    (∀ i rest, s.port.items = i :: rest → s.port.executing = true → s.hold = none → step s = exec i s) ∧
      (s.port.items = [] →
        (s.due = [] → step s = .next s.tick) ∧
        (∀ i, s.due = [i] → step s = exec i s) ∧
        (2 ≤ s.due.length → ∃ i ∈ s.due, step s = exec i { s with choices := s.choices + 1 }))

/-- Every command and every step answers a next state, the specification describing no stop of the part (read from its
silence: log 32); no command touches the queue or the counter of free choices. -/
def Obligations.NothingStops : Prop :=
  ∀ (s : State) (c : Instr),
    (∃ t, exec c s = .next t ∧ t.pending = s.pending ∧ t.choices = s.choices) ∧ ∃ t, step s = .next t

/-- The laws that every step keeps hold right after reset. -/
def Obligations.LawsAtReset : Prop :=
  LinesDriven State.reset ∧ Carried State.reset ∧ WithinBudget State.reset ∧ Composes State.reset ∧ YawLaws State.reset

/-- Every output line carries what its rule drives on it, after every step. -/
def Obligations.StepKeepsLinesDriven : Prop :=
  ∀ (s t : State),
    LinesDriven s →
    step s = .next t →
    LinesDriven t

/-- Part time, the current table, the heading, the SETTINGS values and the revisions keep their ranges, the thresholds of
every zone their order. -/
def Obligations.StepKeepsRanges : Prop :=
  ∀ (s t : State),
    Carried s →
    step s = .next t →
    Carried t

/-- The law of R29: the granted sum over HELD and OFFERED claims stays within the apportionable budget, the claims and
their collections agreeing. -/
def Obligations.StepKeepsWithinBudget : Prop :=
  ∀ (s t : State),
    WithinBudget s →
    step s = .next t →
    WithinBudget t

/-- The law of R128: the route named as composing is in COMPOSING. And the laws of the yaw, together (`YawLaws`): at most
one route is RUNNING (R132), a segment slot belongs to at most one route (R127), while the yaw is unknown the engine is
PARKED (R138), in TURNING BRAKE_OPEN is active and INHIBIT_YAW not in force (the third and fourth terms of the law of
R140), and in TURNING a twist at or above TWIST_HARD_LIMIT is not wound further (the law of R145). -/
def Obligations.StepKeepsComposes : Prop :=
  ∀ (s t : State) (q r : Fin 6) (slot : Fin 24),
    step s = .next t →
    (Composes s → Composes t) ∧
      (YawLaws s → YawLaws t) ∧
      (YawLaws t →
        ((t.routes.routes[q]).state = .running → (t.routes.routes[r]).state = .running → q = r) ∧
          (slot ∈ (t.routes.routes[q]).slots → slot ∈ (t.routes.routes[r]).slots → q = r) ∧
          (t.yaw.known = false → t.yaw.engine = .parked) ∧
          (t.yaw.engine = .turning → t.level .brakeOpen = true ∧ t.inhibitInForce = false) ∧
          (t.yaw.engine = .turning → t.setting Setting.twistHardLimit ≤ t.yaw.twist.natAbs →
            ¬(t.yaw.direction = some .cw ∧ 0 < t.yaw.twist) ∧ ¬(t.yaw.direction = some .ccw ∧ t.yaw.twist < 0)))

/-- While a reset holds the part, no frame, item, or timer expiry is acted on. LINK_FRAME then shifts out 0x00 for every
byte of a 4-wire transfer and declines a 2-wire one (what was shifted out is the model's record: log 5, and of a transfer
in progress at the assertion the model's choice: log 39); nothing else changes. That the part does the same within the
power-up sequence while RESETn is not asserted is the model's choice (log 43). -/
def Obligations.HeldPartActsOnNothing : Prop :=
  ∀ (s : State) (c : Instr) (start : TransferStart) (bytes : List Byte) (address n : Nat),
    s.hold.isSome = true →
    (c.reachesHeld = false → exec c s = .next s) ∧
      exec (.linkFrame (.fourWire start bytes false)) s =
        .next (s.shiftOut (some (List.replicate bytes.length 0#8))) ∧
      exec (.linkFrame (.fourWire start bytes true)) s =
        .next (s.shiftOut (some (List.replicate (bytes.length + 1) 0#8))) ∧
      exec (.linkFrame (.twoWireWrite start address bytes)) s = .next (s.shiftOut none) ∧
      exec (.linkFrame (.twoWireRead start address n)) s = .next (s.shiftOut none)

/-- A record's revision rises by one, from 255 to 0, at each event that changes a held field of it, and only then; a
millisecond that passes changes none. With LEVEL_DECREASE_HOLD and STAGGER at 1 or more a command is one event; at 0 the
expiries of the timers it starts follow at once as events of their own (R33, R106; log 24), and the law is said of the end
of every event (`closeEvent`). -/
def Obligations.RevisionsFollowHeldFields : Prop :=
  ∀ (s t u : State) (c : Instr) (table index : Nat),
    RevisionsKept s →
    table < 11 →
    index < tableCount table →
    (Between s → s.port.restartDue = false → c.resets = false → 1 ≤ s.setting Setting.levelDecreaseHold →
        1 ≤ s.setting Setting.stagger →
        exec c s = .next t →
        t.revision table index =
          (if s.heldOf table index = t.heldOf table index then s.revision table index
           else (s.revision table index + 1) % 256)) ∧
      (u.revs = s.revs →
        (closeEvent s u).revision table index =
          (if s.heldOf table index = (closeEvent s u).heldOf table index then s.revision table index
           else (s.revision table index + 1) % 256)) ∧
      s.tick.heldOf table index = s.heldOf table index ∧ s.tick.revs = s.revs

/-- What the laws of the lines come to: the permits, the ceiling, the alert lines, the load enables, the duty lines and
the yaw lines. Where the laws of the yaw hold, which every step keeps (StepKeepsComposes), the yaw drive lines have all four
terms of their law, and none drives in the direction that increases |twist| while |twist| is at or above TWIST_HARD_LIMIT
(R145). -/
def Obligations.LinesObeyLaws : Prop :=
  ∀ (s : State),
    LinesDriven s →
    (s.out.pulsePermit = true →
        (s.conv.state = .running ∨ s.conv.state = .riding) ∧ (s.claim 1).state = .held ∧ s.tripInForce = false ∧
          s.holdInForce = false) ∧
      (s.out.chopperPermit = true →
        (s.conv.state = .running ∨ s.conv.state = .riding) ∧
          s.conv.energy ≤ s.setting Setting.chopperEnergyLimit * 1000) ∧
      (s.ceiling ≤ s.setting Setting.convRated ∧ s.ceiling ≤ s.zoneTerm .conv ∧ s.ceiling ≤ s.zoneTerm .gen ∧
        s.ceiling ≤ s.zoneTerm .xfmr ∧ s.ceiling ≤ s.zoneTerm .chop ∧ s.ceiling ≤ s.rideTerm) ∧
      (s.conv.state ≠ .running → s.conv.state ≠ .riding → s.ceiling = 0 ∧ s.out.ceiling = 0) ∧
      (∀ n : Fin 4,
        s.out.alerts[n.val]? = some true ↔
          ∃ i : Fin 32, (s.cond.recs[i]).mask = false ∧ (s.cond.recs[i]).route = n.val ∧
            ((s.cond.recs[i]).state = .active ∨ (s.cond.recs[i]).state = .latched)) ∧
      (∀ c : Fin 13,
        s.out.loadEn[c.val]? = some true ↔
          ∃ i : Fin 16, 6 ≤ i.val ∧ (s.claim i).state = .held ∧ (s.claim i).consumer = 6 + c.val) ∧
      (∀ i : Fin 5,
        (s.claim (homeSlot (allZones[i.val]'i.isLt))).state ≠ .held →
          s.out.duty.get (allZones[i.val]'i.isLt) = 0) ∧
      (s.out.yawCw = true ∨ s.out.yawCcw = true ∨ s.out.yawSlow = true →
        s.yaw.engine = .turning ∧ (s.claim 0).state = .held ∧
          (YawLaws s → s.level .brakeOpen = true ∧ s.inhibitInForce = false)) ∧
      (YawLaws s → s.setting Setting.twistHardLimit ≤ s.yaw.twist.natAbs →
        (0 < s.yaw.twist → s.out.yawCw = false) ∧ (s.yaw.twist < 0 → s.out.yawCcw = false)) ∧
      (s.out.brakeRelease = true → (s.claim 0).state = .held)

/-! ### Operations the blocks share -/

/-- The computed level of a zone: 0 at START and below, 15 at FULL and above, between them 15 × (T − START) ÷ (FULL −
START) rounded up, the level k at a reading of exactly k fifteenths; 15 as stale. -/
def Obligations.ComputedLevel : Prop :=
  ∀ (l : Thresholds) (T : Int) (k : Fin 16),
    l.start < l.full →
    (T ≤ l.start → l.level (some T) = 0) ∧
      ((l.full : Int) ≤ T → l.level (some T) = 15) ∧
      ((l.start : Int) < T → T < l.full →
        15 * (T - l.start) ≤ l.level (some T) * ((l.full : Int) - l.start) ∧
          ((l.level (some T) : Int) - 1) * ((l.full : Int) - l.start) < 15 * (T - l.start)) ∧
      (15 * (T - l.start) = (k.val : Int) * ((l.full : Int) - l.start) → l.level (some T) = k.val) ∧
      l.level none = 15

/-- The thermal state at an evaluation: the rising state if it is higher; else the highest state at or below the present
one that is NORMAL or whose entry threshold less 2.0 °C the reading exceeds; HOT as stale. The state is a held field. -/
def Obligations.ThermalStateJudged : Prop :=
  ∀ (l : Thresholds) (present st : ThermalState) (T : Int),
    l.warm < l.hot →
    l.hot < l.critical →
    (st = .normal ∧ T < l.warm ∨ st = .warm ∧ (l.warm : Int) ≤ T ∧ T < l.hot ∨
          st = .hot ∧ (l.hot : Int) ≤ T ∧ T < l.critical ∨ st = .critical ∧ (l.critical : Int) ≤ T →
        present.code < st.code → l.judge present (some T) = st) ∧
      (T < l.warm ∨ T < l.hot ∧ 1 ≤ present.code ∨ T < l.critical ∧ 2 ≤ present.code ∨ 3 ≤ present.code →
        (l.judge present (some T)).code ≤ present.code ∧
          (l.judge present (some T) = .normal ∨
            l.judge present (some T) = .warm ∧ (l.warm : Int) - 20 < T ∨
            l.judge present (some T) = .hot ∧ (l.hot : Int) - 20 < T ∨
            l.judge present (some T) = .critical ∧ (l.critical : Int) - 20 < T) ∧
          (st.code ≤ present.code →
            (st = .normal ∨ st = .warm ∧ (l.warm : Int) - 20 < T ∨ st = .hot ∧ (l.hot : Int) - 20 < T ∨
              st = .critical ∧ (l.critical : Int) - 20 < T) →
            st.code ≤ (l.judge present (some T)).code)) ∧
      l.judge present none = .hot ∧
      (heldFields 6).contains 3 = true

/-- Count, escalation and times of an onset, part time taken across its wrap, the two settings read at the onset; a record
that leaves ACKED for CLEAR keeps count, burst start and persistent flag. -/
def Obligations.OnsetCounts : Prop :=
  ∀ (s : State) (o : OnsetArgs) (r : CondRec) (b : Nat),
    o.now ≤ 2147483647 →
    b ≤ 2147483647 →
    (r.burst = none →
        (r.onset o).count = 1 ∧ (r.onset o).burst = some o.now) ∧
      (r.burst = some b →
        (o.window < (if b ≤ o.now then o.now - b else o.now + 2147483648 - b) →
          (r.onset o).count = 1 ∧ (r.onset o).burst = some o.now) ∧
        ((if b ≤ o.now then o.now - b else o.now + 2147483648 - b) ≤ o.window →
          (r.onset o).count = min (r.count + 1) 15 ∧ (r.onset o).burst = some b)) ∧
      ((r.onset o).persistent = true ↔ r.persistent = true ∨ o.limit ≤ (r.onset o).count) ∧
      (r.onset o).first = some (r.first.getD o.now) ∧
      (r.onset o).last = some o.now ∧
      (r.onset o).state = r.state ∧ (r.onset o).present = r.present ∧ (r.onset o).delay = r.delay ∧
      (r.onset o).timer = r.timer ∧ (r.onset o).route = r.route ∧ (r.onset o).mask = r.mask ∧
      s.onsetArgs = ⟨s.store.partTime, s.setting Setting.escalationWindow, s.setting Setting.escalationCount⟩ ∧
      (r.state = .acked → r.present = true →
        (r.depart o.now).state = .clear ∧ (r.depart o.now).count = r.count ∧ (r.depart o.now).burst = r.burst ∧
          (r.depart o.now).persistent = r.persistent)

/-- The candidates in rank order: by priority, and within one priority the SHED claims from the top of the stack before
the queue entries from the head; none is left out but the link claims that SHED_SERVICE covers. -/
def Obligations.CandidatesRanked : Prop :=
  ∀ (a : Apportioner) (service : Option Nat) (p : Fin 8),
    (a.candidates service).Pairwise (fun i j => (a.claims[j]).priority ≤ (a.claims[i]).priority) ∧
      (a.candidates service).filter (fun i => (a.claims[i]).priority == p.val) =
        ((a.shedStack ++ a.waiting).filter fun i => !a.leftOut service i).filter
          (fun i => (a.claims[i]).priority == p.val)

/-- The shed walk of a budget drop: the granted sum is brought within the budget by taking the standing list from its end,
HELD claims SHED and OFFERED ones WAITING, none once it fits; the claims not reached keep state, grant and queue entry; the
stagger timer starts afresh if the walk took one. -/
def Obligations.ShedWalkFits : Prop :=
  ∀ (a : Apportioner) (budget stagger : Nat) (i : Fin 16),
    a.Consistent →
    (a.shedWalk budget stagger).Consistent ∧
      (a.shedWalk budget stagger).grantedSum ≤ budget ∧
      (a.grantedSum ≤ budget → a.shedWalk budget stagger = a) ∧
      (budget < a.grantedSum → (a.shedWalk budget stagger).stagger = some stagger) ∧
      (a.shedWalk budget stagger).standing <+: a.standing ∧
      ((a.shedWalk budget stagger).standing.length < a.standing.length →
        budget <
          ((a.standing.take ((a.shedWalk budget stagger).standing.length + 1)).map
            fun j => (a.claims[j]).granted).sum) ∧
      (i ∈ (a.shedWalk budget stagger).standing →
        (a.shedWalk budget stagger).claims[i].state = (a.claims[i]).state ∧
          (a.shedWalk budget stagger).claims[i].granted = (a.claims[i]).granted ∧
          (i ∈ (a.shedWalk budget stagger).waiting ↔ i ∈ a.waiting)) ∧
      (i ∈ a.standing → i ∉ (a.shedWalk budget stagger).standing →
        ((a.claims[i]).state = .held → (a.shedWalk budget stagger).claims[i].state = .shed) ∧
          ((a.claims[i]).state = .offered → (a.shedWalk budget stagger).claims[i].state = .waiting))

/-! ### The port -/

/-- An item written by the encoder is read back as it was, with its CHAIN bit, whatever bytes follow it. -/
def Obligations.ItemRoundTrip : Prop :=
  ∀ (i : Instr) (chain : Bool) (bytes rest : List Byte),
    i.wf = true →
    encodeItem chain i = some bytes →
    parseItem (bytes ++ rest) = some (i, chain, rest)

/-- A transfer at an idle port takes its frame: a fetch, a frame refused FORMAT or CRC_BAD, or a request; at an executing
port the transfer meets NO_RESPONSE or is declined. A transfer without a byte is no frame; one that began while the port
was executing, or before the release of a reset, is not taken; nor is one at another address or of the other form. Nothing
else of the part changes. The model's choices: a transfer that ends inside a byte is refused FORMAT whatever its first
byte, and where it has no whole byte, and what was shifted out is recorded (log 5); a read that began while the port was
executing returns NO_RESPONSE (log 35); a 4-wire transfer that began before the release is recorded as 0x00 throughout, and
one that straddles a reset is judged by the form and address that stand after it (log 39). -/
def Obligations.TransferTakesFrame : Prop :=
  ∀ (s : State) (bytes : List Byte) (items : List Instr) (n address : Nat) (start : TransferStart) (part : Bool),
    s.hold = none →
    bytes ≠ [] →
    (s.port.form = .fourWire → s.port.executing = false →
        exec (.linkFrame (.fourWire .fresh [] false)) s = .next (s.shiftOut (some []))) ∧
      (s.port.form = .fourWire →
        exec (.linkFrame (.fourWire .whileExecuting bytes part)) s =
            .next (s.shiftOut (some (shiftBytes noResponse (bytes.length + if part then 1 else 0)))) ∧
          exec (.linkFrame (.fourWire .beforeRelease bytes part)) s =
            .next (s.shiftOut (some (List.replicate (bytes.length + if part then 1 else 0) 0#8))) ∧
          (s.port.executing = true →
            exec (.linkFrame (.fourWire .fresh bytes true)) s =
              .next (s.shiftOut (some (shiftBytes noResponse (bytes.length + 1))))) ∧
          exec (.linkFrame (.twoWireWrite start address bytes)) s = .next (s.shiftOut none) ∧
          exec (.linkFrame (.twoWireRead start address n)) s = .next (s.shiftOut none)) ∧
      (s.port.form = .twoWire →
        exec (.linkFrame (.fourWire start bytes part)) s = .next (s.shiftOut none) ∧
          (s.port.executing = false →
            exec (.linkFrame (.twoWireWrite .fresh s.port.address [])) s = .next (s.shiftOut (some []))) ∧
          exec (.linkFrame (.twoWireWrite .whileExecuting s.port.address bytes)) s = .next (s.shiftOut none) ∧
          exec (.linkFrame (.twoWireWrite .beforeRelease s.port.address bytes)) s = .next (s.shiftOut none) ∧
          exec (.linkFrame (.twoWireRead .whileExecuting s.port.address n)) s =
            .next (s.shiftOut (some (shiftBytes noResponse n))) ∧
          exec (.linkFrame (.twoWireRead .beforeRelease s.port.address n)) s = .next (s.shiftOut none) ∧
          (address ≠ s.port.address →
            exec (.linkFrame (.twoWireWrite start address bytes)) s = .next (s.shiftOut none) ∧
              exec (.linkFrame (.twoWireRead start address n)) s = .next (s.shiftOut none))) ∧
      (s.port.form = .fourWire → s.port.executing = false →
        exec (.linkFrame (.fourWire .fresh bytes false)) s =
            .next { s with port :=
              { s.port.takeFrame (judgeFrame bytes) with
                shiftedOut := some (shiftBytes s.port.prepared bytes.length) } } ∧
          exec (.linkFrame (.fourWire .fresh bytes true)) s =
            .next { s with port :=
              { s.port with
                prepared := refusalFrame frameFormat
                shiftedOut := some (shiftBytes s.port.prepared (bytes.length + 1)) } } ∧
          exec (.linkFrame (.fourWire .fresh [] true)) s =
            .next { s with port :=
              { s.port with prepared := refusalFrame frameFormat, shiftedOut := some (shiftBytes s.port.prepared 1) } }) ∧
      (s.port.form = .fourWire → s.port.executing = true →
        exec (.linkFrame (.fourWire .fresh bytes false)) s =
          .next (s.shiftOut (some (shiftBytes noResponse bytes.length)))) ∧
      (s.port.form = .twoWire → s.port.executing = false →
        exec (.linkFrame (.twoWireWrite .fresh s.port.address bytes)) s =
          .next { s with port := { s.port.takeFrame (judgeFrame bytes) with shiftedOut := some [] } }) ∧
      (s.port.form = .twoWire → s.port.executing = true →
        exec (.linkFrame (.twoWireWrite .fresh s.port.address bytes)) s = .next (s.shiftOut none)) ∧
      (s.port.form = .twoWire →
        exec (.linkFrame (.twoWireRead .fresh s.port.address n)) s =
          .next (s.shiftOut (some (shiftBytes s.port.prepared n)))) ∧
      (bytes.head? = some 0#8 → judgeFrame bytes = .fetch) ∧
      (bytes.head? ≠ some 0#8 → 64 < bytes.length → judgeFrame bytes = .refused frameFormat) ∧
      (bytes.head? ≠ some 0#8 → bytes.length ≤ 64 → bytes.getLast? ≠ some (crc8 bytes.dropLast) →
        judgeFrame bytes = .refused frameCrcBad) ∧
      (bytes.head? ≠ some 0#8 → bytes.length ≤ 64 → bytes.getLast? = some (crc8 bytes.dropLast) →
        (parseItems 8 bytes.dropLast = none → judgeFrame bytes = .refused frameFormat) ∧
        (parseItems 8 bytes.dropLast = some items →
          judgeFrame bytes = .request items ∧
            s.port.takeFrame (judgeFrame bytes) =
              { s.port with
                executing := true, items := items, itemCount := items.length, entries := [],
                prepared := noResponse }))

/-- An item of a frame in execution with items after it: it is executed, its entry is added, the port goes on.
The last item, with no RESTART due: its entry closes the response, which becomes the prepared response, with frame status
OK, the frame's item count, every entry in item order and the CRC-8; the port leaves execution. -/
def Obligations.FrameRunsOn : Prop :=
  ∀ (s : State) (i : Instr) (rest : List Instr),
    s.hold = none →
    s.port.executing = true →
    i.isItem = true →
    s.port.items = i :: rest →
    (rest ≠ [] →
        ∃ t, exec i s = .next t ∧ t.port.executing = true ∧ t.port.items = rest ∧
          t.port.itemCount = s.port.itemCount ∧ t.port.prepared = s.port.prepared ∧
          ∃ status len data, t.port.entries = s.port.entries ++ countByte status :: countByte len :: data ∧
            data.length = len ∧ (status ≠ 0 → len = 0)) ∧
      (rest = [] → i ≠ .restart → s.port.restartDue = false →
        ∃ t, exec i s = .next t ∧ t.port.executing = false ∧ t.port.items = [] ∧ t.port.entries = [] ∧
          t.port.restartDue = false ∧
          ∃ status len data body,
            body = 0#8 :: countByte s.port.itemCount ::
              (s.port.entries ++ countByte status :: countByte len :: data) ∧
            t.port.prepared = body ++ [crc8 body] ∧ data.length = len ∧ (status ≠ 0 → len = 0))

/-- While a composition is open, an item other than SEGMENT, END ROUTE, ABANDON ROUTE and STOP YAW is answered SEQUENCE and
changes nothing, the current table included.
An item of a form the port refuses is answered UNKNOWN, under an open composition too, and changes nothing. -/
def Obligations.PortRefuses : Prop :=
  ∀ (s : State) (i : Instr) (code : Nat) (long guard : Bool),
    (PortIdle s →
      s.port.composing.isSome = true →
      i.isItem = true →
      passesLock i = false →
      exec i s = .next (s.answered .sequence [])) ∧
      (PortIdle s →
      exec (.unknownItem code long guard) s = .next (s.answered .unknown []))

/-! ### The Record Store -/

/-- SELECT TABLE sets the current table; a number of 11 or more is answered ABSENT and changes nothing.
A handle that names no record is answered ABSENT; a long handle whose table number names a table sets the current
table all the same, and one of 11 or more leaves it. READ FIELDS shows it. -/
def Obligations.CurrentTableIsSet : Prop :=
  ∀ (s : State) (n table index first count : Nat),
    (Ready s →
      exec (.selectTable n) s =
        if n < 11 then .next ({ s with port := { s.port with table := n } }.answered .ok [])
        else .next (s.answered .absent [])) ∧
      (Ready s →
      (tableCount s.port.table ≤ index →
          exec (.readFields (.short index) first count) s = .next (s.answered .absent [])) ∧
        (11 ≤ table → exec (.readFields (.long table index) first count) s = .next (s.answered .absent [])) ∧
        (table < 11 → tableCount table ≤ index →
          exec (.readFields (.long table index) first count) s =
            .next ({ s with port := { s.port with table := table } }.answered .absent [])))

/-- READ FIELDS: the values of a run of fields by the cursor, all of one instant, into the next records of the table and
no further than its last; refused RANGE for a count outside 1 to 16 or a first field past the highest. -/
def Obligations.ReadFieldsFollowsCursor : Prop :=
  ∀ (s : State) (h : Handle) (first count table index k : Nat),
    Ready s →
    (resolve h s).2 = some (table, index) →
    (count < 1 ∨ 16 < count → exec (.readFields h first count) s = .next ((resolve h s).1.answered .range [])) ∧
      (highestField table < first → exec (.readFields h first count) s = .next ((resolve h s).1.answered .range [])) ∧
      (1 ≤ count → count ≤ 16 → first ≤ highestField table →
        exec (.readFields h first count) s =
            .next ((resolve h s).1.answered .ok ((s.cursor table count index first).flatMap (toBytesInt 4))) ∧
          (s.cursor table count index first).length =
            min count ((tableCount table - index) * (highestField table + 1) - first) ∧
          (k < (s.cursor table count index first).length →
            (s.cursor table count index first)[k]? =
              some (s.readField table (index + (first + k) / (highestField table + 1))
                ((first + k) % (highestField table + 1)))))

/-- WRITE FIELD of a SETTINGS value that passes every check (WriteRefused spells them out): the value is stored and the item answered OK. For a setting
that no block acts on in the write's event nothing else changes; that CHOPPER_ENERGY_LIMIT (41) is such a setting is the
model's reading (log 23). A budget or the reserve: a lower apportionable budget runs the shed walk and a higher one gives a
grant opportunity, said where link claims alone are concerned and STAGGER is not 0. ENVELOPE_POINTS: the below-times of the
points that leave use return to 0. TWIST_UNTWIST: the untwist due goes where the twist is below it. TWIST_HARD_LIMIT:
TWIST_LIMIT is present exactly while the known twist is at or above it. -/
def Obligations.WriteSetting : Prop :=
  ∀ (s : State) (h : Handle) (g : Option Nat) (k : Fin 86) (v : Nat),
    Ready s →
    (resolve h s).2 = some (1, k.val) →
    guardPasses s g 1 k.val = true →
    settingSpecs[k].lo ≤ v →
    v ≤ settingSpecs[k].hi →
    s.crossCheck k.val v = true →
    (settingSpecs[k].cls = .protection →
      s.store.frozen = false ∧ s.conv.state = .off ∧ s.yaw.engine = .parked) →
    ∃ t, exec (.writeField h g 1 v) s = .next t ∧
      t.store = { s.store with settings := s.store.settings.set k v } ∧
      t.port = (resolve h s).1.port.answered .ok [] ∧
      Changes [.store, .port, .app, .supply, .conv, .cool, .align, .routes, .yaw, .cond, .out, .revs] s t ∧
      ([0, 1, 2, 3, 4, 8, 49, 50].contains k.val = false →
        Changes [.revs] (((resolve h s).1.putSetting k v).answered .ok []) t) ∧
      (k.val ≤ 4 → 1 ≤ s.setting Setting.stagger →
        (∀ i : Fin 16, i ∈ s.app.candidates s.grantArgs.service ∨ i ∈ s.app.standing → 6 ≤ i.val) →
        (t.apportionable = s.apportionable → t.app = s.app) ∧
          (t.apportionable < s.apportionable →
            t.app = s.app.shedWalk t.apportionable (s.setting Setting.stagger)) ∧
          (s.apportionable < t.apportionable →
            t.app =
              (if s.app.stagger = none then
                s.app.opportunity { s.grantArgs with budget := t.apportionable } else s.app))) ∧
      (k = Setting.envelopePoints →
        (∀ j : Fin 6, t.supply.below[j] = if j.val < v then s.supply.below[j] else 0) ∧
          Changes [.store, .port, .supply, .out, .revs] s t) ∧
      (k = Setting.twistUntwist → Judged s →
        t.align = { s.align with untwistDue := s.align.untwistDue && decide (v ≤ s.yaw.twist.natAbs) }) ∧
      (k = Setting.twistHardLimit →
        ((t.cond.recs[Cond.twistLimit]).present = true ↔ s.yaw.known = true ∧ v ≤ s.yaw.twist.natAbs))

/-- WRITE FIELD that fails a check: the first that fails gives the answer, and nothing else changes; a write refused
FROZEN is an occurrence of SETTING_REFUSED.
The checks, where the settings keep their bounds and the thresholds their order (StepKeepsRanges): which fields are writable
and of which class; the bounds of each; the cross-checks of the settings (`MeetsChecks`: the budgets and the reserve, the
dip recovery level, the levels and points of the envelope, the frequencies, the twist limits, the windows, the duty table)
and of the thresholds, START below FULL and WARM below HOT below CRITICAL. The absent marker is within no bounds. -/
def Obligations.WriteRefused : Prop :=
  ∀ (s : State) (h : Handle) (g : Option Nat) (field table index : Nat) (v : Int) (w : WriteTarget) (k : Fin 86)
    (i : Fin 32) (z : Zone) (n : Nat),
    Ready s →
    (resolve h s).2 = some (table, index) →
    (Carried s →
        writeTarget 1 k.val field = (if field = 1 then some (.setting k) else none) ∧
          (zoneOf index = some z →
            writeTarget 6 index field = if 8 ≤ field ∧ field ≤ 12 then some (.zone z field) else none) ∧
          writeTarget 10 i.val field =
            (if field = 8 ∨ field = 10 ∨ field = 11 then some (.condition i field) else none) ∧
          (table ≠ 1 → table ≠ 6 → table ≠ 10 → writeTarget table index field = none) ∧
          (WriteTarget.setting k).cls = settingSpecs[k].cls ∧
          ((WriteTarget.zone z field).cls = .protection ↔ 10 ≤ field) ∧ (WriteTarget.condition i field).cls = .tuning ∧
          ((WriteTarget.setting k).inBounds v = true ↔ (settingSpecs[k].lo : Int) ≤ v ∧ v ≤ settingSpecs[k].hi) ∧
          ((WriteTarget.zone z field).inBounds v = true ↔ 0 ≤ v ∧ v ≤ 4000) ∧
          ((WriteTarget.condition i 8).inBounds v = true ↔ 0 ≤ v ∧ v ≤ 10000) ∧
          ((WriteTarget.condition i 10).inBounds v = true ↔ 0 ≤ v ∧ v ≤ 4) ∧
          ((WriteTarget.condition i 11).inBounds v = true ↔ 0 ≤ v ∧ v ≤ 1) ∧
          w.inBounds absentMarker = false ∧
          (settingSpecs[k].lo ≤ n → n ≤ settingSpecs[k].hi →
            (s.crossFits (.setting k) n = true ↔ s.MeetsChecks k n)) ∧
          (s.crossFits (.zone z 8) n = true ↔ n < (s.cool.zones.get z).limits.full) ∧
          (s.crossFits (.zone z 9) n = true ↔ (s.cool.zones.get z).limits.start < n) ∧
          (s.crossFits (.zone z 10) n = true ↔ n < (s.cool.zones.get z).limits.hot) ∧
          (s.crossFits (.zone z 11) n = true ↔
            (s.cool.zones.get z).limits.warm < n ∧ n < (s.cool.zones.get z).limits.critical) ∧
          (s.crossFits (.zone z 12) n = true ↔ (s.cool.zones.get z).limits.hot < n) ∧
          s.crossFits (.condition i field) n = true) ∧
    (guardPasses s g table index = false →
        exec (.writeField h g field v) s = .next ((resolve h s).1.answered .stale [])) ∧
      (guardPasses s g table index = true →
        (highestField table < field →
            exec (.writeField h g field v) s = .next ((resolve h s).1.answered .range [])) ∧
          (field ≤ highestField table →
            (writeTarget table index field = none →
                exec (.writeField h g field v) s = .next ((resolve h s).1.answered .readOnly [])) ∧
              (writeTarget table index field = some w →
                ((w.inBounds v && s.crossFits w v.toNat) = false →
                    exec (.writeField h g field v) s = .next ((resolve h s).1.answered .range [])) ∧
                  ((w.inBounds v && s.crossFits w v.toNat) = true → w.cls = .protection →
                    (s.store.frozen = true → Judged s →
                        ∃ t, exec (.writeField h g field v) s = .next t ∧
                          Changes [.revs]
                            (((resolve h s).1.setRec Cond.settingRefused
                              ((s.cond.recs[Cond.settingRefused]).occur s.onsetArgs).1).answered .frozen []) t) ∧
                      (s.store.frozen = false → s.conv.state ≠ .off ∨ s.yaw.engine ≠ .parked →
                        exec (.writeField h g field v) s = .next ((resolve h s).1.answered .state []))))))

/-- WRITE FIELD of a condition record's onset delay, route or mask: that field alone of that record.
WRITE FIELD of a zone threshold: the threshold is replaced and the zone evaluated with its present reading (a write that is
the first evaluation of a stale zone gives it computed level 15 by the model's choice: log 37); the other zones keep their
thresholds. -/
def Obligations.WriteRecordReplacesField : Prop :=
  ∀ (s : State) (h : Handle) (g : Option Nat) (i : Fin 32) (v : Nat) (z w : Zone) (field index : Nat),
    (Ready s →
      (resolve h s).2 = some (10, i.val) →
      guardPasses s g 10 i.val = true →
      (v ≤ 10000 →
          ∃ t, exec (.writeField h g 8 v) s = .next t ∧
            Changes [.revs] (((resolve h s).1.setRec i { s.cond.recs[i] with delay := v }).answered .ok []) t) ∧
        (v ≤ 4 →
          ∃ t, exec (.writeField h g 10 v) s = .next t ∧
            Changes [.revs] (((resolve h s).1.setRec i { s.cond.recs[i] with route := v }).answered .ok []) t) ∧
        (v ≤ 1 →
          ∃ t, exec (.writeField h g 11 v) s = .next t ∧
            Changes [.revs] (((resolve h s).1.setRec i { s.cond.recs[i] with mask := v == 1 }).answered .ok []) t)) ∧
      (Ready s →
      (resolve h s).2 = some (6, index) →
      zoneOf index = some z →
      guardPasses s g 6 index = true →
      8 ≤ field →
      field ≤ 12 →
      v ≤ 4000 →
      ((s.cool.zones.get z).limits.put field v).ordered = true →
      (10 ≤ field → s.store.frozen = false ∧ s.conv.state = .off ∧ s.yaw.engine = .parked) →
      ∃ t, exec (.writeField h g field v) s = .next t ∧
        (t.cool.zones.get z).limits = (s.cool.zones.get z).limits.put field v ∧
        (t.cool.zones.get z).thermal =
          ((s.cool.zones.get z).limits.put field v).judge (s.cool.zones.get z).thermal (s.temperature z) ∧
        (t.cool.zones.get z).computed = some (((s.cool.zones.get z).limits.put field v).level (s.temperature z)) ∧
        (w ≠ z → (t.cool.zones.get w).limits = (s.cool.zones.get w).limits ∧
          (t.cool.zones.get w).thermal = (s.cool.zones.get w).thermal) ∧
        t.port = (resolve h s).1.port.answered .ok [] ∧
        Changes [.port, .app, .conv, .cool, .align, .routes, .yaw, .cond, .out, .revs] s t)

/-- FREEZE sets the freeze flag and is answered OK. -/
def Obligations.FreezeSetsFlag : Prop :=
  ∀ (s : State),
    Ready s →
    ∃ t, exec .freeze s = .next t ∧
      Changes [.revs] ({ s with store := { s.store with frozen := true } }.answered .ok []) t

/-- RESTART, alone in its frame: a warm reset with cause WARM_LINK, whose response is NO_RESPONSE, and which leaves every
block as its rule says (`ResetLeaves`), the windows marked (log 17).
A warm reset keeps a record that is LATCHED and latching or persistent and clears every other; the delays, routes and
masks stay. Spelled out for the records that the end of the reset makes no report on.
RESTART with items after it in its frame: it is answered OK and the reset is due, not yet taken. Any last item of a frame
with RESTART due: the reset takes place after it, and its response is discarded.
The model's choices among the values left: the Vmin of the ride-through term and the zones' targets at 0 (log 8), the
decay timer at 10 ms (log 25). -/
def Obligations.RestartIsWarmReset : Prop :=
  ∀ (s : State) (i : Fin 32) (rest : List Instr) (c : Instr),
    (Ready s →
      ∃ t, exec .restart s = .next t ∧ ResetLeaves .warm .warmLink s t) ∧
      (Ready s →
      [0, 1, 11, 12, 13, 14, 15, 23, 27, 28].contains i.val = false →
      ∃ t, exec .restart s = .next t ∧
        ((s.cond.recs[i]).state = .latched ∧ (catalogue[i].latching = true ∨ (s.cond.recs[i]).persistent = true) →
          t.cond.recs[i] = { s.cond.recs[i] with present := false, timer := none }) ∧
        (¬((s.cond.recs[i]).state = .latched ∧
            (catalogue[i].latching = true ∨ (s.cond.recs[i]).persistent = true)) →
          t.cond.recs[i] =
            { s.cond.recs[i] with
              state := .clear, present := false, timer := none, count := 0, persistent := false, burst := none,
              first := none
              last :=
                if (s.cond.recs[i]).state = .clear then (s.cond.recs[i]).last else some s.store.partTime })) ∧
      (Between s →
      s.port.composing = none →
      s.port.executing = true →
      s.port.items = .restart :: rest →
      rest ≠ [] →
      ∃ t, exec .restart s = .next t ∧
        Changes [.revs]
          { s.drive with
            port := { s.port with items := rest, restartDue := true, entries := s.port.entries ++ [0#8, 0#8] } } t) ∧
      (Between s →
      s.port.executing = true →
      s.port.restartDue = true →
      c.isItem = true →
      s.port.items = [c] →
      ∃ t, exec c s = .next t ∧ t.hold = none ∧ t.store.resetCause = .warmLink ∧
        (∀ h g f v, c ≠ .writeField h g f v → t.store.settings = s.store.settings) ∧
        t.app = Apportioner.initial ∧ t.supply = Supply.initial ∧ t.routes = RouteStore.initial ∧
        t.meter = Meter.silent ∧ t.conv.state = .discharging ∧ t.yaw.engine = .parked ∧
        t.port.prepared = noResponse ∧ t.port.executing = false ∧ t.port.restartDue = false ∧ t.port.table = 0 ∧
        t.port.composing = none ∧ t.out = t.outputs)

/-! ### Claims -/

/-- OPEN CLAIM: the lowest FREE pool slot holds the claim, and the item's result is the slot and the claim's revision at the
end of the event, which is the command's end but where STAGGER at 0 lets further grants follow at once. With the stagger
timer running the claim is WAITING at the tail of the queue and nothing else changes. -/
def Obligations.OpenClaimTakesLowestSlot : Prop :=
  ∀ (s : State) (h : Handle) (c priority asked tag : Nat) (i j : Fin 16),
    Ready s →
    (resolve h s).2 = some (2, c) →
    6 ≤ c →
    priority ≤ 5 →
    1 ≤ asked →
    asked ≤ ratedAsk c →
    tag ≤ 65535 →
    (∀ k : Fin 16, (s.claim k).state ≠ .free → (s.claim k).consumer ≠ c) →
    6 ≤ i.val →
    (s.claim i).state = .free →
    (∀ k : Fin 16, 6 ≤ k.val → k.val < i.val → (s.claim k).state ≠ .free) →
    ∃ t, exec (.openClaim h priority asked tag) s = .next t ∧
      (∃ revision, t.port = (resolve h s).1.port.answered .ok [countByte i.val, countByte revision] ∧
        (1 ≤ s.setting Setting.stagger ∨ StaggerRuns s → revision = t.revision 3 i.val)) ∧
      (t.claim i).state ≠ .free ∧ (t.claim i).consumer = c ∧ (t.claim i).priority = priority ∧
      (t.claim i).asked = asked ∧ (t.claim i).tag = tag ∧
      (StaggerRuns s → ShedReported s →
        t.claim i = ⟨.waiting, c, priority, asked, 0, tag, none, none, none⟩ ∧
          (j ≠ i → t.claim j = s.claim j) ∧
          (i ∉ s.app.waiting → t.app.waiting = s.app.waiting ++ [i]) ∧
          t.app = s.app.openSlot i c priority asked tag ∧
          Changes [.app, .port, .out, .revs] s t ∧ t.out = t.outputs)

/-- AMEND CLAIM that gives no grant: asked takes the value; an OFFERED claim, or a HELD one amended to no more
than its granted, gives power back; a HELD one amended above it waits for the shortfall. -/
def Obligations.AmendClaimChangesAsked : Prop :=
  ∀ (s : State) (h : Handle) (g : Option Nat) (asked : Nat) (i j : Fin 16),
    Ready s →
    GrantsNothing (Apportioner.amend i asked) s →
    ShedReported s →
    (resolve h s).2 = some (3, i.val) →
    guardPasses s g 3 i.val = true →
    6 ≤ i.val →
    (s.claim i).state ≠ .free →
    1 ≤ asked →
    asked ≤ ratedAsk (s.claim i).consumer →
    ((s.claim i).state = .offered → asked ≤ (s.claim i).asked) →
    ∃ t, exec (.amendClaim h g asked) s = .next t ∧
      t.claim i =
        { s.claim i with
          asked := asked
          granted :=
            if (s.claim i).state = .offered ∨ (s.claim i).state = .held ∧ asked ≤ (s.claim i).granted then asked
            else (s.claim i).granted } ∧
      (j ≠ i → t.claim j = s.claim j) ∧
      t.app.standing = s.app.standing ∧ t.app.shedStack = s.app.shedStack ∧
      t.app.waiting =
        (if (s.claim i).state = .held then
          if asked ≤ (s.claim i).granted then s.app.waiting.filter (· != i)
          else if s.app.waiting.contains i then s.app.waiting else s.app.waiting ++ [i]
         else s.app.waiting) ∧
      t.port = (resolve h s).1.port.answered .ok [] ∧
      Changes [.app, .port, .out, .revs] s t ∧ t.out = t.outputs

/-- TAKE CLAIM of an OFFERED claim that gives no grant: HELD, the collection deadline cancelled, the load enable
of its consumer on. TAKE of a FREE slot is TOO_LATE, of a claim in another state NOT_OFFERED. -/
def Obligations.TakeClaimCollectsOffer : Prop :=
  ∀ (s : State) (h : Handle) (i j : Fin 16),
    Ready s →
    GrantsNothing (Apportioner.collect i) s →
    ShedReported s →
    (resolve h s).2 = some (3, i.val) →
    6 ≤ i.val →
    ((s.claim i).state = .offered →
        ∃ t, exec (.takeClaim h) s = .next t ∧
          t.claim i = { s.claim i with state := .held, offerLeft := none } ∧
          (j ≠ i → t.claim j = s.claim j) ∧
          t.app.standing = s.app.standing ∧ t.app.shedStack = s.app.shedStack ∧ t.app.waiting = s.app.waiting ∧
          t.app.loadEnable (s.claim i).consumer = true ∧
          t.port = (resolve h s).1.port.answered .ok [] ∧
          Changes [.app, .port, .out, .revs] s t ∧ t.out = t.outputs) ∧
      ((s.claim i).state = .free → exec (.takeClaim h) s = .next ((resolve h s).1.answered .tooLate [])) ∧
      ((s.claim i).state = .waiting ∨ (s.claim i).state = .held ∨ (s.claim i).state = .shed →
        exec (.takeClaim h) s = .next ((resolve h s).1.answered .notOffered []))

/-- RETIRE CLAIM that gives no grant: the slot is FREE and in no collection; CLAIM_SHED goes with the last SHED
claim. -/
def Obligations.RetireClaimFreesSlot : Prop :=
  ∀ (s : State) (h : Handle) (g : Option Nat) (i j : Fin 16) (k : Fin 32),
    Ready s →
    GrantsNothing (Apportioner.release i) s →
    ShedReported s →
    (resolve h s).2 = some (3, i.val) →
    guardPasses s g 3 i.val = true →
    6 ≤ i.val →
    (s.claim i).state ≠ .free →
    ∃ t, exec (.retireClaim h g) s = .next t ∧
      t.claim i = Claim.free ∧
      (j ≠ i → t.claim j = s.claim j) ∧
      t.app.standing = s.app.standing.filter (· != i) ∧
      t.app.shedStack = s.app.shedStack.filter (· != i) ∧
      t.app.waiting = s.app.waiting.filter (· != i) ∧
      ShedReported t ∧
      (k ≠ Cond.claimShed → t.cond.recs[k] = s.cond.recs[k]) ∧
      t.port = (resolve h s).1.port.answered .ok [] ∧
      Changes [.app, .cond, .port, .out, .revs] s t ∧ t.out = t.outputs

/-- A collection deadline expires that gives no grant: the offer lapses, the slot is FREE, OFFER_LAPSED
occurs. -/
def Obligations.OfferLapses : Prop :=
  ∀ (s : State) (i j : Fin 16) (k : Fin 32),
    Between s →
    Judged s →
    GrantsNothing (Apportioner.release i) s →
    (s.claim i).state = .offered →
    (s.claim i).offerLeft.isSome = true →
    ∃ t, exec (.collectionDeadlineExpiry i) s = .next t ∧
      t.claim i = Claim.free ∧
      (j ≠ i → t.claim j = s.claim j) ∧
      t.app.standing = s.app.standing.filter (· != i) ∧
      t.cond.recs[Cond.offerLapsed] = ((s.cond.recs[Cond.offerLapsed]).occur s.onsetArgs).1 ∧
      (k ≠ Cond.claimShed → k ≠ Cond.offerLapsed → t.cond.recs[k] = s.cond.recs[k]) ∧
      Changes [.app, .cond, .out, .revs] s t ∧ t.out = t.outputs

/-- The stagger timer expires: it is idle, and a grant opportunity is taken. With no candidate nothing else changes; a link
claim at the top of the rank that fits is OFFERED, or HELD at its full ask if it was HELD with a shortfall, and the timer
starts again. An engine claim at the top that fits is HELD at its full ask and its owner is told: slot 0 releases the brake
in CLAIMING, slot 1 takes flow proven from FLOW_CONV, an actuator takes the level its grant pays for.
Where engine claims are not concerned the opportunity is the whole effect. An opportunity whose top candidate does not fit,
but would if lower priorities were shed: the first of those in walk order, as many as it takes to make it fit, are shed or
withdrawn, the others keep state and grant, and it is granted.
One whose top candidate would not fit even so: nothing is shed, and the first other candidate that fits is granted. With
STAGGER at 0 the timer that a grant starts expires at once, so that of two candidates that fit together both are granted. -/
def Obligations.StaggerGrants : Prop :=
  ∀ (s : State) (top j : Fin 16) (rest : List (Fin 16)) (k : Fin 32) (z : Zone) (a : Apportioner) (g : GrantArgs),
    (a.Consistent → a.candidates g.service = top :: rest → a.fits g.budget top = false →
        (a.roomByShedding g.budget top = true →
            (a.opportunity g).Consistent ∧ (a.opportunity g).grantedSum ≤ g.budget ∧
              ((a.opportunity g).claims[top]).granted = (a.claims[top]).asked ∧
              (a.opportunity g).stagger = some g.stagger ∧
              ∃ n : Fin 17,
                (∀ i : Fin 16, i ∈ (a.lowerHolders top).take n.val →
                    (a.claims[i]).priority < (a.claims[top]).priority ∧
                      ((a.opportunity g).claims[i]).granted = 0 ∧
                      ((a.claims[i]).state = .held → ((a.opportunity g).claims[i]).state = .shed) ∧
                      ((a.claims[i]).state = .offered → ((a.opportunity g).claims[i]).state = .waiting)) ∧
                  (∀ i : Fin 16, i ≠ top → i ∉ (a.lowerHolders top).take n.val →
                    ((a.opportunity g).claims[i]).state = (a.claims[i]).state ∧
                      ((a.opportunity g).claims[i]).granted = (a.claims[i]).granted) ∧
                  a.grantedSum - (((a.lowerHolders top).take n.val).map fun i => (a.claims[i]).granted).sum +
                      a.increase top ≤ g.budget ∧
                  ∀ m : Fin 17, m.val < n.val →
                    g.budget <
                      a.grantedSum - (((a.lowerHolders top).take m.val).map fun i => (a.claims[i]).granted).sum +
                        a.increase top) ∧
          (a.roomByShedding g.budget top = false →
            (rest.find? (a.fits g.budget) = none → a.opportunity g = a) ∧
              ∀ i : Fin 16, rest.find? (a.fits g.budget) = some i →
                ((a.opportunity g).claims[i]).granted = (a.claims[i]).asked ∧
                  (j ≠ i →
                    ((a.opportunity g).claims[j]).state = (a.claims[j]).state ∧
                      ((a.opportunity g).claims[j]).granted = (a.claims[j]).granted))) ∧
    (Between s →
    StaggerRuns s →
    ((∀ i : Fin 16, i ∈ s.app.candidates s.grantArgs.service ∨ i ∈ s.app.standing → 6 ≤ i.val) →
        1 ≤ s.setting Setting.stagger →
        ∃ t, exec .staggerTimerExpiry s = .next t ∧
          t.app = Apportioner.opportunity s.grantArgs { s.app with stagger := none } ∧
          Changes [.app, .cond, .out, .revs] s t) ∧
      (s.app.candidates s.grantArgs.service = top :: rest →
        top.val < 6 →
        1 ≤ s.setting Setting.stagger →
        s.app.fits s.apportionable top = true →
        (s.claim top).granted < (s.claim top).asked →
        ∃ t, exec .staggerTimerExpiry s = .next t ∧
          t.app.stagger = some (s.setting Setting.stagger) ∧
          (t.claim top).state = .held ∧ (t.claim top).granted = (s.claim top).asked ∧
          (t.claim top).asked = (s.claim top).asked ∧
          t.app.shedStack = (if (s.claim top).state = .held then s.app.shedStack
            else s.app.shedStack.filter (· != top)) ∧
          t.app.waiting = s.app.waiting.filter (· != top) ∧
          (j ≠ top → (t.claim j).state = (s.claim j).state ∧ (t.claim j).granted = (s.claim j).granted) ∧
          (top = 0 → (s.claim 0).state ≠ .held → s.yaw.engine = .claiming → s.level .brakeOpen = false →
            t.yaw =
              { s.yaw with
                engine := .releasing, begun := true, direction := none, travel := none, target := none,
                stageLeft := some (s.setting Setting.brakeReleaseTimeout) }) ∧
          (top = 1 → (s.claim 1).state ≠ .held → t.conv = { s.conv with flowProven := s.level .flowConv }) ∧
          (homeSlot z = top →
            (t.cool.zones.get z).effective =
                s.paidLevel z (s.claim top).asked (s.cool.zones.get z).actuatorDemand ∧
              (t.cool.zones.get z).duty = s.setting (Setting.duty (t.cool.zones.get z).effective)) ∧
          Changes [.app, .conv, .cool, .routes, .yaw, .cond, .out, .revs] s t) ∧
    (s.app.candidates s.grantArgs.service = [] →
        ∃ t, exec .staggerTimerExpiry s = .next t ∧
          t.app = { s.app with stagger := none } ∧
          (ShedReported s → Changes [.revs] ({ s with app := { s.app with stagger := none } }.drive) t)) ∧
      (s.app.candidates s.grantArgs.service = top :: rest →
        6 ≤ top.val →
        1 ≤ s.setting Setting.stagger →
        s.app.fits s.apportionable top = true →
        ∃ t, exec .staggerTimerExpiry s = .next t ∧
          t.app.stagger = some (s.setting Setting.stagger) ∧
          (t.claim top).granted = (s.claim top).asked ∧
          (t.claim top).asked = (s.claim top).asked ∧
          ((s.claim top).state = .held → (t.claim top).state = .held) ∧
          ((s.claim top).state ≠ .held →
            (t.claim top).state = .offered ∧ (t.claim top).offerLeft = some (s.setting Setting.collectionWindow) ∧
              (t.claim top).shedSeq = none ∧ t.app.shedStack = s.app.shedStack.filter (· != top)) ∧
          t.app.waiting = s.app.waiting.filter (· != top) ∧
          (j ≠ top → (t.claim j).state = (s.claim j).state ∧ (t.claim j).granted = (s.claim j).granted ∧
            (t.claim j).asked = (s.claim j).asked) ∧
          (k ≠ Cond.claimShed → t.cond.recs[k] = s.cond.recs[k]) ∧
          Changes [.app, .cond, .out, .revs] s t ∧ t.out = t.outputs) ∧
      (s.app.Consistent →
        s.app.candidates s.grantArgs.service = [top, j] →
        6 ≤ top.val →
        6 ≤ j.val →
        s.setting Setting.stagger = 0 →
        s.app.grantedSum + s.app.increase top + s.app.increase j ≤ s.apportionable →
        ∃ t, exec .staggerTimerExpiry s = .next t ∧
          t.app.stagger = none ∧
          (t.claim top).granted = (s.claim top).asked ∧ (t.claim j).granted = (s.claim j).asked ∧
          Changes [.app, .cond, .out, .revs] s t ∧ t.out = t.outputs))

/-! ### Routes and the yaw engine -/

/-- BEGIN ROUTE on an EMPTY manual route: COMPOSING with no segment, and the composing route.
END ROUTE makes a route with segments READY; with none it makes it EMPTY and is answered ABSENT. ABANDON ROUTE frees
every slot and makes the route EMPTY. Each ends the composition, and is answered SEQUENCE where none is open. -/
def Obligations.BeginAndEndRoute : Prop :=
  ∀ (s : State) (h : Handle) (r : Fin 6),
    (Ready s →
      (resolve h s).2 = some (8, r.val) →
      (2 ≤ r.val → (s.routes.routes[r]).state = .empty →
          ∃ t, exec (.beginRoute h) s = .next t ∧
            Changes [.revs]
              ({ (resolve h s).1.setRoute r { s.routes.routes[r] with state := .composing, slots := [] } with
                port := { (resolve h s).1.port with composing := some r } }.answered .ok []) t) ∧
        (r.val < 2 → exec (.beginRoute h) s = .next ((resolve h s).1.answered .notOwner [])) ∧
        (2 ≤ r.val → (s.routes.routes[r]).state ≠ .empty →
          exec (.beginRoute h) s = .next ((resolve h s).1.answered .state []))) ∧
      (PortIdle s →
      (s.port.composing = none →
          exec .endRoute s = .next (s.answered .sequence []) ∧
            exec .abandonRoute s = .next (s.answered .sequence [])) ∧
        (s.port.composing = some r →
          ((s.routes.routes[r]).slots ≠ [] →
              ∃ t, exec .endRoute s = .next t ∧
                Changes [.revs]
                  ({ s.setRoute r { s.routes.routes[r] with state := .ready } with
                    port := { s.port with composing := none } }.answered .ok []) t) ∧
            ((s.routes.routes[r]).slots = [] →
              ∃ t, exec .endRoute s = .next t ∧
                Changes [.revs]
                  ({ s.setRoute r Route.empty with
                    port := { s.port with composing := none } }.answered .absent []) t) ∧
            ∃ t, exec .abandonRoute s = .next t ∧
              t.routes.routes = s.routes.routes.set r Route.empty ∧
              (∀ slot : Fin 24, t.routes.segments[slot] =
                if (s.routes.routes[r]).slots.contains slot then none else s.routes.segments[slot]) ∧
              t.port = { s.port with composing := none }.answered .ok [] ∧
              Changes [.routes, .port, .out, .revs] s t ∧ t.out = t.outputs))

/-- SEGMENT in an open composition: the lowest free pool slot takes the operands at the route's next position, and the
result is the slot index; operands out of range are answered RANGE, a full route or pool FULL; with no composition open
SEQUENCE. -/
def Obligations.SegmentTakesLowestSlot : Prop :=
  ∀ (s : State) (kind : Nat) (target : Int) (direction speed dwell : Nat) (r : Fin 6) (slot : Fin 24) (g : Segment),
    PortIdle s →
    (s.port.composing = none →
        exec (.segment kind target direction speed dwell) s = .next (s.answered .sequence [])) ∧
      (s.port.composing = some r →
        (segmentOf kind target direction speed dwell = none →
            exec (.segment kind target direction speed dwell) s = .next (s.answered .range [])) ∧
          (s.freeSegment = some slot ↔
            2 ≤ slot.val ∧ s.routes.segments[slot] = none ∧
              ∀ k : Fin 24, 2 ≤ k.val → k.val < slot.val → s.routes.segments[k] ≠ none) ∧
          (segmentOf kind target direction speed dwell = some g →
            (8 ≤ (s.routes.routes[r]).slots.length ∨
                  (∀ k : Fin 24, 2 ≤ k.val → s.routes.segments[k] ≠ none) →
                exec (.segment kind target direction speed dwell) s = .next (s.answered .full [])) ∧
              ((s.routes.routes[r]).slots.length < 8 →
                s.freeSegment = some slot →
                ∃ t, exec (.segment kind target direction speed dwell) s = .next t ∧
                  2 ≤ slot.val ∧ s.routes.segments[slot] = none ∧
                  Changes [.revs]
                    (((s.setSegment slot
                      (some { g with route := r, position := (s.routes.routes[r]).slots.length + 1 })).setRoute r
                        { s.routes.routes[r] with slots := (s.routes.routes[r]).slots ++ [slot] }).answered .ok
                      [countByte slot.val]) t)))

/-- RUN ROUTE of a READY or ENDED manual route with the engine PARKED, no route RUNNING, the yaw known and INHIBIT_YAW not
in force: the route is RUNNING with no segment done, the engine works for it, both windows are cleared. With the stagger
timer running the engine is CLAIMING with the claim wait started, and slot 0 is asked for at its rated ask; with it idle and
STAGGER at 1 or more, slot 0 may be granted in the event, and the engine is CLAIMING or RELEASING.
With route 0 or 1 RUNNING, whose rank is lower: that route ends PREEMPTED at the present position, the new one is RUNNING
from position 1, and slot 0 stays as it is. CLAIMING starts its wait again; RELEASING applies the brake, or with the brake
closed, which confirms it (R147), begins the new route at once; TURNING settles; SETTLING and BRAKING go on; DWELLING begins
the new route. -/
def Obligations.RunRouteSetsRunning : Prop :=
  ∀ (s : State) (h : Handle) (g : Option Nat) (q r : Fin 6) (j : Fin 16),
    Ready s →
    (resolve h s).2 = some (8, r.val) →
    guardPasses s g 8 r.val = true →
    2 ≤ r.val →
    (s.routes.routes[r]).state = .ready ∨ (s.routes.routes[r]).state = .ended →
    s.yaw.known = true →
    s.inhibitInForce = false →
    (s.runningRoute = none →
      s.yaw.engine = .parked →
      ∃ t, exec (.runRoute h g) s = .next t ∧
        t.port = (resolve h s).1.port.answered .ok [] ∧
        ((s.claim 0).state = .free → s.level .brakeOpen = false → Judged s → 1 ≤ s.setting Setting.stagger →
          (t.routes.routes[r]).state = .running ∧ (t.routes.routes[r]).done = some 0 ∧
            (t.routes.routes[r]).slots = (s.routes.routes[r]).slots ∧
            (t.yaw.engine = .claiming ∨ t.yaw.engine = .releasing) ∧ t.yaw.route = some r ∧ t.yaw.position = 1 ∧
            t.align.short = none ∧ t.align.long = none) ∧
        (StaggerRuns s → ShedReported s →
          t.routes =
              (s.setRoute r
                { s.routes.routes[r] with state := .running, done := some 0, outcome := none, endedIn := none }).routes ∧
            t.yaw =
              { s.yaw with
                engine := .claiming, route := some r, position := 1, begun := false,
                stageLeft := some (1000 * s.setting Setting.claimWait) } ∧
            t.align = { s.align with short := none, long := none } ∧
            ((s.claim 0).state = .free →
              t.claim 0 = ⟨.waiting, 0, s.setting Setting.prioYaw, 370, 0, 0, none, none, none⟩) ∧
            (j ≠ 0 → t.claim j = s.claim j) ∧
            Changes [.app, .align, .routes, .yaw, .port, .out, .revs] s t ∧ t.out = t.outputs)) ∧
      (s.runningRoute = some q →
        q.val < 2 →
        s.yaw.engine ≠ .parked →
        (s.yaw.engine = .dwelling → s.level .brakeOpen = false) →
        ∃ t, exec (.runRoute h g) s = .next t ∧
          t.port = (resolve h s).1.port.answered .ok [] ∧
          t.routes =
            ((s.setRoute q
              { s.routes.routes[q] with
                state := .ended, outcome := some .preempted, endedIn := some s.yaw.position }).setRoute r
              { s.routes.routes[r] with state := .running, done := some 0, outcome := none, endedIn := none }).routes ∧
          (s.yaw.engine = .claiming →
            t.yaw =
              { s.yaw with
                route := some r, position := 1, begun := false,
                stageLeft := some (1000 * s.setting Setting.claimWait) }) ∧
          (s.yaw.engine = .releasing → s.level .brakeOpen = true →
            t.yaw =
              { s.yaw with
                engine := .braking, route := some r, position := 1, begun := false,
                stageLeft := some (s.setting Setting.brakeApplyTimeout), idleLeft := none, budgetLeft := none }) ∧
          (s.yaw.engine = .turning →
            t.yaw =
              { s.yaw with
                engine := .settling, route := some r, position := 1, begun := false,
                stageLeft := some (s.setting Setting.settleTime), idleLeft := none, budgetLeft := none }) ∧
          (s.yaw.engine = .settling ∨ s.yaw.engine = .braking →
            t.yaw = { s.yaw with route := some r, position := 1, begun := false }) ∧
          (s.yaw.engine = .releasing ∧ s.level .brakeOpen = false ∨ s.yaw.engine = .dwelling →
            t.yaw.engine = .releasing ∧ t.yaw.route = some r ∧ t.yaw.position = 1 ∧ t.yaw.begun = true ∧
              t.yaw.direction = none ∧ t.yaw.travel = none ∧ t.yaw.target = none ∧
              t.yaw.stageLeft = some (s.setting Setting.brakeReleaseTimeout) ∧ t.yaw.known = s.yaw.known ∧
              t.yaw.heading = s.yaw.heading ∧ t.yaw.twist = s.yaw.twist ∧ t.yaw.brakeHold = s.yaw.brakeHold) ∧
          Changes [.routes, .yaw, .port, .out, .revs] s t ∧ t.out = t.outputs)

/-- STOP YAW: with no route RUNNING nothing changes; in TURNING the route ends STOPPED at the present position and the
engine settles; in CLAIMING or DWELLING it parks and gives slot 0 back; in SETTLING and BRAKING it goes on; in RELEASING the
brake is applied, and where it is closed already, which confirms it (R147), the engine parks. -/
def Obligations.StopYawEndsRoute : Prop :=
  ∀ (s : State) (r : Fin 6),
    PortIdle s →
    (s.runningRoute = none → exec .stopYaw s = .next (s.answered .ok [])) ∧
      (s.runningRoute = some r →
        (s.yaw.engine = .turning →
            ∃ t, exec .stopYaw s = .next t ∧
              Changes [.revs]
                ({ s.setRoute r
                    { s.routes.routes[r] with
                      state := .ended, outcome := some .stopped, endedIn := some s.yaw.position } with
                  yaw :=
                    { s.yaw with
                      engine := .settling, stageLeft := some (s.setting Setting.settleTime), idleLeft := none,
                      budgetLeft := none } }.answered .ok []) t) ∧
          (s.yaw.engine = .claiming ∨ s.yaw.engine = .dwelling →
            ∃ t, exec .stopYaw s = .next t ∧
              t.routes.routes[r] =
                { s.routes.routes[r] with
                  state := .ended, outcome := some .stopped, endedIn := some s.yaw.position } ∧
              t.yaw.engine = .parked ∧ t.yaw.route = none ∧ t.yaw.stageLeft = none ∧ t.yaw.brakeHold = false ∧
              (t.claim 0).state = .free ∧ t.align.short.isSome = true ∧ t.align.long.isSome = true ∧
              t.port = s.port.answered .ok [] ∧
              (StaggerRuns s → Changes [.app, .align, .routes, .yaw, .cond, .port, .out, .revs] s t)) ∧
          (s.yaw.engine = .settling ∨ s.yaw.engine = .braking →
            ∃ t, exec .stopYaw s = .next t ∧
              Changes [.revs]
                ((s.setRoute r
                  { s.routes.routes[r] with
                    state := .ended, outcome := some .stopped, endedIn := some s.yaw.position }).answered .ok []) t) ∧
          (s.yaw.engine = .releasing → s.level .brakeOpen = true →
            ∃ t, exec .stopYaw s = .next t ∧
              Changes [.revs]
                ({ s.setRoute r
                    { s.routes.routes[r] with
                      state := .ended, outcome := some .stopped, endedIn := some s.yaw.position } with
                  yaw :=
                    { s.yaw with
                      engine := .braking, stageLeft := some (s.setting Setting.brakeApplyTimeout), idleLeft := none,
                      budgetLeft := none } }.answered .ok []) t) ∧
          (s.yaw.engine = .releasing → s.level .brakeOpen = false →
            (∀ q : Fin 6, q ≠ r → (s.routes.routes[q]).state ≠ .running) →
            ∃ t, exec .stopYaw s = .next t ∧
              t.routes.routes =
                s.routes.routes.set r
                  { s.routes.routes[r] with
                    state := .ended, outcome := some .stopped, endedIn := some s.yaw.position } ∧
              t.yaw.engine = .parked ∧ t.yaw.route = none ∧ t.yaw.stageLeft = none ∧ t.yaw.brakeHold = false ∧
              (t.claim 0).state = .free ∧ t.align.short.isSome = true ∧ t.align.long.isSome = true ∧
              t.port = s.port.answered .ok [] ∧
              (StaggerRuns s → Changes [.app, .align, .routes, .yaw, .cond, .port, .out, .revs] s t)))

/-- RETIRE ROUTE of a READY or ENDED route: EMPTY, its slots freed. -/
def Obligations.RetireRouteEmpties : Prop :=
  ∀ (s : State) (h : Handle) (g : Option Nat) (r : Fin 6),
    Ready s →
    (resolve h s).2 = some (8, r.val) →
    guardPasses s g 8 r.val = true →
    ((s.routes.routes[r]).state = .ready ∨ (s.routes.routes[r]).state = .ended →
        ∃ t, exec (.retireRoute h g) s = .next t ∧
          t.routes.routes = s.routes.routes.set r Route.empty ∧
          (∀ slot : Fin 24, t.routes.segments[slot] =
            if (s.routes.routes[r]).slots.contains slot then none else s.routes.segments[slot]) ∧
          t.port = (resolve h s).1.port.answered .ok [] ∧
          Changes [.routes, .port, .out, .revs] s t ∧ t.out = t.outputs) ∧
      ((s.routes.routes[r]).state = .empty →
        exec (.retireRoute h g) s = .next ((resolve h s).1.answered .absent [])) ∧
      ((s.routes.routes[r]).state = .running →
        exec (.retireRoute h g) s = .next ((resolve h s).1.answered .busy []))

/-- RESTORE YAW while the yaw is unknown: known, with the heading and twist given; TWIST_UNKNOWN goes. Known already it is
answered STATE, out of range RANGE (that STATE comes first where both apply is the model's choice: log 38). -/
def Obligations.RestoreYawMakesKnown : Prop :=
  ∀ (s : State) (heading : Nat) (twist : Int) (k : Fin 32),
    Ready s →
    (s.yaw.known = true → exec (.restoreYaw heading twist) s = .next (s.answered .state [])) ∧
      (s.yaw.known = false → 35999 < heading ∨ twist < -360000 ∨ 360000 < twist →
        exec (.restoreYaw heading twist) s = .next (s.answered .range [])) ∧
      (s.yaw.known = false → heading ≤ 35999 → -360000 ≤ twist → twist ≤ 360000 → Judged s →
        ∃ t, exec (.restoreYaw heading twist) s = .next t ∧
          t.yaw = { s.yaw with known := true, heading := heading, twist := twist } ∧
          t.cond.recs[Cond.twistUnknown] = (s.cond.recs[Cond.twistUnknown]).depart s.store.partTime ∧
          ((t.cond.recs[Cond.twistLimit]).present = true ↔
            (s.setting Setting.twistHardLimit : Int) ≤ twist.natAbs) ∧
          (k ≠ Cond.twistUnknown → k ≠ Cond.twistLimit → t.cond.recs[k] = s.cond.recs[k]) ∧
          t.port = s.port.answered .ok [] ∧
          Changes [.yaw, .cond, .port, .out, .revs] s t ∧ t.out = t.outputs)

/-- An encoder transition: one phase alone is a step of one centidegree, counted in its sense while the yaw is known; both
phases at once are no step, nor is any while it is unknown. Which phase order is clockwise is the model's choice (log 19).
A counted step in TURNING: with the remaining travel at or below the stop lead the turn is complete, the segments done
increase and after the last segment the route ends DONE, and the engine settles. Short of that, with |twist| at or above
TWIST_HARD_LIMIT and the turn moving it away from zero, the route ends LIMIT at the present position and the engine
settles; below the limit, or unwinding, the turn goes on with its idle timer started again. -/
def Obligations.EncoderCounts : Prop :=
  ∀ (s : State) (a b cw : Bool) (r : Fin 6) (g : Segment) (left : Int) (twist : Int),
    Between s →
    ((a ≠ s.inputs.phaseA ∧ b = s.inputs.phaseB ∨ a = s.inputs.phaseA ∧ b ≠ s.inputs.phaseB) →
        (phaseSense s.inputs.phaseA s.inputs.phaseB a b).isSome = true) ∧
    (Judged s → s.yaw.known = true → phaseSense s.inputs.phaseA s.inputs.phaseB a b = some cw →
        s.yaw.engine = .turning → s.runningRoute = some r → s.presentSegment = some g →
        twist = (if (cw != decide (s.setting Setting.encoderSense = 1)) = true then s.yaw.twist + 1
          else s.yaw.twist - 1) →
        left = (if s.yaw.direction = some .ccw then twist - s.yaw.target.getD twist
          else s.yaw.target.getD twist - twist) →
        (left ≤ s.stopLead g.speed →
            ∃ t, exec (.encoderTransition a b) s = .next t ∧
              t.routes.routes[r] =
                (if s.yaw.position = (s.routes.routes[r]).slots.length then
                  { s.routes.routes[r] with
                    done := (s.routes.routes[r]).done.map (· + 1), state := .ended, outcome := some .done,
                    endedIn := some s.yaw.position }
                else { s.routes.routes[r] with done := (s.routes.routes[r]).done.map (· + 1) }) ∧
              t.yaw.engine = .settling ∧ t.yaw.stageLeft = some (s.setting Setting.settleTime) ∧
              t.yaw.idleLeft = none ∧ t.yaw.budgetLeft = none ∧
              Changes [.inputs, .align, .routes, .yaw, .cond, .out, .revs] s t) ∧
          (s.stopLead g.speed < left → s.setting Setting.twistHardLimit ≤ twist.natAbs →
            s.yaw.direction = some .cw ∧ 0 < twist ∨ s.yaw.direction = some .ccw ∧ twist < 0 →
            ∃ t, exec (.encoderTransition a b) s = .next t ∧
              t.routes.routes[r] =
                { s.routes.routes[r] with
                  state := .ended, outcome := some .limit, endedIn := some s.yaw.position } ∧
              t.yaw.engine = .settling ∧ t.yaw.stageLeft = some (s.setting Setting.settleTime) ∧
              t.yaw.idleLeft = none ∧ t.yaw.budgetLeft = none ∧
              Changes [.inputs, .align, .routes, .yaw, .cond, .out, .revs] s t) ∧
          (s.stopLead g.speed < left →
            twist.natAbs < s.setting Setting.twistHardLimit ∨
              ¬(s.yaw.direction = some .cw ∧ 0 < twist) ∧ ¬(s.yaw.direction = some .ccw ∧ twist < 0) →
            ∃ t, exec (.encoderTransition a b) s = .next t ∧
              t.yaw.engine = .turning ∧ t.yaw.idleLeft = some (s.setting Setting.encoderIdleLimit) ∧
              t.yaw.budgetLeft = s.yaw.budgetLeft ∧ t.routes = s.routes ∧
              Changes [.inputs, .align, .yaw, .cond, .out, .revs] s t)) ∧
    (s.yaw.known = true → phaseSense s.inputs.phaseA s.inputs.phaseB a b = some cw →
        ∃ t, exec (.encoderTransition a b) s = .next t ∧
          t.inputs = { s.inputs with phaseA := a, phaseB := b } ∧
          t.yaw.heading =
            (if (cw != decide (s.setting Setting.encoderSense = 1)) = true then (s.yaw.heading + 1) % 36000
             else (s.yaw.heading + 35999) % 36000) ∧
          t.yaw.twist =
            (if (cw != decide (s.setting Setting.encoderSense = 1)) = true then s.yaw.twist + 1
             else s.yaw.twist - 1) ∧
          t.yaw.known = true ∧
          Changes [.inputs, .app, .conv, .cool, .align, .routes, .yaw, .cond, .out, .revs] s t) ∧
      (s.yaw.known = false ∨ phaseSense s.inputs.phaseA s.inputs.phaseB a b = none →
        exec (.encoderTransition a b) s =
          .next ({ s with inputs := { s.inputs with phaseA := a, phaseB := b } }.drive)) ∧
      (a ≠ s.inputs.phaseA → b ≠ s.inputs.phaseB → phaseSense s.inputs.phaseA s.inputs.phaseB a b = none) ∧
      (phaseSense a b (!a) b = some cw → phaseSense (!a) b a b = some (!cw)) ∧
      (phaseSense a b a (!b) = some cw → phaseSense a (!b) a b = some (!cw))

/-- A stall: the idle or the budget timer expires in TURNING, the route ends STALL, the engine settles, and YAW_STALL is
present as an occurrence.
The settle timer expires with the brake open: BRAKING with the apply timer started. With the brake closed already, which
confirms it (R147), the engine parks, dwells, or releases for the next position or the route that preempted. The dwell
timer expires with the brake closed: the next position, RELEASING with the release timer started.
The turn of a segment start (`PlansTurn`): TWIST by the target value less the twist; SHORTEST within half a turn; CW and CCW
in their sense within a full turn, or in full by a RELATIVE value of their sign; SAFE as SHORTEST, the other way round where
that would take the twist past the limit.
BRAKE_OPEN rises (its filter timer expires with the line active): in RELEASING the segment starts, and the turn that R143
plans is refused LIMIT, complete at once, or TURNING with its idle and budget timers (that its direction is written also
where it does not turn is the model's choice: log 36); in TURNING, BRAKING, and SETTLING without brake hold nothing more
changes; in PARKED, CLAIMING, DWELLING, and SETTLING with brake hold it is an occurrence of BRAKE_FAULT, which ends the
RUNNING route INHIBITED and parks a CLAIMING or DWELLING engine.
BRAKE_OPEN falls: in TURNING the engine settles with an occurrence of BRAKE_FAULT, which ends the route INHIBITED; in
SETTLING it is an occurrence where the brake is driven open; in BRAKING the engine parks, dwells, or releases for the next
position or the route that preempted; in the other states nothing more changes. -/
def Obligations.TurnTimersExpire : Prop :=
  ∀ (s : State) (r : Fin 6) (c : Instr) (g : Segment) (p : TurnPlan) (d limit heading : Nat) (twist m : Int),
    PlansTurn g limit heading twist m ∧
    (Between s →
      Judged s →
      s.inputs.filters.brakeOpen.left.isSome = true →
      (s.inputs.raw.brakeOpen = true →
        (s.yaw.engine = .releasing → s.runningRoute = some r → s.presentSegment = some g →
            g.plan (s.setting Setting.twistHardLimit) s.yaw.heading s.yaw.twist = p →
            ∃ t, exec (.filterTimerExpiry .brakeOpen) s = .next t ∧
              t.yaw.direction = p.direction ∧ t.yaw.travel = some p.travel ∧ t.yaw.target = some p.target ∧
              t.inputs.filters.brakeOpen = ⟨true, none⟩ ∧
              (s.setting Setting.twistHardLimit < p.target.natAbs → s.yaw.twist.natAbs < p.target.natAbs →
                t.yaw.engine = .braking ∧ t.yaw.stageLeft = some (s.setting Setting.brakeApplyTimeout) ∧
                  t.routes.routes[r] =
                    { s.routes.routes[r] with
                      state := .ended, outcome := some .limit, endedIn := some s.yaw.position }) ∧
              (p.target.natAbs ≤ s.setting Setting.twistHardLimit ∨ p.target.natAbs ≤ s.yaw.twist.natAbs →
                (p.travel ≤ s.stopLead g.speed →
                    t.yaw.engine = .braking ∧ t.yaw.stageLeft = some (s.setting Setting.brakeApplyTimeout) ∧
                      (t.routes.routes[r]).done = (s.routes.routes[r]).done.map (· + 1) ∧
                      ((t.routes.routes[r]).state = .ended ↔
                        s.yaw.position = (s.routes.routes[r]).slots.length)) ∧
                  (s.stopLead g.speed < p.travel →
                    t.yaw.engine = .turning ∧ t.yaw.stageLeft = none ∧
                      t.yaw.idleLeft = some (s.setting Setting.encoderIdleLimit) ∧
                      t.yaw.budgetLeft = some (ceilDiv (p.travel * 2000) (s.turnRate g.speed) + 20000) ∧
                      t.routes = s.routes)) ∧
              Changes [.inputs, .routes, .yaw, .out, .revs] s t) ∧
          (s.yaw.engine = .turning ∨ s.yaw.engine = .braking ∨ s.yaw.engine = .settling ∧ s.yaw.brakeHold = false →
            ∃ t, exec (.filterTimerExpiry .brakeOpen) s = .next t ∧ Changes [.inputs, .out, .revs] s t) ∧
          (s.yaw.engine = .parked ∨ s.yaw.engine = .claiming ∨ s.yaw.engine = .dwelling ∨
              s.yaw.engine = .settling ∧ s.yaw.brakeHold = true →
            ∃ t, exec (.filterTimerExpiry .brakeOpen) s = .next t ∧
              t.cond.recs[Cond.brakeFault] = ((s.cond.recs[Cond.brakeFault]).occur s.onsetArgs).1 ∧
              (s.runningRoute = none → t.yaw = s.yaw ∧ t.routes = s.routes) ∧
              (s.inhibitInForce = false → (s.cond.recs[Cond.brakeFault]).state = .clear → s.runningRoute = some r →
                t.routes.routes[r] =
                    { s.routes.routes[r] with
                      state := .ended, outcome := some .inhibited, endedIn := some s.yaw.position } ∧
                  t.yaw.engine = (if s.yaw.engine = .settling then .settling else .parked)) ∧
              Changes [.inputs, .app, .conv, .cool, .align, .routes, .yaw, .cond, .out, .revs] s t)) ∧
      (s.inputs.raw.brakeOpen = false →
        (s.yaw.engine = .turning →
            ∃ t, exec (.filterTimerExpiry .brakeOpen) s = .next t ∧
              t.yaw.engine = .settling ∧ t.yaw.stageLeft = some (s.setting Setting.settleTime) ∧
              t.yaw.idleLeft = none ∧ t.yaw.budgetLeft = none ∧
              t.cond.recs[Cond.brakeFault] = ((s.cond.recs[Cond.brakeFault]).occur s.onsetArgs).1 ∧
              (s.inhibitInForce = false → (s.cond.recs[Cond.brakeFault]).state = .clear → s.runningRoute = some r →
                t.routes.routes[r] =
                  { s.routes.routes[r] with
                    state := .ended, outcome := some .inhibited, endedIn := some s.yaw.position }) ∧
              Changes [.inputs, .routes, .yaw, .cond, .out, .revs] s t) ∧
          (s.yaw.engine = .settling → (s.claim 0).state = .held → s.yaw.brakeHold = false →
            ∃ t, exec (.filterTimerExpiry .brakeOpen) s = .next t ∧ t.yaw = s.yaw ∧
              t.cond.recs[Cond.brakeFault] = ((s.cond.recs[Cond.brakeFault]).occur s.onsetArgs).1 ∧
              Changes [.inputs, .routes, .cond, .out, .revs] s t) ∧
          (s.yaw.engine = .braking → s.runningRoute = none →
            ∃ t, exec (.filterTimerExpiry .brakeOpen) s = .next t ∧
              t.yaw.engine = .parked ∧ t.yaw.route = none ∧ t.yaw.brakeHold = false ∧ (t.claim 0).state = .free ∧
              t.align.short.isSome = true ∧ t.align.long.isSome = true ∧
              Changes [.inputs, .app, .conv, .cool, .align, .routes, .yaw, .cond, .out, .revs] s t) ∧
          (s.yaw.engine = .braking → s.runningRoute = some r → s.yaw.begun = false →
            ∃ t, exec (.filterTimerExpiry .brakeOpen) s = .next t ∧
              t.yaw =
                { s.yaw with
                  engine := .releasing, position := 1, begun := true, direction := none, travel := none,
                  target := none, stageLeft := some (s.setting Setting.brakeReleaseTimeout) } ∧
              Changes [.inputs, .yaw, .out, .revs] s t) ∧
          (s.yaw.engine = .braking → s.runningRoute = some r → s.yaw.begun = true →
            (s.routes.routes[r]).done = some s.yaw.position →
            (s.segmentAt r s.yaw.position).map (·.dwell) = some d →
            ∃ t, exec (.filterTimerExpiry .brakeOpen) s = .next t ∧
              t.yaw =
                (if d = 0 then
                  { s.yaw with
                    engine := .releasing, position := s.yaw.position + 1, direction := none, travel := none,
                    target := none, stageLeft := some (s.setting Setting.brakeReleaseTimeout) }
                else { s.yaw with engine := .dwelling, stageLeft := some (1000 * d) }) ∧
              Changes [.inputs, .yaw, .out, .revs] s t) ∧
          (s.yaw.engine = .parked ∨ s.yaw.engine = .claiming ∨ s.yaw.engine = .releasing ∨
              s.yaw.engine = .dwelling ∨
              s.yaw.engine = .settling ∧ ((s.claim 0).state ≠ .held ∨ s.yaw.brakeHold = true) →
            ∃ t, exec (.filterTimerExpiry .brakeOpen) s = .next t ∧ Changes [.inputs, .out, .revs] s t))) ∧
      (Between s →
      s.yaw.engine = .turning →
      s.runningRoute = some r →
      c = .idleTimerExpiry ∧ s.yaw.idleLeft.isSome = true ∨ c = .budgetTimerExpiry ∧ s.yaw.budgetLeft.isSome = true →
      ∃ t, exec c s = .next t ∧
        t.routes.routes[r] =
          { s.routes.routes[r] with state := .ended, outcome := some .stall, endedIn := some s.yaw.position } ∧
        t.yaw.engine = .settling ∧ t.yaw.stageLeft = some (s.setting Setting.settleTime) ∧ t.yaw.idleLeft = none ∧
        t.yaw.budgetLeft = none ∧
        t.cond.recs[Cond.yawStall] = ((s.cond.recs[Cond.yawStall]).occur s.onsetArgs).1 ∧
        t.yaw.heading = s.yaw.heading ∧ t.yaw.twist = s.yaw.twist ∧
        Changes [.app, .conv, .cool, .align, .routes, .yaw, .cond, .out, .revs] s t) ∧
      (Between s →
      s.yaw.stageLeft.isSome = true →
      (s.yaw.engine = .settling → s.level .brakeOpen = true →
          ∃ t, exec .settleTimerExpiry s = .next t ∧
            Changes [.revs]
              ({ s with
                yaw :=
                  { s.yaw with
                    engine := .braking, stageLeft := some (s.setting Setting.brakeApplyTimeout), idleLeft := none,
                    budgetLeft := none } }.drive) t) ∧
        (s.yaw.engine = .settling → s.level .brakeOpen = false →
          (s.runningRoute = none →
              ∃ t, exec .settleTimerExpiry s = .next t ∧
                t.yaw.engine = .parked ∧ t.yaw.route = none ∧ t.yaw.brakeHold = false ∧ t.yaw.stageLeft = none ∧
                (t.claim 0).state = .free ∧ t.align.short.isSome = true ∧ t.align.long.isSome = true ∧
                (StaggerRuns s → Changes [.app, .align, .yaw, .cond, .out, .revs] s t)) ∧
            (s.runningRoute = some r → s.yaw.begun = false →
              ∃ t, exec .settleTimerExpiry s = .next t ∧
                t.yaw =
                  { s.yaw with
                    engine := .releasing, position := 1, begun := true, direction := none, travel := none,
                    target := none, stageLeft := some (s.setting Setting.brakeReleaseTimeout), idleLeft := none,
                    budgetLeft := none } ∧
                Changes [.yaw, .out, .revs] s t) ∧
            (s.runningRoute = some r → s.yaw.begun = true → (s.routes.routes[r]).done = some s.yaw.position →
              (s.segmentAt r s.yaw.position).map (·.dwell) = some d →
              ∃ t, exec .settleTimerExpiry s = .next t ∧
                t.yaw =
                  (if d = 0 then
                    { s.yaw with
                      engine := .releasing, position := s.yaw.position + 1, direction := none, travel := none,
                      target := none, stageLeft := some (s.setting Setting.brakeReleaseTimeout), idleLeft := none,
                      budgetLeft := none }
                  else
                    { s.yaw with
                      engine := .dwelling, stageLeft := some (1000 * d), idleLeft := none, budgetLeft := none }) ∧
                Changes [.yaw, .out, .revs] s t)) ∧
        (s.yaw.engine = .dwelling → s.level .brakeOpen = false →
          ∃ t, exec .dwellTimerExpiry s = .next t ∧
            Changes [.revs]
              ({ s with
                yaw :=
                  { s.yaw with
                    engine := .releasing, position := s.yaw.position + 1, begun := true, direction := none,
                    travel := none, target := none,
                    stageLeft := some (s.setting Setting.brakeReleaseTimeout) } }.drive) t))

/-- The waits of the engine run out: the claim wait ends the route NO_POWER and parks; the
release timer ends it BRAKE_FAULT, and with the brake closed and no other route RUNNING the engine parks; the apply timer
with no route RUNNING parks. The last two are occurrences of BRAKE_FAULT. An apply timer with a route RUNNING: the inhibit
that the BRAKE_FAULT brings into force ends it INHIBITED before BRAKING is left, and the engine parks. That a release expiry leads through BRAKING to
PARKED in one event is the model's choice between R142 and R147 (log 33). -/
def Obligations.YawWaitsRunOut : Prop :=
  ∀ (s : State) (r : Fin 6),
    Between s →
    Judged s →
    s.yaw.stageLeft.isSome = true →
    (s.yaw.engine = .claiming → s.runningRoute = some r →
        ∃ t, exec .claimWaitExpiry s = .next t ∧
          t.routes.routes =
            s.routes.routes.set r
              { s.routes.routes[r] with
                state := .ended, outcome := some .noPower, endedIn := some s.yaw.position } ∧
          t.yaw.engine = .parked ∧ (t.claim 0).state = .free ∧ t.align.short.isSome = true ∧
          t.align.long.isSome = true ∧
          (StaggerRuns s → Changes [.app, .align, .routes, .yaw, .cond, .out, .revs] s t)) ∧
      (s.yaw.engine = .releasing → s.level .brakeOpen = false → s.runningRoute = some r →
        (∀ q : Fin 6, q ≠ r → (s.routes.routes[q]).state ≠ .running) →
        ∃ t, exec .releaseTimerExpiry s = .next t ∧
          t.routes.routes =
            s.routes.routes.set r
              { s.routes.routes[r] with
                state := .ended, outcome := some .brakeFault, endedIn := some s.yaw.position } ∧
          t.yaw.engine = .parked ∧ (t.claim 0).state = .free ∧
          t.cond.recs[Cond.brakeFault] = ((s.cond.recs[Cond.brakeFault]).occur s.onsetArgs).1 ∧
          (StaggerRuns s → Changes [.app, .align, .routes, .yaw, .cond, .out, .revs] s t)) ∧
      (s.yaw.engine = .braking → s.runningRoute = none →
        ∃ t, exec .applyTimerExpiry s = .next t ∧
          t.yaw.engine = .parked ∧ (t.claim 0).state = .free ∧ t.align.short.isSome = true ∧
          t.align.long.isSome = true ∧
          t.cond.recs[Cond.brakeFault] = ((s.cond.recs[Cond.brakeFault]).occur s.onsetArgs).1 ∧
          (StaggerRuns s → Changes [.app, .align, .yaw, .cond, .out, .revs] s t)) ∧
      (s.yaw.engine = .braking → s.runningRoute = some r →
        (∀ q : Fin 6, q ≠ r → (s.routes.routes[q]).state ≠ .running) →
        s.inhibitInForce = false → (s.cond.recs[Cond.brakeFault]).state = .clear →
        ∃ t, exec .applyTimerExpiry s = .next t ∧
          t.routes.routes =
            s.routes.routes.set r
              { s.routes.routes[r] with
                state := .ended, outcome := some .inhibited, endedIn := some s.yaw.position } ∧
          t.yaw.engine = .parked ∧ t.yaw.route = none ∧ (t.claim 0).state = .free ∧
          t.align.short.isSome = true ∧ t.align.long.isSome = true ∧ t.inhibitInForce = true ∧
          t.cond.recs[Cond.brakeFault] = ((s.cond.recs[Cond.brakeFault]).occur s.onsetArgs).1 ∧
          (StaggerRuns s → Changes [.app, .align, .routes, .yaw, .cond, .out, .revs] s t))

/-- The short window closes: its mean is the sum over the count, truncated toward zero, or absent where twice the count
is less than the expected count, a quotient that is not rounded (the model's choice: log 41). With no mean, with a
precondition that fails, or with a mean below SHORT_THRESHOLD, a fresh window stands open, unmarked also while the
stream or channel 7 is stale (the model's choice: log 34). With an auto trigger, the stagger timer running, route 0 runs
a RELATIVE turn by ten times the mean, and both windows are cleared. -/
def Obligations.ShortWindowCloses : Prop :=
  ∀ (s : State) (w : Window) (m : Int),
    Between s →
    s.align.short = some w →
    (w.mean = none ∨ s.mayAlign w.motion = false ∨
          w.mean = some m ∧ m.natAbs < s.setting Setting.shortThreshold →
        ∃ t, exec .shortWindowClose s = .next t ∧
          Changes [.revs]
            ({ s with
              align :=
                { s.align with
                  lastShort := w.mean
                  short :=
                    some ⟨1000 * s.setting Setting.shortWindow, 1000 * s.setting Setting.shortWindow, 0, 0, false⟩
                } }.drive) t) ∧
      (w.mean = some m → s.setting Setting.shortThreshold ≤ m.natAbs → s.mayAlign w.motion = true → StaggerRuns s →
        ∃ t, exec .shortWindowClose s = .next t ∧
          t.align.lastShort = some m ∧ t.align.trigger = .auto ∧ t.align.triggerTime = some s.store.partTime ∧
          t.align.short = none ∧ t.align.long = none ∧
          t.routes.segments[(0 : Fin 24)] = some ⟨0, 1, .relative, m * 10, .safe, .normal, 0⟩ ∧
          (t.routes.routes[(0 : Fin 6)]).state = .running ∧ (t.routes.routes[(0 : Fin 6)]).slots = [0] ∧
          t.yaw.engine = .claiming ∧ t.yaw.route = some 0 ∧ t.yaw.position = 1 ∧
          Changes [.app, .align, .routes, .yaw, .cond, .out, .revs] s t) ∧
      (32 * w.count < w.length → w.mean = none) ∧
      (w.length ≤ 32 * w.count → w.mean = some (w.sum.tdiv w.count))

/-- The long window closes: its mean (the expected count is not rounded, the model's choice: log 41), a fresh window,
the untwist check, then the auto trigger. An untwist falls due with the yaw known and the magnitude of the twist at or
above TWIST_UNTWIST. In light wind, the alignment preconditions holding and the stagger timer running, it runs route 1
to the twist less its nearest whole turns; otherwise it is deferred, whichever of the two conditions fails, and
UNTWIST_DUE is present. With no untwist run, a mean whose magnitude reaches LONG_THRESHOLD, the preconditions holding
and the stagger timer running, runs route 0 by ten times the mean; without such a trigger a fresh window stands open,
unmarked also while the stream or channel 7 is stale (the model's choice: log 34). -/
def Obligations.LongWindowCloses : Prop :=
  ∀ (s : State) (w : Window) (m : Int),
    Between s →
    s.align.long = some w →
    (s.untwistFallsDue = true ↔
        s.yaw.known = true ∧ s.setting Setting.twistUntwist ≤ s.yaw.twist.natAbs) ∧
      (s.lightWind = true ↔ ∃ v, s.windSpeed = some v ∧ v ≤ s.setting Setting.untwistWindMax) ∧
      (32 * w.count < w.length → w.mean = none) ∧
      (w.length ≤ 32 * w.count → w.mean = some (w.sum.tdiv w.count)) ∧
      (s.untwistFallsDue = false →
        w.mean = none ∨ s.mayAlign w.motion = false ∨
            w.mean = some m ∧ m.natAbs < s.setting Setting.longThreshold →
        ∃ t, exec .longWindowClose s = .next t ∧
          Changes [.revs]
            ({ s with
              align :=
                { s.align with
                  lastLong := w.mean
                  long :=
                    some ⟨1000 * s.setting Setting.longWindow, 1000 * s.setting Setting.longWindow, 0, 0, false⟩
                } }.drive) t) ∧
      (s.untwistFallsDue = false ∨ s.lightWind = false → Judged s →
        w.mean = some m → s.setting Setting.longThreshold ≤ m.natAbs → s.mayAlign w.motion = true → StaggerRuns s →
        ∃ t, exec .longWindowClose s = .next t ∧
          t.align.lastLong = some m ∧ t.align.trigger = .auto ∧ t.align.triggerTime = some s.store.partTime ∧
          t.align.short = none ∧ t.align.long = none ∧
          t.align.untwistDue = (s.untwistFallsDue || s.align.untwistDue) ∧
          (s.untwistFallsDue = true → (t.cond.recs[Cond.untwistDue]).present = true) ∧
          t.routes.segments[(0 : Fin 24)] = some ⟨0, 1, .relative, m * 10, .safe, .normal, 0⟩ ∧
          (t.routes.routes[(0 : Fin 6)]).state = .running ∧ (t.routes.routes[(0 : Fin 6)]).slots = [0] ∧
          t.yaw.engine = .claiming ∧ t.yaw.route = some 0 ∧ t.yaw.position = 1 ∧
          Changes [.app, .align, .routes, .yaw, .cond, .out, .revs] s t) ∧
      (s.untwistFallsDue = true → s.lightWind = false ∨ s.mayAlign w.motion = false → Judged s →
        w.mean = none ∨ s.mayAlign w.motion = false ∨
            w.mean = some m ∧ m.natAbs < s.setting Setting.longThreshold →
        ∃ t, exec .longWindowClose s = .next t ∧
          t.align =
            { s.align with
              lastLong := w.mean
              long := some ⟨1000 * s.setting Setting.longWindow, 1000 * s.setting Setting.longWindow, 0, 0, false⟩
              untwistDue := true } ∧
          (t.cond.recs[Cond.untwistDue]).present = true ∧
          Changes [.align, .cond, .out, .revs] s t) ∧
      (s.untwistFallsDue = true → s.lightWind = true → s.mayAlign w.motion = true → StaggerRuns s →
        ∃ t, exec .longWindowClose s = .next t ∧
          t.align.lastLong = w.mean ∧ t.align.trigger = .untwist ∧ t.align.triggerTime = some s.store.partTime ∧
          t.routes.segments[(1 : Fin 24)] =
            some ⟨1, 1, .twist, s.yaw.twist - 36000 * nearestTurns s.yaw.twist, .shortest, .slow, 0⟩ ∧
          (t.routes.routes[(1 : Fin 6)]).state = .running ∧ t.yaw.engine = .claiming ∧ t.yaw.route = some 1 ∧
          Changes [.app, .align, .routes, .yaw, .cond, .out, .revs] s t) ∧
      (s.untwistFallsDue = true → s.mayAlign w.motion = false →
        ∃ t, exec .longWindowClose s = .next t ∧
          t.align.lastLong = w.mean ∧ t.align.untwistDue = true ∧
          (t.cond.recs[Cond.untwistDue]).present = true)

/-! ### The converter -/

/-- CHARGE in OFF with the supply in GRID and neither TRIP nor HOLD_CONVERTER in force: PRECHARGING in LINK_CHARGING with
the precharge timer started, where the CONV zone's evaluation in that event does not find it CRITICAL. In another state it
is answered STATE; outside GRID, or under TRIP or HOLD_CONVERTER, NOT_READY. -/
def Obligations.ChargeStartsPrecharge : Prop :=
  ∀ (s : State),
    Ready s →
    (s.conv.state ≠ .off → exec .charge s = .next (s.answered .state [])) ∧
      (s.conv.state = .off → s.supply.state ≠ .grid ∨ s.tripInForce = true ∨ s.holdInForce = true →
        exec .charge s = .next (s.answered .notReady [])) ∧
      (Judged s →
        s.conv.state = .off →
        s.supply.state = .grid →
        s.tripInForce = false →
        s.holdInForce = false →
        (s.cool.zones.conv.limits.judge s.cool.zones.conv.thermal (s.temperature .conv)) ≠ .critical →
        ∃ t, exec .charge s = .next t ∧
          t.conv =
            { s.conv with
              state := .precharging, step := some .linkCharging,
              seqLeft := some (s.setting Setting.prechargeTimeout), flowProven := t.conv.flowProven } ∧
          t.port = s.port.answered .ok [] ∧
          (StaggerRuns s → Changes [.app, .conv, .cool, .cond, .port, .out, .revs] s t) ∧
          Changes [.app, .conv, .cool, .align, .routes, .yaw, .cond, .port, .out, .revs] s t ∧ t.out = t.outputs)

/-- START in CHARGED with the CONV pump claim HELD, its flow proven, the supply in GRID and neither TRIP nor HOLD_CONVERTER
in force: RUNNING. Not ready it is answered NOT_READY, in another state STATE.
STOP CONVERTER in RUNNING or RIDING: CHARGED, permits off, ceiling 0. DISCHARGE in CHARGED, and CLEAR TRIP in TRIPPED
with TRIP not in force: DISCHARGING with the discharge timer started and no trip reason. Elsewhere STATE, and CLEAR TRIP
under TRIP NOT_READY. -/
def Obligations.ConverterRequests : Prop :=
  ∀ (s : State),
    (Ready s →
      (s.conv.state ≠ .charged → exec .start s = .next (s.answered .state [])) ∧
        (s.conv.state = .charged →
          ((s.claim 1).state ≠ .held ∨ s.conv.flowProven = false ∨ s.tripInForce = true ∨ s.holdInForce = true ∨
              s.supply.state ≠ .grid →
            exec .start s = .next (s.answered .notReady [])) ∧
          ((s.claim 1).state = .held → s.conv.flowProven = true → s.tripInForce = false → s.holdInForce = false →
            s.supply.state = .grid →
            ∃ t, exec .start s = .next t ∧
              Changes [.revs] ({ s with conv := { s.conv with state := .running } }.answered .ok []) t))) ∧
      (Ready s →
      (s.conv.state = .running ∨ s.conv.state = .riding →
          ∃ t, exec .stopConverter s = .next t ∧
            Changes [.revs] ({ s with conv := { s.conv with state := .charged } }.answered .ok []) t ∧
            t.out.pulsePermit = false ∧ t.out.chopperPermit = false ∧ t.out.mainK = true ∧ t.ceiling = 0) ∧
        (s.conv.state ≠ .running → s.conv.state ≠ .riding → exec .stopConverter s = .next (s.answered .state [])) ∧
        (s.conv.state = .charged →
          ∃ t, exec .discharge s = .next t ∧
            Changes [.revs]
              ({ s with
                conv :=
                  { s.conv with
                    state := .discharging, step := none,
                    seqLeft := some (1000 * s.setting Setting.dischargeTimeout), tripReason := none } }.answered .ok
                []) t) ∧
        (s.conv.state ≠ .charged → exec .discharge s = .next (s.answered .state [])) ∧
        (s.conv.state = .tripped → s.tripInForce = false →
          ∃ t, exec .clearTrip s = .next t ∧
            Changes [.revs]
              ({ s with
                conv :=
                  { s.conv with
                    state := .discharging, step := none,
                    seqLeft := some (1000 * s.setting Setting.dischargeTimeout), tripReason := none } }.answered .ok
                []) t) ∧
        (s.conv.state = .tripped → s.tripInForce = true → exec .clearTrip s = .next (s.answered .notReady [])) ∧
        (s.conv.state ≠ .tripped → exec .clearTrip s = .next (s.answered .state [])))

/-- A sequence timer expires: the precharge timer in LINK_CHARGING and the discharge timer in DISCHARGING trip the
converter with DC_SEQUENCE_FAIL, the breaker timer in BREAKER_CLOSING with BREAKER_FAIL; that record is the trip
reason. -/
def Obligations.SequenceTimersTrip : Prop :=
  ∀ (s : State) (c : Instr) (n : Fin 32),
    Between s →
    Judged s →
    s.tripInForce = false →
    s.conv.seqLeft.isSome = true →
    c = .prechargeTimerExpiry ∧ s.conv.state = .precharging ∧ s.conv.step = some .linkCharging ∧ n.val = 3 ∨
      c = .breakerTimerExpiry ∧ s.conv.state = .precharging ∧ s.conv.step = some .breakerClosing ∧ n.val = 4 ∨
      c = .dischargeTimerExpiry ∧ s.conv.state = .discharging ∧ n.val = 3 →
    (s.cond.recs[n]).state = .clear →
    ∃ t, exec c s = .next t ∧
      t.conv = { s.conv with state := .tripped, step := none, seqLeft := none, tripReason := some n } ∧
      t.cond.recs[n] = ((s.cond.recs[n]).occur s.onsetArgs).1 ∧
      t.tripInForce = true ∧ t.out.dischargeK = true ∧ t.out.mainK = false ∧ t.out.prechargeK = false ∧
      Changes [.conv, .cond, .out, .revs] s t ∧ t.out = t.outputs

/-- A chopper decay expiry: CHOPPER_DECAY × 10 J less, not below 0, and the timer started again. -/
def Obligations.ChopperDecays : Prop :=
  ∀ (s : State),
    Between s →
    s.conv.decayLeft.isSome = true →
    ∃ t, exec .chopperDecayExpiry s = .next t ∧
      t.conv.energy = s.conv.energy - 10 * s.setting Setting.chopperDecay ∧
      t.conv.decayLeft = some 10 ∧
      Changes [.app, .conv, .cool, .align, .routes, .yaw, .cond, .out, .revs] s t

/-- GATE_FAULT becoming active trips an energised converter: its record is the trip reason, PULSE_PERMIT is off. -/
def Obligations.GateFaultTrips : Prop :=
  ∀ (s : State),
    Between s →
    Judged s →
    s.tripInForce = false →
    s.conv.state.energised = true →
    s.inputs.filters.gateFault.left.isSome = true →
    s.inputs.raw.gateFault = true →
    (s.cond.recs[Cond.gateFault]).state = .clear →
    (s.cond.recs[Cond.gateFault]).present = false →
    (s.cond.recs[Cond.gateFault]).delay = 0 →
    ∃ t, exec (.filterTimerExpiry .gateFault) s = .next t ∧
      t.inputs.filters.gateFault = ⟨true, none⟩ ∧
      t.conv = { s.conv with state := .tripped, step := none, seqLeft := none, tripReason := some 1 } ∧
      (t.cond.recs[Cond.gateFault]).state = .active ∧
      t.out.pulsePermit = false ∧ t.out.chopperPermit = false ∧ t.out.dischargeK = true ∧
      Changes [.inputs, .conv, .cond, .out, .revs] s t

/-! ### Stream, supply, lines -/

/-- A run of bytes that is not 17 long, does not begin with the sync value, has a wrong CRC-8, names a slow channel of 8 or
above, or repeats the last sequence number is discarded: nothing changes.
An accepted meter frame: the stream is LIVE with its stale timer at 10 ms, the fast values and the slow channel are
taken; the converter takes Vdc in per-mille, Vmin, the chopper gain (a fractional gain is a free value: log 22) and the
overvoltage run, and DC_OVERVOLT and CHOPPER_EXHAUSTED follow the run and the energy.
The converter's sequence: in LINK_CHARGING a Vdc at PRECHARGE_LEVEL closes the breaker, which completes the charge where
MAIN_CLOSED is active already, unless TRIP comes into force in the frame; in DISCHARGING a Vdc below DISCHARGE_SAFE_LEVEL
brings OFF, and the CONV zone is evaluated.
The slow value: the zone of the channel is evaluated with the reading, and no other but CONV at an entry to OFF. A wind
direction within −1800 to 1799 is gathered by the open windows, a motion index above MOTION_LIMIT marks them, MOTION_HIGH
follows the index, and a wind speed is the latest (log 31); this where no route ends in the frame, since the end of one may
park the engine and open windows. -/
def Obligations.MeterFrameJudgedWhole : Prop :=
  ∀ (s : State) (bytes : List Byte) (z : Zone) (vdc : Nat) (v : Int),
    (bytes.length ≠ 17 ∨ bytes.head? ≠ some 0xA5#8 ∨ bytes.getLast? ≠ some (crc8 (bytes.take 16)) ∨
        8 ≤ fieldNat bytes 13 1 ∨ s.meter.lastSeq = some (fieldNat bytes 1 1) →
      exec (.meterFrame bytes) s = .next s) ∧
      (Between s →
      bytes.length = 17 →
      bytes.head? = some 0xA5#8 →
      bytes.getLast? = some (crc8 (bytes.take 16)) →
      fieldNat bytes 13 1 < 8 →
      s.meter.lastSeq ≠ some (fieldNat bytes 1 1) →
      vdc = fieldNat bytes 10 2 * 1000 / s.setting Setting.vdcNominal →
      v = fieldInt bytes 14 2 →
      ∃ t, exec (.meterFrame bytes) s = .next t ∧
        t.meter =
          { live := true, staleLeft := some 10, lastSeq := some (fieldNat bytes 1 1), fast := some (frameFast bytes),
            channels := s.meter.channels.set (frameChannel bytes) ⟨some v, some 500⟩ } ∧
        t.conv.vdc = some vdc ∧
        t.conv.rideVmin = min (fieldNat bytes 2 2) (min (fieldNat bytes 4 2) (fieldNat bytes 6 2)) ∧
        t.conv.energy =
          min (s.conv.energy + chopperGain (min (fieldNat bytes 12 1) 200) (s.setting Setting.chopperRated))
            2147483647 ∧
        t.conv.overvoltRun =
          (if s.setting Setting.overvoltLevel ≤ vdc then min (s.conv.overvoltRun + 1) 2 else 0) ∧
        (t.cond.recs[Cond.dcOvervolt]).present =
          (if t.conv.overvoltRun = 2 then true else if t.conv.overvoltRun = 0 then false
            else (s.cond.recs[Cond.dcOvervolt]).present) ∧
        ((t.cond.recs[Cond.chopperExhausted]).present = true ↔
          s.setting Setting.chopperEnergyLimit * 1000 < t.conv.energy) ∧
        (s.conv.state = .precharging → s.conv.step = some .linkCharging → Judged s → t.tripInForce = false →
          (vdc < s.setting Setting.prechargeLevel →
              t.conv.state = .precharging ∧ t.conv.step = some .linkCharging ∧ t.conv.seqLeft = s.conv.seqLeft) ∧
            (s.setting Setting.prechargeLevel ≤ vdc → s.level .mainClosed = false →
              t.conv.state = .precharging ∧ t.conv.step = some .breakerClosing ∧
                t.conv.seqLeft = some (s.setting Setting.breakerTimeout)) ∧
            (s.setting Setting.prechargeLevel ≤ vdc → s.level .mainClosed = true →
              t.conv.state = .charged ∧ t.conv.step = none ∧ t.conv.seqLeft = none)) ∧
        (s.conv.state = .discharging →
          (s.setting Setting.dischargeSafeLevel ≤ vdc →
              t.conv.state = .discharging ∧ t.conv.seqLeft = s.conv.seqLeft) ∧
            (vdc < s.setting Setting.dischargeSafeLevel →
              t.conv.state = .off ∧ t.conv.seqLeft = none ∧
                (t.cool.zones.get .conv).computed =
                  some ((s.cool.zones.get .conv).limits.level (t.temperature .conv)))) ∧
        (channelZone (frameChannel bytes) = some z →
          t.temperature z = some v ∧ (t.cool.zones.get z).age = some 0 ∧
            (t.cool.zones.get z).thermal = (s.cool.zones.get z).limits.judge (s.cool.zones.get z).thermal (some v) ∧
            (t.cool.zones.get z).computed = some ((s.cool.zones.get z).limits.level (some v))) ∧
        (channelZone (frameChannel bytes) ≠ some z → z ≠ .conv ∨ s.conv.state ≠ .discharging →
          (t.cool.zones.get z).thermal = (s.cool.zones.get z).thermal ∧
            (t.cool.zones.get z).computed = (s.cool.zones.get z).computed) ∧
        (frameChannel bytes = 7 →
          ((t.cond.recs[Cond.motionHigh]).present = true ↔ (s.setting Setting.motionLimit : Int) < v)) ∧
        (frameChannel bytes = 1 → t.windSpeed = some v) ∧
        (t.runningRoute = s.runningRoute →
          (frameChannel bytes = 0 → -1800 ≤ v ∧ v ≤ 1799 →
              t.align =
                { s.align with
                  short := s.align.short.map fun w => { w with count := w.count + 1, sum := w.sum + v }
                  long := s.align.long.map fun w => { w with count := w.count + 1, sum := w.sum + v } }) ∧
            (frameChannel bytes = 0 → v < -1800 ∨ 1799 < v → t.align = s.align) ∧
            (frameChannel bytes = 7 →
              t.align =
                { s.align with
                  motionIndex := some v
                  short :=
                    s.align.short.map fun w =>
                      { w with motion := w.motion || decide ((s.setting Setting.motionLimit : Int) < v) }
                  long :=
                    s.align.long.map fun w =>
                      { w with motion := w.motion || decide ((s.setting Setting.motionLimit : Int) < v) } }) ∧
            (frameChannel bytes ≠ 0 → frameChannel bytes ≠ 7 → t.align = s.align)) ∧
        Changes [.meter, .app, .supply, .conv, .cool, .align, .routes, .yaw, .cond, .out, .revs] s t ∧
        t.out = t.outputs)

/-- The Supply Monitor at an accepted frame: the below-times; in GRID a Vmin below ENVELOPE_LEVEL_1 is a dip; in DIP a
point exceeded is a loss, the lowest its loss point, and otherwise the recovery hold follows DIP_RECOVERY_LEVEL; in LOST and
BACKUP the state follows BACKUP_ONLINE, the loss point kept, and the reconnection hold follows DIP_RECOVERY_LEVEL.
Its reports: GRID_DIP, GRID_LOST and FREQ_OUT_OF_BAND are present as the state after the frame and the frequency say;
ENVELOPE_TRIP occurs at a loss that found the converter RUNNING or RIDING, and at no other frame. -/
def Obligations.SupplyJudgesFrame : Prop :=
  ∀ (s : State) (bytes : List Byte) (vmin : Nat) (k : Fin 6),
    Between s →
    s.meter.accepts bytes = true →
    vmin = (frameFast bytes).vmin →
    (s.supply.state = .grid →
        ∃ t, exec (.meterFrame bytes) s = .next t ∧
          t.supply.state = (if vmin < s.setting (Setting.envelopeLevel 0) then .dip else .grid) ∧
          t.supply.below[k] =
            (if k.val < s.setting Setting.envelopePoints ∧ vmin < s.setting (Setting.envelopeLevel k) then
              min (s.supply.below[k] + 2) 65535 else 0)) ∧
      (s.supply.state = .dip →
        ((s.countBelow vmin).exceeded k = true →
            (∀ j : Fin 6, j < k → (s.countBelow vmin).exceeded j = false) →
            ∃ t, exec (.meterFrame bytes) s = .next t ∧
              t.supply =
                { s.supply with
                  state := .lost, recovery := none, below := Vector.replicate 6 0, lossPoint := some (k.val + 1) }) ∧
          ((∀ j : Fin 6, (s.countBelow vmin).exceeded j = false) →
            ∃ t, exec (.meterFrame bytes) s = .next t ∧
              t.supply =
                { (s.countBelow vmin).supply with
                  recovery :=
                    if s.setting Setting.dipRecoveryLevel ≤ vmin then
                      some (s.supply.recovery.getD (s.setting Setting.recoveryHold)) else none })) ∧
      (s.supply.state = .lost ∨ s.supply.state = .backup →
        ∃ t, exec (.meterFrame bytes) s = .next t ∧
          t.supply =
            { s.supply with
              state := if s.level .backupOnline = true then .backup else .lost
              reconnect :=
                if s.setting Setting.dipRecoveryLevel ≤ vmin then
                  some (s.supply.reconnect.getD (1000 * s.setting Setting.reconnectHold)) else none } ∧
          t.apportionable =
            s.setting (if s.level .backupOnline = true then Setting.budgetBackup else Setting.budgetLost) -
              s.setting Setting.essentialReserve) ∧
      ∃ t, exec (.meterFrame bytes) s = .next t ∧
        ((t.cond.recs[Cond.gridDip]).present = true ↔ t.supply.state = .dip) ∧
        ((t.cond.recs[Cond.gridLost]).present = true ↔ t.supply.state = .lost ∨ t.supply.state = .backup) ∧
        ((t.cond.recs[Cond.freqOutOfBand]).present = true ↔
          (t.supply.state = .grid ∨ t.supply.state = .dip) ∧
            ((frameFast bytes).frequency < s.setting Setting.freqLow ∨
              s.setting Setting.freqHigh < (frameFast bytes).frequency)) ∧
        (Judged s →
          t.cond.recs[Cond.envelopeTrip] =
            (if s.supply.state = .dip ∧ t.supply.state = .lost ∧ (s.conv.state = .running ∨ s.conv.state = .riding) then
              ((s.cond.recs[Cond.envelopeTrip]).occur s.onsetArgs).1 else s.cond.recs[Cond.envelopeTrip]))

/-- The stale timer expires: the stream is STALE with nothing of it kept, the holds are cancelled, Vdc is absent and every
zone is HOT at its computed level 15.
A slow channel's age timer expires: the channel has no value, and a zone it carries is evaluated as stale. -/
def Obligations.GoesStale : Prop :=
  ∀ (s : State) (z : Zone) (c : Fin 8),
    (Between s →
      s.meter.staleLeft.isSome = true →
      ∃ t, exec .staleTimerExpiry s = .next t ∧
        t.meter = ⟨false, none, none, none, Vector.replicate 8 ⟨none, none⟩⟩ ∧
        t.supply = { s.supply with recovery := none, reconnect := none } ∧
        t.conv.vdc = none ∧
        t.conv.overvoltRun = (if s.conv.overvoltRun = 1 then 0 else s.conv.overvoltRun) ∧
        t.temperature z = none ∧ (t.cool.zones.get z).thermal = .hot ∧
        (t.cool.zones.get z).ceiling = s.setting Setting.derateFloor ∧ (t.cool.zones.get z).computed = some 15 ∧
        (t.cond.recs[Cond.meterStale]).present = true ∧
        Changes [.meter, .app, .supply, .conv, .cool, .align, .routes, .yaw, .cond, .out, .revs] s t ∧
        t.out = t.outputs) ∧
      (Between s →
      (s.meter.channels[c]).ageLeft.isSome = true →
      ∃ t, exec (.slowChannelAgeExpiry c) s = .next t ∧
        t.meter = { s.meter with channels := s.meter.channels.set c ⟨none, none⟩ } ∧
        (channelZone c = some z →
          (t.cool.zones.get z).thermal = .hot ∧ (t.cool.zones.get z).computed = some 15 ∧
            (t.cool.zones.get z).ceiling = s.setting Setting.derateFloor) ∧
        (c.val = 7 →
          t.align =
            { s.align with
              short := s.align.short.map fun w => { w with motion := true }
              long := s.align.long.map fun w => { w with motion := true } }) ∧
        (channelZone c = none →
          Changes [.meter, .align, .out, .revs] s t) ∧
        Changes [.meter, .app, .conv, .cool, .align, .routes, .yaw, .cond, .out, .revs] s t)

/-- A raw line change: the filter timer of 20 ms starts where the line leaves its filtered level and is cancelled where it
returns to it; a change to the level it has is none. A strap or WARMSEL takes its level, by the same command: the model's
choice (log 7).
A filter timer expires: the filtered level takes the raw level, and the change is handed to the owner, said here for
GATE_FAULT and MAIN_CLOSED. A rise of MAIN_CLOSED in BREAKER_CLOSING completes the charge. Its fall in CHARGED, RUNNING or
RIDING is an occurrence of BREAKER_FAIL, which with TRIP not in force and the record CLEAR trips the converter, the record
being the trip reason. Every other change of MAIN_CLOSED does nothing more. TurnTimersExpire has BRAKE_OPEN,
HoldsBringGridBack has BACKUP_ONLINE, FlowIsLost has the flow lines. -/
def Obligations.LineFiltersSettle : Prop :=
  ∀ (s : State) (l : Line) (level : Bool) (f : LinkForm),
    (s.hold = none →
      (s.inputs.raw.get l = level → exec (.rawLineChange (.line l level)) s = .next s) ∧
        (s.inputs.raw.get l ≠ level →
          exec (.rawLineChange (.line l level)) s =
            .next
              { s with
                inputs :=
                  { s.inputs with
                    raw := s.inputs.raw.set l level
                    filters :=
                      s.inputs.filters.set l
                        ⟨s.level l, if level = s.level l then none else some 20⟩ } }) ∧
        exec (.rawLineChange (.linksel f)) s = .next { s with inputs := { s.inputs with linksel := f } } ∧
        exec (.rawLineChange (.addr level)) s = .next { s with inputs := { s.inputs with addr := level } } ∧
        exec (.rawLineChange (.warmsel level)) s = .next { s with inputs := { s.inputs with warmsel := level } }) ∧
      (Between s →
      (s.inputs.filters.get l).left.isSome = true →
      ∃ t, exec (.filterTimerExpiry l) s = .next t ∧
        t.inputs = { s.inputs with filters := s.inputs.filters.set l ⟨s.inputs.raw.get l, none⟩ } ∧
        (l = .gateFault → (t.cond.recs[Cond.gateFault]).present = s.inputs.raw.gateFault) ∧
        (l = .mainClosed → s.inputs.raw.mainClosed = true → s.conv.state = .precharging →
          s.conv.step = some .breakerClosing →
          t.conv = { s.conv with state := .charged, step := none, seqLeft := none } ∧ t.cond = s.cond) ∧
        (l = .mainClosed → s.inputs.raw.mainClosed = false →
          s.conv.state = .charged ∨ s.conv.state = .running ∨ s.conv.state = .riding → Judged s →
          t.cond.recs[Cond.breakerFail] = ((s.cond.recs[Cond.breakerFail]).occur s.onsetArgs).1 ∧
            (s.tripInForce = false → (s.cond.recs[Cond.breakerFail]).state = .clear →
              t.conv = { s.conv with state := .tripped, step := none, seqLeft := none, tripReason := some 4 } ∧
                t.tripInForce = true ∧ t.out.pulsePermit = false ∧ t.out.mainK = false ∧ t.out.dischargeK = true ∧
                Changes [.inputs, .conv, .cond, .out, .revs] s t)) ∧
        (l = .mainClosed →
          s.inputs.raw.mainClosed = true ∧ ¬(s.conv.state = .precharging ∧ s.conv.step = some .breakerClosing) ∨
            s.inputs.raw.mainClosed = false ∧ s.conv.state ≠ .charged ∧ s.conv.state ≠ .running ∧
              s.conv.state ≠ .riding →
          Changes [.inputs, .out, .revs] s t) ∧
        Changes [.inputs, .app, .supply, .conv, .cool, .align, .routes, .yaw, .cond, .out, .revs] s t ∧
        t.out = t.outputs)

/-- A hold expires: the recovery hold in DIP and the reconnection hold in LOST or BACKUP bring GRID back, and GRID_DIP and
GRID_LOST are gone; a converter RIDING a dip is RUNNING again where the budget does not fall and the stagger timer runs.
BACKUP_ONLINE changes its filtered level with the stream LIVE: active in LOST it makes the state BACKUP, inactive in BACKUP
it makes the state LOST, the loss point kept and the budget delivered; in GRID and DIP, and while the stream is STALE, it
makes no transition. -/
def Obligations.HoldsBringGridBack : Prop :=
  ∀ (s : State),
    Between s →
    (s.inputs.filters.backupOnline.left.isSome = true →
        (s.meter.live = true →
            s.supply.state = .lost ∧ s.inputs.raw.backupOnline = true ∨
              s.supply.state = .backup ∧ s.inputs.raw.backupOnline = false →
            ∃ t, exec (.filterTimerExpiry .backupOnline) s = .next t ∧
              t.supply = { s.supply with state := if s.supply.state = .lost then .backup else .lost } ∧
              t.inputs.filters.backupOnline = ⟨s.inputs.raw.backupOnline, none⟩ ∧
              t.apportionable =
                s.setting (if s.supply.state = .lost then Setting.budgetBackup else Setting.budgetLost) -
                  s.setting Setting.essentialReserve ∧
              (t.cond.recs[Cond.gridDip]).present = false ∧ (t.cond.recs[Cond.gridLost]).present = true ∧
              Changes [.inputs, .app, .supply, .conv, .cool, .align, .routes, .yaw, .cond, .out, .revs] s t) ∧
          (s.meter.live = false →
            ∃ t, exec (.filterTimerExpiry .backupOnline) s = .next t ∧
              t.inputs.filters.backupOnline = ⟨s.inputs.raw.backupOnline, none⟩ ∧
              Changes [.inputs, .out, .revs] s t) ∧
          (s.supply.state = .grid ∨ s.supply.state = .dip →
            ∃ t, exec (.filterTimerExpiry .backupOnline) s = .next t ∧ t.supply = s.supply)) ∧
    (s.supply.state = .dip → s.supply.recovery.isSome = true →
        ∃ t, exec .recoveryHoldExpiry s = .next t ∧
          t.supply = { s.supply with state := .grid, recovery := none } ∧
          (t.cond.recs[Cond.gridDip]).present = false ∧ (t.cond.recs[Cond.gridLost]).present = false ∧
          (Judged s → StaggerRuns s → s.setting Setting.budgetDip ≤ s.setting Setting.budgetGrid →
            s.conv.state = .riding → t.conv = { s.conv with state := .running }) ∧
          Changes [.app, .supply, .conv, .cool, .align, .routes, .yaw, .cond, .out, .revs] s t) ∧
      (s.supply.state = .lost ∨ s.supply.state = .backup → s.supply.reconnect.isSome = true →
        ∃ t, exec .reconnectionHoldExpiry s = .next t ∧
          t.supply =
            { s.supply with state := .grid, reconnect := none, below := Vector.replicate 6 0, lossPoint := none } ∧
          (t.cond.recs[Cond.gridDip]).present = false ∧ (t.cond.recs[Cond.gridLost]).present = false ∧
          Changes [.app, .supply, .conv, .cool, .align, .routes, .yaw, .cond, .out, .revs] s t)

/-! ### Cooling -/

/-- The first-evaluation timer expires: every zone not yet evaluated is evaluated as stale. A decrease hold expires: the
demand level takes the target of the last evaluation, or the higher target of the evaluation that follows in the event.
With LEVEL_DECREASE_HOLD at 0 a hold expires at once, in an event that follows the one that started it: after a fresh
reading, and after an expiry, the demand level is the target. -/
def Obligations.CoolingTimersExpire : Prop :=
  ∀ (s : State) (z w : Zone) (bytes : List Byte),
    Between s →
    (s.meter.accepts bytes = true →
      channelZone (frameChannel bytes) = some z →
      s.setting Setting.levelDecreaseHold = 0 →
      (s.cool.zones.get z).hold = none →
      ∃ t, exec (.meterFrame bytes) s = .next t ∧
        (t.cool.zones.get z).demand =
          t.targetLevel z ((s.cool.zones.get z).limits.level (some (fieldInt bytes 14 2)))) ∧
    (s.cool.firstEval.isSome = true →
        ∃ t, exec .firstEvaluationTimerExpiry s = .next t ∧
          t.cool.firstEval = none ∧
          ((s.cool.zones.get z).computed = none → s.temperature z = none →
            (t.cool.zones.get z).thermal = .hot ∧ (t.cool.zones.get z).computed = some 15) ∧
          ((s.cool.zones.get z).computed ≠ none →
            (t.cool.zones.get z).thermal = (s.cool.zones.get z).thermal ∧
              (t.cool.zones.get z).demand = (s.cool.zones.get z).demand) ∧
          Changes [.app, .conv, .cool, .align, .routes, .yaw, .cond, .out, .revs] s t) ∧
      ((s.cool.zones.get z).hold.isSome = true →
        ∃ t, exec (.decreaseHoldExpiry z) s = .next t ∧
          (t.cool.zones.get z).demand =
            (if s.setting Setting.levelDecreaseHold = 0 then
              s.targetLevel z ((s.cool.zones.get z).limits.level (s.temperature z))
            else
              max (s.cool.zones.get z).target
                (s.targetLevel z ((s.cool.zones.get z).limits.level (s.temperature z)))) ∧
          (w ≠ z → (t.cool.zones.get w).demand = (s.cool.zones.get w).demand) ∧
          Changes [.app, .conv, .cool, .align, .routes, .yaw, .cond, .out, .revs] s t)

/-- A loss of flow, by the flow window or by the loss timer: the check is FAILED, PUMP_NO_FLOW is present, the actuator
demand is at least 1.
A flow line becomes active (its filter timer expires): AWAITING and FLOWING are FLOWING with no timer; FAILED ends, the
cause goes, the proving minimum is lifted, and the check is FLOWING where it is then armed, else IDLE; FLOW_CONV proves the
converter's pump while slot 1 is HELD. It becomes inactive: in FLOWING the loss timer starts, elsewhere nothing changes. -/
def Obligations.FlowIsLost : Prop :=
  ∀ (s : State) (p : Pump) (c : Instr) (l : Line),
    Between s →
    (l = pumpLine p →
      (s.inputs.filters.get l).left.isSome = true →
      (s.inputs.raw.get l = true →
        ∃ t, exec (.filterTimerExpiry l) s = .next t ∧
          ((s.cool.flow.get p).state = .idle → t.cool.flow = s.cool.flow) ∧
          ((s.cool.flow.get p).state = .awaiting ∨ (s.cool.flow.get p).state = .flowing →
            t.cool.flow.get p = ⟨.flowing, none⟩ ∧ t.app = s.app ∧ t.cond = s.cond) ∧
          ((s.cool.flow.get p).state = .failed →
            (t.cond.recs[Cond.pumpNoFlow p]).present = false ∧
              (t.cool.zones.get (pumpZone p)).actuatorDemand = (s.cool.zones.get (pumpZone p)).demand ∧
              t.cool.flow.get p =
                if (t.claim (homeSlot (pumpZone p))).state = .held ∧ 1 ≤ (t.cool.zones.get (pumpZone p)).effective then
                  ⟨.flowing, none⟩ else ⟨.idle, none⟩) ∧
          (p = .conv → (s.cool.flow.get p).state ≠ .failed →
            t.conv = { s.conv with flowProven := s.conv.flowProven || s.isHeld 1 }) ∧
          (p = .conv → (t.claim 1).state = .held → t.conv.flowProven = true) ∧
          Changes [.inputs, .app, .conv, .cool, .align, .routes, .yaw, .cond, .out, .revs] s t) ∧
      (s.inputs.raw.get l = false →
        ∃ t, exec (.filterTimerExpiry l) s = .next t ∧
          t.cool.flow.get p =
            (if (s.cool.flow.get p).state = .flowing then
              ⟨.flowing, some (1000 * s.setting Setting.flowLossTime)⟩ else s.cool.flow.get p) ∧
          Changes [.inputs, .cool, .out, .revs] s t)) ∧
    (c = .flowWindowExpiry p ∧ (s.cool.flow.get p).state = .awaiting ∨
      c = .flowLossTimerExpiry p ∧ (s.cool.flow.get p).state = .flowing →
    (s.cool.flow.get p).left.isSome = true →
    ∃ t, exec c s = .next t ∧
      t.cool.flow.get p = ⟨.failed, none⟩ ∧
      (t.cond.recs[Cond.pumpNoFlow p]).present = true ∧
      1 ≤ (t.cool.zones.get (pumpZone p)).actuatorDemand ∧
      Changes [.app, .conv, .cool, .align, .routes, .yaw, .cond, .out, .revs] s t)

/-! ### Conditions and part time -/

/-- ACKNOWLEDGE, where SHED_SERVICE is not in force or the stagger timer runs: a level-kind record ACTIVE becomes ACKED; one
LATCHED becomes CLEAR, or PENDING while its delay timer runs, with count, persistent flag and burst start cleared. In any
other state STATE.
ACKNOWLEDGE LINE, where SHED_SERVICE is not in force or the stagger timer runs: every record routed to the line and ACTIVE
or LATCHED is acknowledged, the result is how many; a line above 3 is answered RANGE. -/
def Obligations.AcknowledgeLeavesState : Prop :=
  ∀ (s : State) (h : Handle) (g : Option Nat) (i k : Fin 32) (line : Nat),
    (Ready s →
      Judged s →
      StaggerRuns s ∨ s.shedServiceInForce = false →
      (resolve h s).2 = some (10, i.val) →
      guardPasses s g 10 i.val = true →
      ((s.cond.recs[i]).state = .active → catalogue[i].kind = .level →
          ∃ t, exec (.acknowledge h g) s = .next t ∧
            t.cond.recs[i] = { s.cond.recs[i] with state := .acked, last := some s.store.partTime } ∧
            (k ≠ i → t.cond.recs[k] = s.cond.recs[k]) ∧
            t.port = (resolve h s).1.port.answered .ok [] ∧
            Changes [.cond, .port, .out, .revs] s t ∧ t.out = t.outputs) ∧
        ((s.cond.recs[i]).state = .latched →
          ∃ t, exec (.acknowledge h g) s = .next t ∧
            (catalogue[i].kind = .level → (s.cond.recs[i]).timer.isSome = true →
              t.cond.recs[i] =
                { s.cond.recs[i] with
                  state := .pending, last := some s.store.partTime, count := 0, persistent := false, burst := none }) ∧
            (catalogue[i].kind = .event ∨ (s.cond.recs[i]).timer = none →
              t.cond.recs[i] =
                { s.cond.recs[i] with
                  state := .clear, last := some s.store.partTime, count := 0, persistent := false, burst := none,
                  first := none, timer := none }) ∧
            (k ≠ i → t.cond.recs[k] = s.cond.recs[k]) ∧
            t.cond.told = t.cond.inForce ∧
            t.port = (resolve h s).1.port.answered .ok [] ∧
            Changes [.cond, .port, .out, .revs] s t ∧ t.out = t.outputs) ∧
        ((s.cond.recs[i]).state = .clear ∨ (s.cond.recs[i]).state = .pending ∨ (s.cond.recs[i]).state = .acked →
          exec (.acknowledge h g) s = .next ((resolve h s).1.answered .state []))) ∧
      (Ready s →
      (3 < line → exec (.acknowledgeLine line) s = .next (s.answered .range [])) ∧
        (line ≤ 3 → Judged s → StaggerRuns s ∨ s.shedServiceInForce = false →
          ∃ t, exec (.acknowledgeLine line) s = .next t ∧
            ((s.cond.recs[k]).route = line →
              (s.cond.recs[k]).state = .active ∨ (s.cond.recs[k]).state = .latched →
              t.cond.recs[k] =
                ((s.cond.recs[k]).acknowledge catalogue[k].kind s.store.partTime).getD (s.cond.recs[k])) ∧
            ((s.cond.recs[k]).route ≠ line ∨
                (s.cond.recs[k]).state ≠ .active ∧ (s.cond.recs[k]).state ≠ .latched →
              t.cond.recs[k] = s.cond.recs[k]) ∧
            t.cond.told = t.cond.inForce ∧
            t.port = s.port.answered .ok [countByte (s.lineRecords line).length] ∧
            Changes [.cond, .port, .out, .revs] s t ∧ t.out = t.outputs))

/-- A record's timer expires: an onset delay in PENDING or LATCHED makes the record ACTIVE with
an onset; a repeat interval ends and nothing else changes. -/
def Obligations.ConditionTimersExpire : Prop :=
  ∀ (s : State) (i : Fin 32),
    Between s →
    Judged s →
    (s.cond.recs[i]).timer.isSome = true →
    (catalogue[i].kind = .level → (s.cond.recs[i]).state = .pending ∨ (s.cond.recs[i]).state = .latched →
        ∃ t, exec (.onsetDelayExpiry i) s = .next t ∧
          t.cond.recs[i] =
            { { s.cond.recs[i] with timer := none }.onset s.onsetArgs with state := .active } ∧
          Changes [.app, .conv, .cool, .align, .routes, .yaw, .cond, .out, .revs] s t) ∧
      (catalogue[i].kind = .event →
        ∃ t, exec (.repeatIntervalExpiry i) s = .next t ∧
          Changes [.revs] ((s.setRec i { s.cond.recs[i] with timer := none }).drive) t)

/-- A second of part time, from 2147483647 to 0; it stays at 0 while a cold reset is held. No revision moves. -/
def Obligations.PartTimeTicks : Prop :=
  ∀ (s : State),
    (s.hold.map (·.kind) ≠ some .cold →
        exec .partTimeTick s =
          .next { s with store :=
            { s.store with
              partTime := if s.store.partTime < 2147483647 then s.store.partTime + 1 else (s.store.partTime + 1) % 2147483648
              secondLeft := 1000 } }) ∧
      (s.hold.map (·.kind) = some .cold → exec .partTimeTick s = .next s)

/-! ### Resets -/

/-- POWER_UP is a cold reset that ends at POWER_UP_SEQUENCE_COMPLETE, or, with RESETn asserted, at its release. Every block
is left as its rule says (`ResetLeaves`): the condition records as R168 and R169 have them, with the reports of the end of
the reset taken; both windows open with count and sum 0 and their timers started, their marks set (log 17). After a cold
reset every revision is 0, and 1 for the condition records that those reports move (log 9). With GATE_FAULT inactive the
records after POWER_UP are the catalogue's with METER_STALE and TWIST_UNKNOWN ACTIVE and the five ZONE_HOT PENDING.
RESETn makes a cold reset with WARMSEL low and a warm one with WARMSEL high, which holds the part until its release. A warm
reset moves a record's revision by one if a held field differs from before it, and keeps it otherwise.
The model's choices: the Vmin of the ride-through term and the zones' targets at 0 (log 8), the decay timer at 10 ms (log
25), a second assertion without effect (log 6). -/
def Obligations.ResetsLeave : Prop :=
  ∀ (s : State) (table index : Nat),
    ((∃ t, exec (.powerUp false) s = .next t ∧ t.hold.isSome = true ∧ t.out = t.outputs ∧
          ∃ u, exec .powerUpSequenceComplete t = .next u ∧ ResetLeaves .cold .coldPower s u ∧
            (table ≠ 10 → u.revision table index = 0) ∧
            (s.inputs.raw.gateFault = false →
              u.cond.recs = resetRecords ∧ u.cond.told = u.cond.inForce ∧ u.tripInForce = true ∧
                u.inhibitInForce = true ∧ u.suppressInForce = true ∧ u.holdInForce = false ∧
                u.shedServiceInForce = false)) ∧
        ∃ t, exec (.powerUp true) s = .next t ∧ exec .powerUpSequenceComplete t = .next t ∧
          ∃ u, exec .resetnRelease t = .next u ∧ ResetLeaves .cold .coldPower s u) ∧
      (s.hold = none →
      s.inputs.resetn = false →
      ∃ t, exec .resetnAssert s = .next t ∧ t.hold.isSome = true ∧ t.out = t.outputs ∧
        t.out.dischargeK = true ∧ t.out.mainK = false ∧ t.out.pulsePermit = false ∧ t.out.yawCw = false ∧
        t.out.yawCcw = false ∧ t.out.brakeRelease = false ∧
        exec .resetnAssert t = .next t ∧
        ∃ u, exec .resetnRelease t = .next u ∧
          (s.inputs.warmsel = false → ResetLeaves .cold .coldLine s u) ∧
          (s.inputs.warmsel = true →
            ResetLeaves .warm .warmLine s u ∧
              (RevisionsKept s → table < 11 → index < tableCount table →
                u.revision table index =
                  if s.heldOf table index = u.heldOf table index then s.revision table index
                  else (s.revision table index + 1) % 256)))
end

