-- ==== Sys2Proof/Laws/State.lean ====
section
/-!
SUPPORT. What the named updates of the state leave: one lemma for each field an update does not touch, and what it puts
in the field it does.
-/
namespace Sys2Proof.Machine

/-! `setZone` -/

@[simp] theorem setZone_store (s : State) (z : Zone) (r : ZoneRec) : (s.setZone z r).store = s.store := rfl
@[simp] theorem setZone_revs (s : State) (z : Zone) (r : ZoneRec) : (s.setZone z r).revs = s.revs := rfl
@[simp] theorem setZone_port (s : State) (z : Zone) (r : ZoneRec) : (s.setZone z r).port = s.port := rfl
@[simp] theorem setZone_meter (s : State) (z : Zone) (r : ZoneRec) : (s.setZone z r).meter = s.meter := rfl
@[simp] theorem setZone_inputs (s : State) (z : Zone) (r : ZoneRec) : (s.setZone z r).inputs = s.inputs := rfl
@[simp] theorem setZone_app (s : State) (z : Zone) (r : ZoneRec) : (s.setZone z r).app = s.app := rfl
@[simp] theorem setZone_supply (s : State) (z : Zone) (r : ZoneRec) : (s.setZone z r).supply = s.supply := rfl
@[simp] theorem setZone_conv (s : State) (z : Zone) (r : ZoneRec) : (s.setZone z r).conv = s.conv := rfl
@[simp] theorem setZone_align (s : State) (z : Zone) (r : ZoneRec) : (s.setZone z r).align = s.align := rfl
@[simp] theorem setZone_routes (s : State) (z : Zone) (r : ZoneRec) : (s.setZone z r).routes = s.routes := rfl
@[simp] theorem setZone_yaw (s : State) (z : Zone) (r : ZoneRec) : (s.setZone z r).yaw = s.yaw := rfl
@[simp] theorem setZone_cond (s : State) (z : Zone) (r : ZoneRec) : (s.setZone z r).cond = s.cond := rfl
@[simp] theorem setZone_out (s : State) (z : Zone) (r : ZoneRec) : (s.setZone z r).out = s.out := rfl
@[simp] theorem setZone_hold (s : State) (z : Zone) (r : ZoneRec) : (s.setZone z r).hold = s.hold := rfl
@[simp] theorem setZone_ev (s : State) (z : Zone) (r : ZoneRec) : (s.setZone z r).ev = s.ev := rfl
@[simp] theorem setZone_choices (s : State) (z : Zone) (r : ZoneRec) : (s.setZone z r).choices = s.choices := rfl
@[simp] theorem setZone_pending (s : State) (z : Zone) (r : ZoneRec) : (s.setZone z r).pending = s.pending := rfl

/-! `setFlow` -/

@[simp] theorem setFlow_store (s : State) (p : Pump) (f : FlowCheck) : (s.setFlow p f).store = s.store := rfl
@[simp] theorem setFlow_revs (s : State) (p : Pump) (f : FlowCheck) : (s.setFlow p f).revs = s.revs := rfl
@[simp] theorem setFlow_port (s : State) (p : Pump) (f : FlowCheck) : (s.setFlow p f).port = s.port := rfl
@[simp] theorem setFlow_meter (s : State) (p : Pump) (f : FlowCheck) : (s.setFlow p f).meter = s.meter := rfl
@[simp] theorem setFlow_inputs (s : State) (p : Pump) (f : FlowCheck) : (s.setFlow p f).inputs = s.inputs := rfl
@[simp] theorem setFlow_app (s : State) (p : Pump) (f : FlowCheck) : (s.setFlow p f).app = s.app := rfl
@[simp] theorem setFlow_supply (s : State) (p : Pump) (f : FlowCheck) : (s.setFlow p f).supply = s.supply := rfl
@[simp] theorem setFlow_conv (s : State) (p : Pump) (f : FlowCheck) : (s.setFlow p f).conv = s.conv := rfl
@[simp] theorem setFlow_align (s : State) (p : Pump) (f : FlowCheck) : (s.setFlow p f).align = s.align := rfl
@[simp] theorem setFlow_routes (s : State) (p : Pump) (f : FlowCheck) : (s.setFlow p f).routes = s.routes := rfl
@[simp] theorem setFlow_yaw (s : State) (p : Pump) (f : FlowCheck) : (s.setFlow p f).yaw = s.yaw := rfl
@[simp] theorem setFlow_cond (s : State) (p : Pump) (f : FlowCheck) : (s.setFlow p f).cond = s.cond := rfl
@[simp] theorem setFlow_out (s : State) (p : Pump) (f : FlowCheck) : (s.setFlow p f).out = s.out := rfl
@[simp] theorem setFlow_hold (s : State) (p : Pump) (f : FlowCheck) : (s.setFlow p f).hold = s.hold := rfl
@[simp] theorem setFlow_ev (s : State) (p : Pump) (f : FlowCheck) : (s.setFlow p f).ev = s.ev := rfl
@[simp] theorem setFlow_choices (s : State) (p : Pump) (f : FlowCheck) : (s.setFlow p f).choices = s.choices := rfl
@[simp] theorem setFlow_pending (s : State) (p : Pump) (f : FlowCheck) : (s.setFlow p f).pending = s.pending := rfl

/-! `setRec` -/

@[simp] theorem setRec_store (s : State) (i : Fin 32) (r : CondRec) : (s.setRec i r).store = s.store := rfl
@[simp] theorem setRec_revs (s : State) (i : Fin 32) (r : CondRec) : (s.setRec i r).revs = s.revs := rfl
@[simp] theorem setRec_port (s : State) (i : Fin 32) (r : CondRec) : (s.setRec i r).port = s.port := rfl
@[simp] theorem setRec_meter (s : State) (i : Fin 32) (r : CondRec) : (s.setRec i r).meter = s.meter := rfl
@[simp] theorem setRec_inputs (s : State) (i : Fin 32) (r : CondRec) : (s.setRec i r).inputs = s.inputs := rfl
@[simp] theorem setRec_app (s : State) (i : Fin 32) (r : CondRec) : (s.setRec i r).app = s.app := rfl
@[simp] theorem setRec_supply (s : State) (i : Fin 32) (r : CondRec) : (s.setRec i r).supply = s.supply := rfl
@[simp] theorem setRec_conv (s : State) (i : Fin 32) (r : CondRec) : (s.setRec i r).conv = s.conv := rfl
@[simp] theorem setRec_cool (s : State) (i : Fin 32) (r : CondRec) : (s.setRec i r).cool = s.cool := rfl
@[simp] theorem setRec_align (s : State) (i : Fin 32) (r : CondRec) : (s.setRec i r).align = s.align := rfl
@[simp] theorem setRec_routes (s : State) (i : Fin 32) (r : CondRec) : (s.setRec i r).routes = s.routes := rfl
@[simp] theorem setRec_yaw (s : State) (i : Fin 32) (r : CondRec) : (s.setRec i r).yaw = s.yaw := rfl
@[simp] theorem setRec_out (s : State) (i : Fin 32) (r : CondRec) : (s.setRec i r).out = s.out := rfl
@[simp] theorem setRec_hold (s : State) (i : Fin 32) (r : CondRec) : (s.setRec i r).hold = s.hold := rfl
@[simp] theorem setRec_ev (s : State) (i : Fin 32) (r : CondRec) : (s.setRec i r).ev = s.ev := rfl
@[simp] theorem setRec_choices (s : State) (i : Fin 32) (r : CondRec) : (s.setRec i r).choices = s.choices := rfl
@[simp] theorem setRec_pending (s : State) (i : Fin 32) (r : CondRec) : (s.setRec i r).pending = s.pending := rfl

/-! `setRoute` -/

@[simp] theorem setRoute_store (s : State) (i : Fin 6) (r : Route) : (s.setRoute i r).store = s.store := rfl
@[simp] theorem setRoute_revs (s : State) (i : Fin 6) (r : Route) : (s.setRoute i r).revs = s.revs := rfl
@[simp] theorem setRoute_port (s : State) (i : Fin 6) (r : Route) : (s.setRoute i r).port = s.port := rfl
@[simp] theorem setRoute_meter (s : State) (i : Fin 6) (r : Route) : (s.setRoute i r).meter = s.meter := rfl
@[simp] theorem setRoute_inputs (s : State) (i : Fin 6) (r : Route) : (s.setRoute i r).inputs = s.inputs := rfl
@[simp] theorem setRoute_app (s : State) (i : Fin 6) (r : Route) : (s.setRoute i r).app = s.app := rfl
@[simp] theorem setRoute_supply (s : State) (i : Fin 6) (r : Route) : (s.setRoute i r).supply = s.supply := rfl
@[simp] theorem setRoute_conv (s : State) (i : Fin 6) (r : Route) : (s.setRoute i r).conv = s.conv := rfl
@[simp] theorem setRoute_cool (s : State) (i : Fin 6) (r : Route) : (s.setRoute i r).cool = s.cool := rfl
@[simp] theorem setRoute_align (s : State) (i : Fin 6) (r : Route) : (s.setRoute i r).align = s.align := rfl
@[simp] theorem setRoute_yaw (s : State) (i : Fin 6) (r : Route) : (s.setRoute i r).yaw = s.yaw := rfl
@[simp] theorem setRoute_cond (s : State) (i : Fin 6) (r : Route) : (s.setRoute i r).cond = s.cond := rfl
@[simp] theorem setRoute_out (s : State) (i : Fin 6) (r : Route) : (s.setRoute i r).out = s.out := rfl
@[simp] theorem setRoute_hold (s : State) (i : Fin 6) (r : Route) : (s.setRoute i r).hold = s.hold := rfl
@[simp] theorem setRoute_ev (s : State) (i : Fin 6) (r : Route) : (s.setRoute i r).ev = s.ev := rfl
@[simp] theorem setRoute_choices (s : State) (i : Fin 6) (r : Route) : (s.setRoute i r).choices = s.choices := rfl
@[simp] theorem setRoute_pending (s : State) (i : Fin 6) (r : Route) : (s.setRoute i r).pending = s.pending := rfl

/-! `setSegment` -/

@[simp] theorem setSegment_store (s : State) (i : Fin 24) (g : Option Segment) : (s.setSegment i g).store = s.store := rfl
@[simp] theorem setSegment_revs (s : State) (i : Fin 24) (g : Option Segment) : (s.setSegment i g).revs = s.revs := rfl
@[simp] theorem setSegment_port (s : State) (i : Fin 24) (g : Option Segment) : (s.setSegment i g).port = s.port := rfl
@[simp] theorem setSegment_meter (s : State) (i : Fin 24) (g : Option Segment) : (s.setSegment i g).meter = s.meter := rfl
@[simp] theorem setSegment_inputs (s : State) (i : Fin 24) (g : Option Segment) : (s.setSegment i g).inputs = s.inputs := rfl
@[simp] theorem setSegment_app (s : State) (i : Fin 24) (g : Option Segment) : (s.setSegment i g).app = s.app := rfl
@[simp] theorem setSegment_supply (s : State) (i : Fin 24) (g : Option Segment) : (s.setSegment i g).supply = s.supply := rfl
@[simp] theorem setSegment_conv (s : State) (i : Fin 24) (g : Option Segment) : (s.setSegment i g).conv = s.conv := rfl
@[simp] theorem setSegment_cool (s : State) (i : Fin 24) (g : Option Segment) : (s.setSegment i g).cool = s.cool := rfl
@[simp] theorem setSegment_align (s : State) (i : Fin 24) (g : Option Segment) : (s.setSegment i g).align = s.align := rfl
@[simp] theorem setSegment_yaw (s : State) (i : Fin 24) (g : Option Segment) : (s.setSegment i g).yaw = s.yaw := rfl
@[simp] theorem setSegment_cond (s : State) (i : Fin 24) (g : Option Segment) : (s.setSegment i g).cond = s.cond := rfl
@[simp] theorem setSegment_out (s : State) (i : Fin 24) (g : Option Segment) : (s.setSegment i g).out = s.out := rfl
@[simp] theorem setSegment_hold (s : State) (i : Fin 24) (g : Option Segment) : (s.setSegment i g).hold = s.hold := rfl
@[simp] theorem setSegment_ev (s : State) (i : Fin 24) (g : Option Segment) : (s.setSegment i g).ev = s.ev := rfl
@[simp] theorem setSegment_choices (s : State) (i : Fin 24) (g : Option Segment) : (s.setSegment i g).choices = s.choices := rfl
@[simp] theorem setSegment_pending (s : State) (i : Fin 24) (g : Option Segment) : (s.setSegment i g).pending = s.pending := rfl

/-! `claimEvent` -/

@[simp] theorem claimEvent_store (s : State) : (s.claimEvent).store = s.store := rfl
@[simp] theorem claimEvent_revs (s : State) : (s.claimEvent).revs = s.revs := rfl
@[simp] theorem claimEvent_port (s : State) : (s.claimEvent).port = s.port := rfl
@[simp] theorem claimEvent_meter (s : State) : (s.claimEvent).meter = s.meter := rfl
@[simp] theorem claimEvent_inputs (s : State) : (s.claimEvent).inputs = s.inputs := rfl
@[simp] theorem claimEvent_app (s : State) : (s.claimEvent).app = s.app := rfl
@[simp] theorem claimEvent_supply (s : State) : (s.claimEvent).supply = s.supply := rfl
@[simp] theorem claimEvent_conv (s : State) : (s.claimEvent).conv = s.conv := rfl
@[simp] theorem claimEvent_cool (s : State) : (s.claimEvent).cool = s.cool := rfl
@[simp] theorem claimEvent_align (s : State) : (s.claimEvent).align = s.align := rfl
@[simp] theorem claimEvent_routes (s : State) : (s.claimEvent).routes = s.routes := rfl
@[simp] theorem claimEvent_yaw (s : State) : (s.claimEvent).yaw = s.yaw := rfl
@[simp] theorem claimEvent_cond (s : State) : (s.claimEvent).cond = s.cond := rfl
@[simp] theorem claimEvent_out (s : State) : (s.claimEvent).out = s.out := rfl
@[simp] theorem claimEvent_hold (s : State) : (s.claimEvent).hold = s.hold := rfl
@[simp] theorem claimEvent_choices (s : State) : (s.claimEvent).choices = s.choices := rfl
@[simp] theorem claimEvent_pending (s : State) : (s.claimEvent).pending = s.pending := rfl

/-! `noteActuators` -/

@[simp] theorem noteActuators_store (s : State) (zs : List Zone) : (s.noteActuators zs).store = s.store := rfl
@[simp] theorem noteActuators_revs (s : State) (zs : List Zone) : (s.noteActuators zs).revs = s.revs := rfl
@[simp] theorem noteActuators_port (s : State) (zs : List Zone) : (s.noteActuators zs).port = s.port := rfl
@[simp] theorem noteActuators_meter (s : State) (zs : List Zone) : (s.noteActuators zs).meter = s.meter := rfl
@[simp] theorem noteActuators_inputs (s : State) (zs : List Zone) : (s.noteActuators zs).inputs = s.inputs := rfl
@[simp] theorem noteActuators_app (s : State) (zs : List Zone) : (s.noteActuators zs).app = s.app := rfl
@[simp] theorem noteActuators_supply (s : State) (zs : List Zone) : (s.noteActuators zs).supply = s.supply := rfl
@[simp] theorem noteActuators_conv (s : State) (zs : List Zone) : (s.noteActuators zs).conv = s.conv := rfl
@[simp] theorem noteActuators_cool (s : State) (zs : List Zone) : (s.noteActuators zs).cool = s.cool := rfl
@[simp] theorem noteActuators_align (s : State) (zs : List Zone) : (s.noteActuators zs).align = s.align := rfl
@[simp] theorem noteActuators_routes (s : State) (zs : List Zone) : (s.noteActuators zs).routes = s.routes := rfl
@[simp] theorem noteActuators_yaw (s : State) (zs : List Zone) : (s.noteActuators zs).yaw = s.yaw := rfl
@[simp] theorem noteActuators_cond (s : State) (zs : List Zone) : (s.noteActuators zs).cond = s.cond := rfl
@[simp] theorem noteActuators_out (s : State) (zs : List Zone) : (s.noteActuators zs).out = s.out := rfl
@[simp] theorem noteActuators_hold (s : State) (zs : List Zone) : (s.noteActuators zs).hold = s.hold := rfl
@[simp] theorem noteActuators_choices (s : State) (zs : List Zone) : (s.noteActuators zs).choices = s.choices := rfl
@[simp] theorem noteActuators_pending (s : State) (zs : List Zone) : (s.noteActuators zs).pending = s.pending := rfl

/-! `noteZeroHolds` -/

@[simp] theorem noteZeroHolds_store (b s : State) (zs : List Zone) : (State.noteZeroHolds b zs s).store = s.store := rfl
@[simp] theorem noteZeroHolds_revs (b s : State) (zs : List Zone) : (State.noteZeroHolds b zs s).revs = s.revs := rfl
@[simp] theorem noteZeroHolds_port (b s : State) (zs : List Zone) : (State.noteZeroHolds b zs s).port = s.port := rfl
@[simp] theorem noteZeroHolds_meter (b s : State) (zs : List Zone) : (State.noteZeroHolds b zs s).meter = s.meter := rfl
@[simp] theorem noteZeroHolds_inputs (b s : State) (zs : List Zone) : (State.noteZeroHolds b zs s).inputs = s.inputs := rfl
@[simp] theorem noteZeroHolds_app (b s : State) (zs : List Zone) : (State.noteZeroHolds b zs s).app = s.app := rfl
@[simp] theorem noteZeroHolds_supply (b s : State) (zs : List Zone) : (State.noteZeroHolds b zs s).supply = s.supply := rfl
@[simp] theorem noteZeroHolds_conv (b s : State) (zs : List Zone) : (State.noteZeroHolds b zs s).conv = s.conv := rfl
@[simp] theorem noteZeroHolds_cool (b s : State) (zs : List Zone) : (State.noteZeroHolds b zs s).cool = s.cool := rfl
@[simp] theorem noteZeroHolds_align (b s : State) (zs : List Zone) : (State.noteZeroHolds b zs s).align = s.align := rfl
@[simp] theorem noteZeroHolds_routes (b s : State) (zs : List Zone) : (State.noteZeroHolds b zs s).routes = s.routes := rfl
@[simp] theorem noteZeroHolds_yaw (b s : State) (zs : List Zone) : (State.noteZeroHolds b zs s).yaw = s.yaw := rfl
@[simp] theorem noteZeroHolds_cond (b s : State) (zs : List Zone) : (State.noteZeroHolds b zs s).cond = s.cond := rfl
@[simp] theorem noteZeroHolds_out (b s : State) (zs : List Zone) : (State.noteZeroHolds b zs s).out = s.out := rfl
@[simp] theorem noteZeroHolds_hold (b s : State) (zs : List Zone) : (State.noteZeroHolds b zs s).hold = s.hold := rfl
@[simp] theorem noteZeroHolds_choices (b s : State) (zs : List Zone) : (State.noteZeroHolds b zs s).choices = s.choices := rfl
@[simp] theorem noteZeroHolds_pending (b s : State) (zs : List Zone) : (State.noteZeroHolds b zs s).pending = s.pending := rfl

/-! `shiftOut` -/

@[simp] theorem shiftOut_store (s : State) (b : Option (List Byte)) : (s.shiftOut b).store = s.store := rfl
@[simp] theorem shiftOut_revs (s : State) (b : Option (List Byte)) : (s.shiftOut b).revs = s.revs := rfl
@[simp] theorem shiftOut_meter (s : State) (b : Option (List Byte)) : (s.shiftOut b).meter = s.meter := rfl
@[simp] theorem shiftOut_inputs (s : State) (b : Option (List Byte)) : (s.shiftOut b).inputs = s.inputs := rfl
@[simp] theorem shiftOut_app (s : State) (b : Option (List Byte)) : (s.shiftOut b).app = s.app := rfl
@[simp] theorem shiftOut_supply (s : State) (b : Option (List Byte)) : (s.shiftOut b).supply = s.supply := rfl
@[simp] theorem shiftOut_conv (s : State) (b : Option (List Byte)) : (s.shiftOut b).conv = s.conv := rfl
@[simp] theorem shiftOut_cool (s : State) (b : Option (List Byte)) : (s.shiftOut b).cool = s.cool := rfl
@[simp] theorem shiftOut_align (s : State) (b : Option (List Byte)) : (s.shiftOut b).align = s.align := rfl
@[simp] theorem shiftOut_routes (s : State) (b : Option (List Byte)) : (s.shiftOut b).routes = s.routes := rfl
@[simp] theorem shiftOut_yaw (s : State) (b : Option (List Byte)) : (s.shiftOut b).yaw = s.yaw := rfl
@[simp] theorem shiftOut_cond (s : State) (b : Option (List Byte)) : (s.shiftOut b).cond = s.cond := rfl
@[simp] theorem shiftOut_out (s : State) (b : Option (List Byte)) : (s.shiftOut b).out = s.out := rfl
@[simp] theorem shiftOut_hold (s : State) (b : Option (List Byte)) : (s.shiftOut b).hold = s.hold := rfl
@[simp] theorem shiftOut_ev (s : State) (b : Option (List Byte)) : (s.shiftOut b).ev = s.ev := rfl
@[simp] theorem shiftOut_choices (s : State) (b : Option (List Byte)) : (s.shiftOut b).choices = s.choices := rfl
@[simp] theorem shiftOut_pending (s : State) (b : Option (List Byte)) : (s.shiftOut b).pending = s.pending := rfl

/-! `setConverter` -/

@[simp] theorem setConverter_store (s : State) (c : ConverterState) : (State.setConverter c s).store = s.store := rfl
@[simp] theorem setConverter_revs (s : State) (c : ConverterState) : (State.setConverter c s).revs = s.revs := rfl
@[simp] theorem setConverter_port (s : State) (c : ConverterState) : (State.setConverter c s).port = s.port := rfl
@[simp] theorem setConverter_meter (s : State) (c : ConverterState) : (State.setConverter c s).meter = s.meter := rfl
@[simp] theorem setConverter_inputs (s : State) (c : ConverterState) : (State.setConverter c s).inputs = s.inputs := rfl
@[simp] theorem setConverter_app (s : State) (c : ConverterState) : (State.setConverter c s).app = s.app := rfl
@[simp] theorem setConverter_supply (s : State) (c : ConverterState) : (State.setConverter c s).supply = s.supply := rfl
@[simp] theorem setConverter_cool (s : State) (c : ConverterState) : (State.setConverter c s).cool = s.cool := rfl
@[simp] theorem setConverter_align (s : State) (c : ConverterState) : (State.setConverter c s).align = s.align := rfl
@[simp] theorem setConverter_routes (s : State) (c : ConverterState) : (State.setConverter c s).routes = s.routes := rfl
@[simp] theorem setConverter_yaw (s : State) (c : ConverterState) : (State.setConverter c s).yaw = s.yaw := rfl
@[simp] theorem setConverter_cond (s : State) (c : ConverterState) : (State.setConverter c s).cond = s.cond := rfl
@[simp] theorem setConverter_out (s : State) (c : ConverterState) : (State.setConverter c s).out = s.out := rfl
@[simp] theorem setConverter_hold (s : State) (c : ConverterState) : (State.setConverter c s).hold = s.hold := rfl
@[simp] theorem setConverter_ev (s : State) (c : ConverterState) : (State.setConverter c s).ev = s.ev := rfl
@[simp] theorem setConverter_choices (s : State) (c : ConverterState) : (State.setConverter c s).choices = s.choices := rfl
@[simp] theorem setConverter_pending (s : State) (c : ConverterState) : (State.setConverter c s).pending = s.pending := rfl

/-! `enterTripped` -/

@[simp] theorem enterTripped_store (s : State) : (s.enterTripped).store = s.store := rfl
@[simp] theorem enterTripped_revs (s : State) : (s.enterTripped).revs = s.revs := rfl
@[simp] theorem enterTripped_port (s : State) : (s.enterTripped).port = s.port := rfl
@[simp] theorem enterTripped_meter (s : State) : (s.enterTripped).meter = s.meter := rfl
@[simp] theorem enterTripped_inputs (s : State) : (s.enterTripped).inputs = s.inputs := rfl
@[simp] theorem enterTripped_app (s : State) : (s.enterTripped).app = s.app := rfl
@[simp] theorem enterTripped_supply (s : State) : (s.enterTripped).supply = s.supply := rfl
@[simp] theorem enterTripped_cool (s : State) : (s.enterTripped).cool = s.cool := rfl
@[simp] theorem enterTripped_align (s : State) : (s.enterTripped).align = s.align := rfl
@[simp] theorem enterTripped_routes (s : State) : (s.enterTripped).routes = s.routes := rfl
@[simp] theorem enterTripped_yaw (s : State) : (s.enterTripped).yaw = s.yaw := rfl
@[simp] theorem enterTripped_cond (s : State) : (s.enterTripped).cond = s.cond := rfl
@[simp] theorem enterTripped_out (s : State) : (s.enterTripped).out = s.out := rfl
@[simp] theorem enterTripped_hold (s : State) : (s.enterTripped).hold = s.hold := rfl
@[simp] theorem enterTripped_choices (s : State) : (s.enterTripped).choices = s.choices := rfl
@[simp] theorem enterTripped_pending (s : State) : (s.enterTripped).pending = s.pending := rfl

/-! `putSetting` -/

@[simp] theorem putSetting_revs (s : State) (k : Fin 86) (v : Nat) : (State.putSetting k v s).revs = s.revs := rfl
@[simp] theorem putSetting_port (s : State) (k : Fin 86) (v : Nat) : (State.putSetting k v s).port = s.port := rfl
@[simp] theorem putSetting_meter (s : State) (k : Fin 86) (v : Nat) : (State.putSetting k v s).meter = s.meter := rfl
@[simp] theorem putSetting_inputs (s : State) (k : Fin 86) (v : Nat) : (State.putSetting k v s).inputs = s.inputs := rfl
@[simp] theorem putSetting_app (s : State) (k : Fin 86) (v : Nat) : (State.putSetting k v s).app = s.app := rfl
@[simp] theorem putSetting_supply (s : State) (k : Fin 86) (v : Nat) : (State.putSetting k v s).supply = s.supply := rfl
@[simp] theorem putSetting_conv (s : State) (k : Fin 86) (v : Nat) : (State.putSetting k v s).conv = s.conv := rfl
@[simp] theorem putSetting_cool (s : State) (k : Fin 86) (v : Nat) : (State.putSetting k v s).cool = s.cool := rfl
@[simp] theorem putSetting_align (s : State) (k : Fin 86) (v : Nat) : (State.putSetting k v s).align = s.align := rfl
@[simp] theorem putSetting_routes (s : State) (k : Fin 86) (v : Nat) : (State.putSetting k v s).routes = s.routes := rfl
@[simp] theorem putSetting_yaw (s : State) (k : Fin 86) (v : Nat) : (State.putSetting k v s).yaw = s.yaw := rfl
@[simp] theorem putSetting_cond (s : State) (k : Fin 86) (v : Nat) : (State.putSetting k v s).cond = s.cond := rfl
@[simp] theorem putSetting_out (s : State) (k : Fin 86) (v : Nat) : (State.putSetting k v s).out = s.out := rfl
@[simp] theorem putSetting_hold (s : State) (k : Fin 86) (v : Nat) : (State.putSetting k v s).hold = s.hold := rfl
@[simp] theorem putSetting_ev (s : State) (k : Fin 86) (v : Nat) : (State.putSetting k v s).ev = s.ev := rfl
@[simp] theorem putSetting_choices (s : State) (k : Fin 86) (v : Nat) : (State.putSetting k v s).choices = s.choices := rfl
@[simp] theorem putSetting_pending (s : State) (k : Fin 86) (v : Nat) : (State.putSetting k v s).pending = s.pending := rfl

/-! `takeRoute` -/

@[simp] theorem takeRoute_store (s : State) (r : Fin 6) : (State.takeRoute r s).store = s.store := rfl
@[simp] theorem takeRoute_revs (s : State) (r : Fin 6) : (State.takeRoute r s).revs = s.revs := rfl
@[simp] theorem takeRoute_port (s : State) (r : Fin 6) : (State.takeRoute r s).port = s.port := rfl
@[simp] theorem takeRoute_meter (s : State) (r : Fin 6) : (State.takeRoute r s).meter = s.meter := rfl
@[simp] theorem takeRoute_inputs (s : State) (r : Fin 6) : (State.takeRoute r s).inputs = s.inputs := rfl
@[simp] theorem takeRoute_app (s : State) (r : Fin 6) : (State.takeRoute r s).app = s.app := rfl
@[simp] theorem takeRoute_supply (s : State) (r : Fin 6) : (State.takeRoute r s).supply = s.supply := rfl
@[simp] theorem takeRoute_conv (s : State) (r : Fin 6) : (State.takeRoute r s).conv = s.conv := rfl
@[simp] theorem takeRoute_cool (s : State) (r : Fin 6) : (State.takeRoute r s).cool = s.cool := rfl
@[simp] theorem takeRoute_align (s : State) (r : Fin 6) : (State.takeRoute r s).align = s.align := rfl
@[simp] theorem takeRoute_routes (s : State) (r : Fin 6) : (State.takeRoute r s).routes = s.routes := rfl
@[simp] theorem takeRoute_cond (s : State) (r : Fin 6) : (State.takeRoute r s).cond = s.cond := rfl
@[simp] theorem takeRoute_out (s : State) (r : Fin 6) : (State.takeRoute r s).out = s.out := rfl
@[simp] theorem takeRoute_hold (s : State) (r : Fin 6) : (State.takeRoute r s).hold = s.hold := rfl
@[simp] theorem takeRoute_ev (s : State) (r : Fin 6) : (State.takeRoute r s).ev = s.ev := rfl
@[simp] theorem takeRoute_choices (s : State) (r : Fin 6) : (State.takeRoute r s).choices = s.choices := rfl
@[simp] theorem takeRoute_pending (s : State) (r : Fin 6) : (State.takeRoute r s).pending = s.pending := rfl

/-! `startClaimWait` -/

@[simp] theorem startClaimWait_store (s : State) : (s.startClaimWait).store = s.store := rfl
@[simp] theorem startClaimWait_revs (s : State) : (s.startClaimWait).revs = s.revs := rfl
@[simp] theorem startClaimWait_port (s : State) : (s.startClaimWait).port = s.port := rfl
@[simp] theorem startClaimWait_meter (s : State) : (s.startClaimWait).meter = s.meter := rfl
@[simp] theorem startClaimWait_inputs (s : State) : (s.startClaimWait).inputs = s.inputs := rfl
@[simp] theorem startClaimWait_app (s : State) : (s.startClaimWait).app = s.app := rfl
@[simp] theorem startClaimWait_supply (s : State) : (s.startClaimWait).supply = s.supply := rfl
@[simp] theorem startClaimWait_conv (s : State) : (s.startClaimWait).conv = s.conv := rfl
@[simp] theorem startClaimWait_cool (s : State) : (s.startClaimWait).cool = s.cool := rfl
@[simp] theorem startClaimWait_align (s : State) : (s.startClaimWait).align = s.align := rfl
@[simp] theorem startClaimWait_routes (s : State) : (s.startClaimWait).routes = s.routes := rfl
@[simp] theorem startClaimWait_cond (s : State) : (s.startClaimWait).cond = s.cond := rfl
@[simp] theorem startClaimWait_out (s : State) : (s.startClaimWait).out = s.out := rfl
@[simp] theorem startClaimWait_hold (s : State) : (s.startClaimWait).hold = s.hold := rfl
@[simp] theorem startClaimWait_ev (s : State) : (s.startClaimWait).ev = s.ev := rfl
@[simp] theorem startClaimWait_choices (s : State) : (s.startClaimWait).choices = s.choices := rfl
@[simp] theorem startClaimWait_pending (s : State) : (s.startClaimWait).pending = s.pending := rfl

/-! `openWindows` -/

@[simp] theorem openWindows_store (s : State) : (s.openWindows).store = s.store := rfl
@[simp] theorem openWindows_revs (s : State) : (s.openWindows).revs = s.revs := rfl
@[simp] theorem openWindows_port (s : State) : (s.openWindows).port = s.port := rfl
@[simp] theorem openWindows_meter (s : State) : (s.openWindows).meter = s.meter := rfl
@[simp] theorem openWindows_inputs (s : State) : (s.openWindows).inputs = s.inputs := rfl
@[simp] theorem openWindows_app (s : State) : (s.openWindows).app = s.app := rfl
@[simp] theorem openWindows_supply (s : State) : (s.openWindows).supply = s.supply := rfl
@[simp] theorem openWindows_conv (s : State) : (s.openWindows).conv = s.conv := rfl
@[simp] theorem openWindows_cool (s : State) : (s.openWindows).cool = s.cool := rfl
@[simp] theorem openWindows_routes (s : State) : (s.openWindows).routes = s.routes := rfl
@[simp] theorem openWindows_yaw (s : State) : (s.openWindows).yaw = s.yaw := rfl
@[simp] theorem openWindows_cond (s : State) : (s.openWindows).cond = s.cond := rfl
@[simp] theorem openWindows_out (s : State) : (s.openWindows).out = s.out := rfl
@[simp] theorem openWindows_hold (s : State) : (s.openWindows).hold = s.hold := rfl
@[simp] theorem openWindows_ev (s : State) : (s.openWindows).ev = s.ev := rfl
@[simp] theorem openWindows_choices (s : State) : (s.openWindows).choices = s.choices := rfl
@[simp] theorem openWindows_pending (s : State) : (s.openWindows).pending = s.pending := rfl

/-! `clearWindows` -/

@[simp] theorem clearWindows_store (s : State) : (s.clearWindows).store = s.store := rfl
@[simp] theorem clearWindows_revs (s : State) : (s.clearWindows).revs = s.revs := rfl
@[simp] theorem clearWindows_port (s : State) : (s.clearWindows).port = s.port := rfl
@[simp] theorem clearWindows_meter (s : State) : (s.clearWindows).meter = s.meter := rfl
@[simp] theorem clearWindows_inputs (s : State) : (s.clearWindows).inputs = s.inputs := rfl
@[simp] theorem clearWindows_app (s : State) : (s.clearWindows).app = s.app := rfl
@[simp] theorem clearWindows_supply (s : State) : (s.clearWindows).supply = s.supply := rfl
@[simp] theorem clearWindows_conv (s : State) : (s.clearWindows).conv = s.conv := rfl
@[simp] theorem clearWindows_cool (s : State) : (s.clearWindows).cool = s.cool := rfl
@[simp] theorem clearWindows_routes (s : State) : (s.clearWindows).routes = s.routes := rfl
@[simp] theorem clearWindows_yaw (s : State) : (s.clearWindows).yaw = s.yaw := rfl
@[simp] theorem clearWindows_cond (s : State) : (s.clearWindows).cond = s.cond := rfl
@[simp] theorem clearWindows_out (s : State) : (s.clearWindows).out = s.out := rfl
@[simp] theorem clearWindows_hold (s : State) : (s.clearWindows).hold = s.hold := rfl
@[simp] theorem clearWindows_ev (s : State) : (s.clearWindows).ev = s.ev := rfl
@[simp] theorem clearWindows_choices (s : State) : (s.clearWindows).choices = s.choices := rfl
@[simp] theorem clearWindows_pending (s : State) : (s.clearWindows).pending = s.pending := rfl

/-! `windows` -/

@[simp] theorem windows_store (s : State) (f : Window → Window) : (State.windows f s).store = s.store := rfl
@[simp] theorem windows_revs (s : State) (f : Window → Window) : (State.windows f s).revs = s.revs := rfl
@[simp] theorem windows_port (s : State) (f : Window → Window) : (State.windows f s).port = s.port := rfl
@[simp] theorem windows_meter (s : State) (f : Window → Window) : (State.windows f s).meter = s.meter := rfl
@[simp] theorem windows_inputs (s : State) (f : Window → Window) : (State.windows f s).inputs = s.inputs := rfl
@[simp] theorem windows_app (s : State) (f : Window → Window) : (State.windows f s).app = s.app := rfl
@[simp] theorem windows_supply (s : State) (f : Window → Window) : (State.windows f s).supply = s.supply := rfl
@[simp] theorem windows_conv (s : State) (f : Window → Window) : (State.windows f s).conv = s.conv := rfl
@[simp] theorem windows_cool (s : State) (f : Window → Window) : (State.windows f s).cool = s.cool := rfl
@[simp] theorem windows_routes (s : State) (f : Window → Window) : (State.windows f s).routes = s.routes := rfl
@[simp] theorem windows_yaw (s : State) (f : Window → Window) : (State.windows f s).yaw = s.yaw := rfl
@[simp] theorem windows_cond (s : State) (f : Window → Window) : (State.windows f s).cond = s.cond := rfl
@[simp] theorem windows_out (s : State) (f : Window → Window) : (State.windows f s).out = s.out := rfl
@[simp] theorem windows_hold (s : State) (f : Window → Window) : (State.windows f s).hold = s.hold := rfl
@[simp] theorem windows_ev (s : State) (f : Window → Window) : (State.windows f s).ev = s.ev := rfl
@[simp] theorem windows_choices (s : State) (f : Window → Window) : (State.windows f s).choices = s.choices := rfl
@[simp] theorem windows_pending (s : State) (f : Window → Window) : (State.windows f s).pending = s.pending := rfl

/-! `endComposition` -/

@[simp] theorem endComposition_store (s : State) : (s.endComposition).store = s.store := rfl
@[simp] theorem endComposition_revs (s : State) : (s.endComposition).revs = s.revs := rfl
@[simp] theorem endComposition_meter (s : State) : (s.endComposition).meter = s.meter := rfl
@[simp] theorem endComposition_inputs (s : State) : (s.endComposition).inputs = s.inputs := rfl
@[simp] theorem endComposition_app (s : State) : (s.endComposition).app = s.app := rfl
@[simp] theorem endComposition_supply (s : State) : (s.endComposition).supply = s.supply := rfl
@[simp] theorem endComposition_conv (s : State) : (s.endComposition).conv = s.conv := rfl
@[simp] theorem endComposition_cool (s : State) : (s.endComposition).cool = s.cool := rfl
@[simp] theorem endComposition_align (s : State) : (s.endComposition).align = s.align := rfl
@[simp] theorem endComposition_routes (s : State) : (s.endComposition).routes = s.routes := rfl
@[simp] theorem endComposition_yaw (s : State) : (s.endComposition).yaw = s.yaw := rfl
@[simp] theorem endComposition_cond (s : State) : (s.endComposition).cond = s.cond := rfl
@[simp] theorem endComposition_out (s : State) : (s.endComposition).out = s.out := rfl
@[simp] theorem endComposition_hold (s : State) : (s.endComposition).hold = s.hold := rfl
@[simp] theorem endComposition_ev (s : State) : (s.endComposition).ev = s.ev := rfl
@[simp] theorem endComposition_choices (s : State) : (s.endComposition).choices = s.choices := rfl
@[simp] theorem endComposition_pending (s : State) : (s.endComposition).pending = s.pending := rfl

/-! What an update puts in its own field. -/

@[simp] theorem setZone_zones (s : State) (z : Zone) (r : ZoneRec) :
    (s.setZone z r).cool.zones = s.cool.zones.set z r := rfl
@[simp] theorem setZone_flow (s : State) (z : Zone) (r : ZoneRec) : (s.setZone z r).cool.flow = s.cool.flow := rfl
@[simp] theorem setFlow_flow (s : State) (p : Pump) (f : FlowCheck) : (s.setFlow p f).cool.flow = s.cool.flow.set p f := rfl
@[simp] theorem setFlow_zones (s : State) (p : Pump) (f : FlowCheck) : (s.setFlow p f).cool.zones = s.cool.zones := rfl
@[simp] theorem setRec_recs (s : State) (i : Fin 32) (r : CondRec) : (s.setRec i r).cond.recs = s.cond.recs.set i r := rfl
@[simp] theorem setRec_told (s : State) (i : Fin 32) (r : CondRec) : (s.setRec i r).cond.told = s.cond.told := rfl
@[simp] theorem setRoute_routes_routes (s : State) (i : Fin 6) (r : Route) :
    (s.setRoute i r).routes.routes = s.routes.routes.set i r := rfl
@[simp] theorem setRoute_segments (s : State) (i : Fin 6) (r : Route) :
    (s.setRoute i r).routes.segments = s.routes.segments := rfl
@[simp] theorem setSegment_segments (s : State) (i : Fin 24) (g : Option Segment) :
    (s.setSegment i g).routes.segments = s.routes.segments.set i g := rfl
@[simp] theorem setSegment_routes_routes (s : State) (i : Fin 24) (g : Option Segment) :
    (s.setSegment i g).routes.routes = s.routes.routes := rfl
@[simp] theorem noteActuators_actuators (s : State) (zs : List Zone) :
    (s.noteActuators zs).ev.actuators = s.ev.actuators ++ zs := rfl
@[simp] theorem noteActuators_flag (s : State) (zs : List Zone) :
    (s.noteActuators zs).ev.claimEvent = s.ev.claimEvent := rfl
@[simp] theorem noteActuators_tripped (s : State) (zs : List Zone) :
    (s.noteActuators zs).ev.tripped = s.ev.tripped := rfl
@[simp] theorem noteActuators_zeroHolds (s : State) (zs : List Zone) :
    (s.noteActuators zs).ev.zeroHolds = s.ev.zeroHolds := rfl
@[simp] theorem noteActuators_zeroStagger (s : State) (zs : List Zone) :
    (s.noteActuators zs).ev.zeroStagger = s.ev.zeroStagger := rfl
@[simp] theorem noteZeroHolds_zeroStagger (b s : State) (zs : List Zone) :
    (State.noteZeroHolds b zs s).ev.zeroStagger = s.ev.zeroStagger := rfl
@[simp] theorem claimEvent_zeroStagger (s : State) : s.claimEvent.ev.zeroStagger = s.ev.zeroStagger := rfl
@[simp] theorem apportionStarting_app (s : State) (f : Apportioner → Apportioner) :
    (s.apportionStarting f).app = (s.apportion f).app := rfl
@[simp] theorem apportionStarting_cond (s : State) (f : Apportioner → Apportioner) :
    (s.apportionStarting f).cond = (s.apportion f).cond := rfl
@[simp] theorem apportionStarting_zeroStagger (s : State) (f : Apportioner → Apportioner) :
    (s.apportionStarting f).ev.zeroStagger =
      ((s.apportion f).ev.zeroStagger || (f { s.app with stagger := none }).stagger == some 0) := rfl
@[simp] theorem noteZeroHolds_zeroHolds (b s : State) (zs : List Zone) :
    (State.noteZeroHolds b zs s).ev.zeroHolds = s.ev.zeroHolds ++ zs.filter (zeroHoldStarted b s) := rfl
@[simp] theorem noteZeroHolds_flag (b s : State) (zs : List Zone) :
    (State.noteZeroHolds b zs s).ev.claimEvent = s.ev.claimEvent := rfl
@[simp] theorem claimEvent_flag (s : State) : s.claimEvent.ev.claimEvent = true := rfl
@[simp] theorem claimEvent_tripped (s : State) : s.claimEvent.ev.tripped = s.ev.tripped := rfl
@[simp] theorem shiftOut_shiftedOut (s : State) (b : Option (List Byte)) : (s.shiftOut b).port.shiftedOut = b := rfl
@[simp] theorem setConverter_state (s : State) (c : ConverterState) : (State.setConverter c s).conv.state = c := rfl
@[simp] theorem enterTripped_state (s : State) : s.enterTripped.conv.state = .tripped := rfl

/-! Readings of the pieces indexed by names. -/

@[simp] theorem PerZone.get_set {α : Type} (p : PerZone α) (z w : Zone) (x : α) :
    (p.set z x).get w = if w = z then x else p.get w := by
  cases z <;> cases w <;> rfl

@[simp] theorem PerPump.get_set {α : Type} (p : PerPump α) (z w : Pump) (x : α) :
    (p.set z x).get w = if w = z then x else p.get w := by
  cases z <;> cases w <;> rfl

@[simp] theorem PerLine.get_set {α : Type} (p : PerLine α) (z w : Line) (x : α) :
    (p.set z x).get w = if w = z then x else p.get w := by
  cases z <;> cases w <;> rfl

@[simp] theorem PerZone.get_map {α β : Type} (f : α → β) (p : PerZone α) (z : Zone) :
    (p.map f).get z = f (p.get z) := by
  cases z <;> rfl

@[simp] theorem PerLine.get_map {α β : Type} (f : α → β) (p : PerLine α) (l : Line) :
    (p.map f).get l = f (p.get l) := by
  cases l <;> rfl

end Sys2Proof.Machine
end

