-- ==== Sys2Proof/Laws/Frames.lean ====
section
/-!
SUPPORT. For each shared operation, the pieces of the state it may touch, said once (`Changes`). A later proof cites the
lemma and reads off the pieces that stay.
-/
set_option Elab.async false

namespace Sys2Proof.Machine

/-! ### Combining -/

theorem Changes.refl (ps : List Piece) (s : State) : Changes ps s s := by
  intro p _; cases p <;> rfl

theorem Changes.trans {ps : List Piece} {s t u : State} (h : Changes ps s t) (k : Changes ps t u) :
    Changes ps s u := by
  intro p hp
  have a := h p hp
  have b := k p hp
  cases p <;> exact Eq.trans b a

theorem Changes.mono {ps qs : List Piece} {s t : State} (h : Changes ps s t) (sub : ps ⊆ qs := by decide) :
    Changes qs s t := fun p hp => h p (fun hm => hp (sub hm))

theorem Changes.foldl {α : Type} {ps : List Piece} {f : State → α → State} (hf : ∀ t x, Changes ps t (f t x))
    (l : List α) (s : State) : Changes ps s (l.foldl f s) := by
  induction l generalizing s with
  | nil => exact Changes.refl ps s
  | cons x l ih => exact (hf s x).trans (ih (f s x))

theorem Changes.ite {ps : List Piece} {s a b : State} {c : Prop} [Decidable c] (ha : Changes ps s a)
    (hb : Changes ps s b) : Changes ps s (if c then a else b) := by
  split <;> assumption

/-- What the Yaw Sequencer's engine may touch. -/
abbrev yawPieces : List Piece := [.yaw, .routes, .align, .app, .cond, .ev]

/-- What the apportioner's part of an event may touch. -/
abbrev claimPieces : List Piece := [.app, .cond, .ev]

/-- What a group of reports may touch once it is judged. -/
abbrev judgePieces : List Piece := .conv :: yawPieces

/-- What telling the owners of claims may touch. -/
abbrev ownerPieces : List Piece := .cool :: judgePieces

/-- What the plant blocks may touch among them. -/
abbrev plantPieces : List Piece := .supply :: ownerPieces

/-! ### Named updates -/

theorem changes_setZone (s : State) (z : Zone) (r : ZoneRec) : Changes [.cool] s (s.setZone z r) := by
  intro p hp; cases p <;> first | rfl | exact absurd (by decide) hp

theorem changes_setFlow (s : State) (p : Pump) (f : FlowCheck) : Changes [.cool] s (s.setFlow p f) := by
  intro p hp; cases p <;> first | rfl | exact absurd (by decide) hp

theorem changes_setRec (s : State) (i : Fin 32) (r : CondRec) : Changes [.cond] s (s.setRec i r) := by
  intro p hp; cases p <;> first | rfl | exact absurd (by decide) hp

theorem changes_setRoute (s : State) (i : Fin 6) (r : Route) : Changes [.routes] s (s.setRoute i r) := by
  intro p hp; cases p <;> first | rfl | exact absurd (by decide) hp

theorem changes_setSegment (s : State) (i : Fin 24) (g : Option Segment) : Changes [.routes] s (s.setSegment i g) := by
  intro p hp; cases p <;> first | rfl | exact absurd (by decide) hp

theorem changes_claimEvent (s : State) : Changes [.ev] s s.claimEvent := by
  intro p hp; cases p <;> first | rfl | exact absurd (by decide) hp

theorem changes_shiftOut (s : State) (b : Option (List Byte)) : Changes [.port] s (s.shiftOut b) := by
  intro p hp; cases p <;> first | rfl | exact absurd (by decide) hp

theorem changes_setConverter (s : State) (c : ConverterState) : Changes [.conv] s (State.setConverter c s) := by
  intro p hp; cases p <;> first | rfl | exact absurd (by decide) hp

theorem changes_enterTripped (s : State) : Changes [.conv, .ev] s s.enterTripped := by
  intro p hp; cases p <;> first | rfl | exact absurd (by decide) hp

theorem changes_openWindows (s : State) : Changes [.align] s s.openWindows := by
  intro p hp; cases p <;> first | rfl | exact absurd (by decide) hp

theorem changes_clearWindows (s : State) : Changes [.align] s s.clearWindows := by
  intro p hp; cases p <;> first | rfl | exact absurd (by decide) hp

theorem changes_windows (s : State) (f : Window → Window) : Changes [.align] s (State.windows f s) := by
  intro p hp; cases p <;> first | rfl | exact absurd (by decide) hp

theorem changes_takeRoute (s : State) (r : Fin 6) : Changes [.yaw] s (State.takeRoute r s) := by
  intro p hp; cases p <;> first | rfl | exact absurd (by decide) hp

theorem changes_startClaimWait (s : State) : Changes [.yaw] s s.startClaimWait := by
  intro p hp; cases p <;> first | rfl | exact absurd (by decide) hp

theorem changes_putSetting (s : State) (k : Fin 86) (v : Nat) : Changes [.store] s (State.putSetting k v s) := by
  intro p hp; cases p <;> first | rfl | exact absurd (by decide) hp

theorem changes_endComposition (s : State) : Changes [.port] s s.endComposition := by
  intro p hp; cases p <;> first | rfl | exact absurd (by decide) hp

/-! ### The Condition Unit -/

theorem changes_putRec (s : State) (i : Fin 32) (p : CondRec × Bool) : Changes [.cond, .ev] s (s.putRec i p) := by
  unfold State.putRec
  intro q hq
  split <;> cases q <;> first | rfl | exact absurd (by decide) hq

theorem changes_takeReport (s : State) (i : Fin 32) (r : Report) : Changes [.cond, .ev] s (s.takeReport i r) :=
  changes_putRec s i _

theorem changes_takeReports (s : State) (g : Group) : Changes [.cond, .ev] s (State.takeReports g s) := by
  unfold State.takeReports
  exact Changes.foldl (fun t p => changes_takeReport t p.1 p.2) g s

/-! ### The Load Apportioner -/

theorem changes_apportion (s : State) (f : Apportioner → Apportioner) : Changes claimPieces s (s.apportion f) := by
  unfold State.apportion
  refine Changes.trans (t := { s with app := f s.app }) ?_ (changes_takeReport _ _ _).mono
  intro p hp; cases p <;> first | rfl | exact absurd (by decide) hp

theorem changes_apportionStarting (s : State) (f : Apportioner → Apportioner) :
    Changes claimPieces s (s.apportionStarting f) := by
  refine (changes_apportion s f).trans ?_
  intro p hp; cases p <;> first | rfl | exact absurd (by decide) hp

theorem changes_claimRequest (s : State) (f : Apportioner → Apportioner) :
    Changes claimPieces s (s.claimRequest f) := by
  unfold State.claimRequest
  split
  · exact Changes.refl _ s
  · exact (changes_apportion s f).trans (changes_claimEvent _).mono

theorem changes_engineRequest (s : State) (i : Fin 16) (n : Nat) : Changes claimPieces s (s.engineRequest i n) :=
  changes_claimRequest s _

/-! ### The yaw engine -/

theorem changes_endRoute (s : State) (o : RouteOutcome) : Changes [.routes] s (s.endRoute o) := by
  unfold State.endRoute
  split
  · exact Changes.refl _ s
  · exact changes_setRoute s _ _

theorem changes_completeTurn (s : State) : Changes [.routes] s s.completeTurn := by
  unfold State.completeTurn
  split
  · exact Changes.refl _ s
  · simp only
    split
    · exact (changes_setRoute s _ _).trans (changes_endRoute _ _)
    · exact changes_setRoute s _ _

theorem changes_park (s : State) : Changes yawPieces s s.park := by
  unfold State.park
  refine Changes.trans ?_ (changes_engineRequest _ _ _).mono
  refine Changes.trans ?_ (changes_openWindows _).mono
  intro p hp; cases p <;> first | rfl | exact absurd (by decide) hp

theorem changes_enterSettling (s : State) : Changes [.yaw] s s.enterSettling := by
  intro p hp; cases p <;> first | rfl | exact absurd (by decide) hp

theorem changes_applyBrake (s : State) : Changes [.yaw] s s.applyBrake := by
  intro p hp; cases p <;> first | rfl | exact absurd (by decide) hp

theorem changes_enterTurning (s : State) (g : Segment) (n : Nat) : Changes [.yaw] s (s.enterTurning g n) := by
  intro p hp; cases p <;> first | rfl | exact absurd (by decide) hp

theorem changes_advance (s : State) : Changes [.yaw] s s.advance := by
  intro p hp; cases p <;> first | rfl | exact absurd (by decide) hp

theorem changes_startSegment (s : State) : Changes [.yaw, .routes] s s.startSegment := by
  unfold State.startSegment
  split
  · exact Changes.refl _ s
  · rename_i g _
    have base : ∀ y : Yaw, Changes [.yaw, .routes] s { s with yaw := y } := by
      intro y p hp; cases p <;> first | rfl | exact absurd (by decide) hp
    simp only
    split
    · exact ((base _).trans (changes_endRoute _ _).mono).trans (changes_applyBrake _).mono
    · split
      · exact ((base _).trans (changes_completeTurn _).mono).trans (changes_applyBrake _).mono
      · exact (base _).trans (changes_enterTurning _ _ _).mono

theorem changes_enterReleasing (s : State) : Changes [.yaw, .routes] s s.enterReleasing := by
  unfold State.enterReleasing
  have base : ∀ y : Yaw, Changes [.yaw, .routes] s { s with yaw := y } := by
    intro y p hp; cases p <;> first | rfl | exact absurd (by decide) hp
  simp only
  split
  · exact (base _).trans (changes_startSegment _)
  · exact base _

theorem changes_leaveBraking (s : State) : Changes yawPieces s s.leaveBraking := by
  have base : ∀ y : Yaw, Changes yawPieces s { s with yaw := y } := by
    intro y p hp; cases p <;> first | rfl | exact absurd (by decide) hp
  unfold State.leaveBraking
  split
  · exact changes_park s
  · split
    · exact (base _).trans (changes_enterReleasing _).mono
    · split
      · split
        · exact base _
        · exact (changes_advance s).mono.trans (changes_enterReleasing _).mono
      · exact changes_park s

theorem changes_enterBraking (s : State) : Changes yawPieces s s.enterBraking := by
  unfold State.enterBraking
  split
  · exact (changes_applyBrake s).mono
  · exact (changes_applyBrake s).mono.trans (changes_leaveBraking _)

theorem changes_stopPath (s : State) : Changes yawPieces s s.stopPath := by
  unfold State.stopPath
  split
  · exact changes_park s
  · exact changes_enterBraking s
  · exact (changes_enterSettling s).mono
  · exact changes_park s
  · exact Changes.refl _ s
  · exact Changes.refl _ s
  · exact Changes.refl _ s

theorem changes_stopRunning (s : State) (o : RouteOutcome) : Changes yawPieces s (s.stopRunning o) := by
  unfold State.stopRunning
  split
  · exact (changes_endRoute s o).mono.trans (changes_stopPath _)
  · exact Changes.refl _ s

theorem changes_yawShed (s : State) : Changes yawPieces s s.yawShed := by
  unfold State.yawShed
  refine Changes.trans ?_ (changes_stopRunning _ _)
  intro p hp; cases p <;> first | rfl | exact absurd (by decide) hp

theorem changes_yawGranted (s : State) : Changes yawPieces s s.yawGranted := by
  unfold State.yawGranted
  split
  · exact (changes_enterReleasing s).mono
  · exact Changes.refl _ s

theorem changes_startRun (s : State) (r : Fin 6) : Changes yawPieces s (s.startRun r) := by
  unfold State.startRun
  refine Changes.trans ?_ (changes_engineRequest _ _ _).mono
  refine Changes.trans ?_ (changes_clearWindows _).mono
  intro p hp; cases p <;> first | rfl | exact absurd (by decide) hp

theorem changes_preempt (s : State) (r : Fin 6) : Changes yawPieces s (s.preempt r) := by
  have base := (changes_takeRoute s r).mono (qs := yawPieces)
  unfold State.preempt
  simp only
  split
  · exact base.trans (changes_startClaimWait _).mono
  · exact base.trans (changes_enterBraking _)
  · exact base.trans (changes_enterSettling _).mono
  · exact base.trans (changes_enterReleasing _).mono
  · exact base
  · exact base
  · exact base

theorem changes_admitRoute (s : State) (r : Fin 6) : Changes yawPieces s (s.admitRoute r) := by
  unfold State.admitRoute
  simp only
  have base := ((changes_endRoute s .preempted).mono (qs := yawPieces)).trans
    ((changes_setRoute _ r { (s.endRoute .preempted).routes.routes[r] with
      state := .running, done := some 0, outcome := none, endedIn := none }).mono)
  split
  · exact base.trans (changes_preempt _ r)
  · exact base.trans (changes_startRun _ r)

/-! ### Consequences and owners -/

theorem changes_tripConverter (s : State) : Changes [.conv, .ev] s s.tripConverter := by
  unfold State.tripConverter
  split
  · exact changes_enterTripped s
  · exact Changes.refl _ s

theorem changes_holdConverter (s : State) : Changes [.conv] s s.holdConverter := by
  unfold State.holdConverter
  split
  · exact changes_setConverter s _
  · exact Changes.refl _ s

theorem changes_shedService (s : State) : Changes claimPieces s s.shedService :=
  changes_apportionStarting s _

/-- A change made only on a condition. -/
theorem Changes.onlyIf {ps : List Piece} {s t u : State} {c : Prop} [Decidable c] (h : Changes ps s t)
    (k : Changes ps t u) : Changes ps s (if c then u else t) := by
  split
  · exact h.trans k
  · exact h

theorem changes_tell (s : State) (told now : Consequences) : Changes judgePieces s (s.tell told now) := by
  unfold State.tell
  simp only
  refine Changes.onlyIf ?_ (changes_claimEvent _).mono
  refine Changes.onlyIf ?_ (changes_shedService _).mono
  refine Changes.onlyIf ?_ (changes_stopRunning _ _).mono
  refine Changes.onlyIf ?_ (changes_holdConverter _).mono
  exact Changes.onlyIf (Changes.refl _ s) (changes_tripConverter _).mono

theorem changes_judge (s : State) : Changes judgePieces s s.judge := by
  unfold State.judge
  simp only
  refine Changes.trans ?_ (changes_tell _ _ _)
  intro p hp; cases p <;> first | rfl | exact absurd (by decide) hp

theorem changes_report (s : State) (g : Group) : Changes judgePieces s (s.report g) :=
  (changes_takeReports s g).mono.trans (changes_judge _)

theorem changes_armFlow (s : State) (p : Pump) : Changes [.cool] s (s.armFlow p) := by
  unfold State.armFlow
  simp only
  repeat' split
  all_goals first | exact changes_setFlow s _ _ | exact Changes.refl _ s

theorem changes_refreshActuator (s : State) (z : Zone) : Changes [.cool] s (s.refreshActuator z) := by
  unfold State.refreshActuator
  simp only
  split
  · exact changes_setZone s _ _
  · exact (changes_setZone s _ _).trans (changes_armFlow _ _)

theorem changes_noteActuators (s : State) (zs : List Zone) : Changes [.ev] s (State.noteActuators zs s) := by
  intro p hp; cases p <;> first | rfl | exact absurd (by decide) hp

theorem changes_tellCooling (before s : State) : Changes [.ev] s (State.tellCooling before s) :=
  changes_noteActuators s _

/-- The effective levels of the actuators noted are the Cooling Controller's alone (R110). -/
theorem changes_settleActuators (s : State) : Changes [.cool] s s.settleActuators :=
  Changes.foldl changes_refreshActuator _ s

theorem changes_tellConverter (before s : State) : Changes judgePieces s (State.tellConverter before s) := by
  have base : ∀ c : Converter, Changes judgePieces s { s with conv := c } := by
    intro c p hp; cases p <;> first | rfl | exact absurd (by decide) hp
  unfold State.tellConverter
  split
  · exact base _
  · split
    · simp only
      split
      · exact (base _).trans (changes_report _ _)
      · exact base _
    · exact Changes.refl _ s

theorem changes_tellYaw (before s : State) : Changes yawPieces s (State.tellYaw before s) := by
  unfold State.tellYaw
  split
  · exact changes_yawGranted s
  · split
    · exact changes_yawShed s
    · exact Changes.refl _ s

theorem changes_tellOwners (before s : State) : Changes judgePieces s (State.tellOwners before s) :=
  ((changes_tellCooling before s).mono.trans (changes_tellConverter before _).mono).trans
    (changes_tellYaw before _).mono

theorem changes_grantOpportunity (s : State) : Changes judgePieces s s.grantOpportunity := by
  unfold State.grantOpportunity
  split
  · exact (changes_apportionStarting s _).mono.trans (changes_tellOwners s _)
  · exact Changes.refl _ s

/-! ### The Cooling Controller -/

theorem changes_askActuator (s : State) (z : Zone) : Changes ownerPieces s (s.askActuator z) := by
  unfold State.askActuator
  simp only
  exact (changes_setZone s _ _).mono.trans (changes_engineRequest _ _ _).mono

theorem changes_driveActuators (s : State) (zs : List Zone) : Changes ownerPieces s (State.driveActuators zs s) := by
  unfold State.driveActuators
  refine Changes.trans (Changes.foldl (fun t z => changes_askActuator t z) zs s) ?_
  exact (changes_noteActuators _ zs).mono.trans (changes_tellOwners _ _).mono

theorem changes_noteZeroHolds (before s : State) (zs : List Zone) :
    Changes [.ev] s (State.noteZeroHolds before zs s) := by
  intro p hp; cases p <;> first | rfl | exact absurd (by decide) hp

theorem changes_evaluateZones (s : State) (zs : List Zone) : Changes ownerPieces s (State.evaluateZones zs s) := by
  unfold State.evaluateZones
  simp only
  refine Changes.trans (Changes.foldl (f := fun t z => t.setZone z (t.evaluated z))
    (fun t z => (changes_setZone t z (t.evaluated z)).mono) zs s) ?_
  exact ((changes_noteZeroHolds s _ zs).mono.trans (changes_report _ _).mono).trans (changes_driveActuators _ _)

theorem changes_holdExpired (s : State) (z : Zone) : Changes ownerPieces s (State.holdExpired z s) :=
  (changes_setZone s _ _).mono.trans (changes_evaluateZones _ _)

theorem changes_freshReading (s : State) (z : Zone) : Changes ownerPieces s (State.freshReading z s) :=
  (changes_setZone s _ _).mono.trans (changes_evaluateZones _ _)

theorem changes_offChanged (s : State) : Changes ownerPieces s s.offChanged := changes_evaluateZones s _

theorem changes_flowLost (s : State) (p : Pump) : Changes ownerPieces s (State.flowLost p s) :=
  ((changes_setFlow s _ _).mono.trans (changes_report _ _).mono).trans (changes_driveActuators _ _)

theorem changes_flowRecovered (s : State) (p : Pump) : Changes ownerPieces s (State.flowRecovered p s) :=
  ((changes_setFlow s _ _).mono.trans (changes_report _ _).mono).trans (changes_driveActuators _ _)

theorem changes_flowChanged (s : State) (p : Pump) (b : Bool) : Changes ownerPieces s (State.flowChanged p b s) := by
  unfold State.flowChanged
  simp only
  repeat' split
  all_goals first
    | exact (changes_setFlow s _ _).mono
    | exact Changes.refl _ s
    | exact changes_flowRecovered s p

theorem changes_proveFlow (s : State) : Changes [.conv] s s.proveFlow := by
  unfold State.proveFlow
  split
  · intro p hp; cases p <;> first | rfl | exact absurd (by decide) hp
  · exact Changes.refl _ s

/-! ### The Supply Monitor -/

theorem changes_rebudget (s : State) (n : Nat) : Changes ownerPieces s (State.rebudget n s) := by
  unfold State.rebudget
  split
  · exact (changes_apportionStarting s _).mono.trans (changes_tellOwners _ _).mono
  · split
    · exact (changes_claimEvent s).mono
    · exact Changes.refl _ s

theorem changes_handSupply (s : State) (a b : SupplyState) : Changes [.conv, .ev] s (State.handSupply a b s) := by
  unfold State.handSupply
  split
  · exact (changes_setConverter s _).mono
  · exact (changes_setConverter s _).mono
  · exact changes_enterTripped s
  · exact Changes.refl _ s

theorem changes_supply (s : State) (u : Supply) : Changes [.supply] s { s with supply := u } := by
  intro p hp; cases p <;> first | rfl | exact absurd (by decide) hp

theorem changes_changeSupply (s : State) (n : SupplyState) (k : Option Nat) :
    Changes plantPieces s (State.changeSupply n k s) := by
  unfold State.changeSupply
  exact ((changes_supply s _).mono.trans (changes_rebudget _ _).mono).trans (changes_handSupply _ _ _).mono

theorem changes_compareBackup (s : State) : Changes plantPieces s s.compareBackup := by
  unfold State.compareBackup
  split
  · exact changes_changeSupply s _ _
  · exact changes_changeSupply s _ _
  · exact Changes.refl _ s

theorem changes_judgeSupply (s : State) (v : Nat) : Changes plantPieces s (State.judgeSupply v s) := by
  unfold State.judgeSupply
  have count : Changes plantPieces s (State.countBelow v s) := (changes_supply s _).mono
  split
  · simp only
    split
    · exact count.trans (changes_changeSupply _ _ _)
    · exact count
  · simp only
    split
    · exact count.trans (changes_changeSupply _ _ _)
    · exact count.trans (changes_supply _ _).mono
  · exact (changes_compareBackup s).trans (changes_supply _ _).mono
  · exact (changes_compareBackup s).trans (changes_supply _ _).mono

theorem changes_supplyFrame (s : State) (f : Fast) : Changes plantPieces s (State.supplyFrame f s) :=
  (changes_judgeSupply s _).trans (changes_report _ _).mono

theorem changes_supplyMoved (s : State) (f : State → State) (h : Changes plantPieces s (f s)) :
    Changes plantPieces s (State.supplyMoved f s) := h.trans (changes_report _ _).mono

/-! ### The Converter Sequencer -/

theorem changes_conv (s : State) (c : Converter) : Changes [.conv] s { s with conv := c } := by
  intro p hp; cases p <;> first | rfl | exact absurd (by decide) hp

theorem changes_enterDischarging (s : State) : Changes [.conv] s s.enterDischarging := changes_conv s _

theorem changes_sequenceFrame (s : State) (v : Nat) : Changes ownerPieces s (State.sequenceFrame v s) := by
  unfold State.sequenceFrame
  split
  · split
    · exact (changes_conv s _).mono
    · exact Changes.refl _ s
  · split
    · exact (changes_conv s _).mono.trans (changes_offChanged _)
    · exact Changes.refl _ s
  · exact Changes.refl _ s

theorem changes_converterFrame (s : State) (f : Fast) : Changes ownerPieces s (State.converterFrame f s) :=
  ((changes_conv s _).mono.trans (changes_sequenceFrame _ _)).trans (changes_report _ _).mono

theorem changes_decay (s : State) : Changes judgePieces s s.decay :=
  (changes_conv s _).mono.trans (changes_report _ _)

theorem changes_prechargeExpired (s : State) : Changes judgePieces s s.prechargeExpired :=
  Changes.ite (changes_report s _) (Changes.refl _ s)

theorem changes_breakerExpired (s : State) : Changes judgePieces s s.breakerExpired :=
  Changes.ite (changes_report s _) (Changes.refl _ s)

theorem changes_dischargeExpired (s : State) : Changes judgePieces s s.dischargeExpired :=
  Changes.ite ((changes_enterTripped s).mono.trans (changes_report _ _)) (Changes.refl _ s)

theorem changes_mainChanged (s : State) (b : Bool) : Changes judgePieces s (State.mainChanged b s) :=
  Changes.ite (Changes.ite (changes_conv s _).mono (Changes.refl _ s)) (Changes.ite (changes_report s _) (Changes.refl _ s))

/-! ### Encoder, yaw timers, brake line, windows -/

theorem changes_align (s : State) (a : Alignment) : Changes [.align] s { s with align := a } := by
  intro p hp; cases p <;> first | rfl | exact absurd (by decide) hp

theorem changes_yaw (s : State) (y : Yaw) : Changes [.yaw] s { s with yaw := y } := by
  intro p hp; cases p <;> first | rfl | exact absurd (by decide) hp

theorem changes_judgeUntwist (s : State) : Changes judgePieces s s.judgeUntwist :=
  Changes.ite ((changes_align s _).mono.trans (changes_report _ _)) (Changes.refl _ s)

theorem changes_judgeTurn (s : State) : Changes [.yaw, .routes] s s.judgeTurn := by
  unfold State.judgeTurn
  split
  · simp only
    split
    · exact ((changes_yaw s _).mono.trans (changes_completeTurn _).mono).trans (changes_enterSettling _).mono
    · split
      · exact ((changes_yaw s _).mono.trans (changes_endRoute _ _).mono).trans (changes_enterSettling _).mono
      · exact (changes_yaw s _).mono
  · exact Changes.refl _ s

theorem changes_encoderStep (s : State) (cw : Bool) : Changes judgePieces s (State.encoderStep cw s) := by
  unfold State.encoderStep
  split
  · exact (((changes_yaw s _).mono.trans (changes_judgeTurn _).mono).trans (changes_judgeUntwist _)).trans
      (changes_report _ _)
  · exact Changes.refl _ s

theorem changes_inputs (s : State) (i : Inputs) : Changes [.inputs] s { s with inputs := i } := by
  intro p hp; cases p <;> first | rfl | exact absurd (by decide) hp

theorem changes_encoderMoves (s : State) (a b : Bool) : Changes (.inputs :: judgePieces) s (State.encoderMoves a b s) := by
  unfold State.encoderMoves
  simp only
  split
  · exact (changes_inputs s _).mono
  · exact (changes_inputs s _).mono.trans (changes_encoderStep _ _).mono

theorem changes_claimWaitExpired (s : State) : Changes yawPieces s s.claimWaitExpired :=
  Changes.ite ((changes_endRoute s _).mono.trans (changes_park _)) (Changes.refl _ s)

theorem changes_releaseExpired (s : State) : Changes judgePieces s s.releaseExpired :=
  Changes.ite (((changes_endRoute s _).mono.trans (changes_enterBraking _).mono).trans (changes_report _ _))
    (Changes.refl _ s)

theorem changes_stalled (s : State) : Changes judgePieces s s.stalled :=
  Changes.ite (((changes_endRoute s _).mono.trans (changes_enterSettling _).mono).trans (changes_report _ _))
    (Changes.refl _ s)

theorem changes_settleExpired (s : State) : Changes yawPieces s s.settleExpired :=
  Changes.ite (changes_enterBraking s) (Changes.refl _ s)

theorem changes_applyExpired (s : State) : Changes judgePieces s s.applyExpired :=
  Changes.ite ((changes_report s _).trans (changes_leaveBraking _).mono) (Changes.refl _ s)

theorem changes_dwellExpired (s : State) : Changes [.yaw, .routes] s s.dwellExpired :=
  Changes.ite ((changes_advance s).mono.trans (changes_enterReleasing _)) (Changes.refl _ s)

theorem changes_brakeRises (s : State) : Changes judgePieces s s.brakeRises := by
  unfold State.brakeRises
  split
  · exact (changes_startSegment s).mono
  · exact changes_report s _
  · exact changes_report s _
  · exact changes_report s _
  · exact Changes.ite (changes_report s _) (Changes.refl _ s)
  · exact Changes.refl _ s
  · exact Changes.refl _ s

theorem changes_brakeFalls (s : State) : Changes judgePieces s s.brakeFalls := by
  unfold State.brakeFalls
  split
  · exact (changes_enterSettling s).mono.trans (changes_report _ _)
  · exact Changes.ite (changes_report s _) (Changes.refl _ s)
  · exact (changes_leaveBraking s).mono
  · exact Changes.refl _ s
  · exact Changes.refl _ s
  · exact Changes.refl _ s
  · exact Changes.refl _ s

theorem changes_windDirection (s : State) (v : Int) : Changes [.align] s (State.windDirection v s) :=
  Changes.ite (changes_windows s _) (Changes.refl _ s)

theorem changes_motionIndex (s : State) (v : Int) : Changes judgePieces s (State.motionIndex v s) := by
  unfold State.motionIndex
  simp only
  exact (Changes.ite ((changes_align s _).mono.trans (changes_windows _ _).mono) (changes_align s _).mono).trans
    (changes_report _ _)

theorem changes_runAlignment (s : State) (r : Fin 6) (k : Fin 24) (g : Trigger) (d : TargetKind) (v : Int)
    (e : SegDirection) (w : Speed) : Changes yawPieces s (State.runAlignment r k g d v e w s) := by
  unfold State.runAlignment
  simp only
  refine Changes.trans ?_ (changes_admitRoute _ r)
  refine Changes.trans ?_ (changes_align _ _).mono
  exact (changes_setSegment s _ _).mono.trans (changes_setRoute _ _ _).mono

theorem changes_autoTrigger (s : State) (m : Option Int) (n : Nat) (b : Bool) :
    Changes yawPieces s (State.autoTrigger m n b s) := by
  unfold State.autoTrigger
  split
  · exact Changes.refl _ s
  · exact Changes.ite (changes_runAlignment _ _ _ _ _ _ _ _) (Changes.refl _ s)

theorem changes_closeShort (s : State) (w : Window) : Changes yawPieces s (State.closeShort w s) :=
  (changes_align s _).mono.trans (changes_autoTrigger _ _ _ _)

theorem changes_deferUntwist (s : State) : Changes judgePieces s s.deferUntwist :=
  (changes_align s _).mono.trans (changes_report _ _)

theorem changes_closeLong (s : State) (w : Window) : Changes judgePieces s (State.closeLong w s) := by
  unfold State.closeLong
  simp only
  split
  · split
    · exact (changes_align s _).mono.trans (changes_runAlignment _ _ _ _ _ _ _ _).mono
    · exact ((changes_align s _).mono.trans (changes_deferUntwist _)).trans (changes_autoTrigger _ _ _ _).mono
  · exact (changes_align s _).mono.trans (changes_autoTrigger _ _ _ _).mono

/-! ### The Meter Receiver and the lines -/

theorem changes_meter (s : State) (m : Meter) : Changes [.meter] s { s with meter := m } := by
  intro p hp; cases p <;> first | rfl | exact absurd (by decide) hp

theorem changes_slowValue (s : State) (c : Fin 8) (v : Int) : Changes ownerPieces s (State.slowValue c v s) := by
  unfold State.slowValue
  split
  · exact changes_freshReading s _
  · exact Changes.ite (changes_windDirection s _).mono (Changes.ite (changes_motionIndex s _).mono (Changes.refl _ s))

theorem changes_acceptFrame (s : State) (bytes : List Byte) :
    Changes (.meter :: plantPieces) s (State.acceptFrame bytes s) := by
  unfold State.acceptFrame
  simp only
  refine Changes.trans ?_ (changes_slowValue _ _ _).mono
  refine Changes.trans ?_ (changes_converterFrame _ _).mono
  refine Changes.trans ?_ (changes_supplyFrame _ _).mono
  exact Changes.ite (changes_meter s _).mono ((changes_meter s _).mono.trans (changes_report _ _).mono)

theorem changes_streamStale (s : State) : Changes (.meter :: plantPieces) s s.streamStale := by
  unfold State.streamStale
  simp only
  refine Changes.trans ?_ (changes_windows _ _).mono
  refine Changes.trans ?_ (changes_evaluateZones _ _).mono
  refine Changes.trans ?_ (changes_conv _ _).mono
  refine Changes.trans ?_ (changes_supply _ _).mono
  exact (changes_meter s _).mono.trans (changes_report _ _).mono

theorem changes_channelStale (s : State) (c : Fin 8) : Changes (.meter :: ownerPieces) s (State.channelStale c s) := by
  unfold State.channelStale
  simp only
  split
  · exact (changes_meter s _).mono.trans (changes_evaluateZones _ _).mono
  · exact Changes.ite ((changes_meter s _).mono.trans (changes_windows _ _).mono) (changes_meter s _).mono

theorem changes_pinChanges (s : State) (c : PinChange) : Changes [.inputs] s (State.pinChanges c s) := by
  unfold State.pinChanges State.rawLine
  simp only
  repeat' split
  all_goals first | exact Changes.refl _ s | exact changes_inputs s _

theorem changes_heldPin (s : State) (c : PinChange) : Changes [.inputs] s (State.heldPin c s) := by
  unfold State.heldPin
  split <;> exact changes_inputs s _

theorem changes_lineChanged (s : State) (l : Line) (b : Bool) : Changes plantPieces s (State.lineChanged l b s) := by
  unfold State.lineChanged
  split
  · exact Changes.ite (changes_brakeRises s).mono (changes_brakeFalls s).mono
  · exact (changes_mainChanged s _).mono
  · exact (changes_report s _).mono
  · simp only
    exact Changes.ite ((changes_flowChanged s _ _).mono.trans (changes_proveFlow _).mono) (changes_flowChanged s _ _).mono
  · exact (changes_flowChanged s _ _).mono
  · exact Changes.ite (changes_supplyMoved s _ (changes_compareBackup s)) (Changes.refl _ s)

theorem changes_filterExpired (s : State) (l : Line) : Changes (.inputs :: plantPieces) s (State.filterExpired l s) := by
  unfold State.filterExpired
  simp only
  exact (changes_inputs s _).mono.trans (changes_lineChanged _ _ _).mono

/-! ### The end of an event -/

theorem changes_settleClaims (s : State) : Changes judgePieces s s.settleClaims :=
  Changes.ite (changes_grantOpportunity s) (Changes.refl _ s)

theorem changes_setTripReason (s : State) : Changes [.conv] s s.setTripReason :=
  Changes.ite (changes_conv s _) (Changes.refl _ s)

theorem changes_drive (s : State) : Changes [.ev, .out] s s.drive := by
  intro p hp; cases p <;> first | rfl | exact absurd (by decide) hp

theorem changes_settle (s : State) : Changes ownerPieces s s.settle :=
  ((changes_settleClaims s).mono.trans (changes_settleActuators _).mono).trans (changes_setTripReason _).mono

theorem changes_revs (s : State) (r : RevTable) : Changes [.revs] s { s with revs := r } := by
  intro p hp; cases p <;> first | rfl | exact absurd (by decide) hp

/-- What the end of one event may touch beyond what the event's operation did. -/
theorem changes_closeEvent (before s : State) : Changes (.out :: .revs :: ownerPieces) s (closeEvent before s) :=
  ((changes_settle s).mono.trans (changes_drive _).mono).trans (changes_revs _ _).mono

theorem changes_staggerExpired (s : State) : Changes judgePieces s s.staggerExpired := by
  unfold State.staggerExpired
  refine Changes.trans (t := { s with app := { s.app with stagger := none } }) ?_ (changes_grantOpportunity _)
  intro p hp; cases p <;> first | rfl | exact absurd (by decide) hp

theorem changes_expireZeroStagger (n : Nat) (s : State) :
    Changes (.out :: .revs :: ownerPieces) s (s.expireZeroStagger n) := by
  induction n generalizing s with
  | zero => exact Changes.refl _ s
  | succ n ih =>
    exact Changes.ite (((changes_staggerExpired s).mono.trans (changes_closeEvent _ _)).trans (ih _)) (Changes.refl _ s)

/-- What the end of one event, and the stagger expiries that follow it at once, may touch. -/
theorem changes_endEvent (before s : State) : Changes (.out :: .revs :: ownerPieces) s (endEvent before s) := by
  have h := changes_closeEvent before s
  exact Changes.ite (h.trans (changes_expireZeroStagger _ _)) h

theorem changes_expireZeroHold (s : State) (z : Zone) :
    Changes (.out :: .revs :: ownerPieces) s (s.expireZeroHold z) :=
  Changes.ite ((changes_holdExpired s z).mono.trans (changes_endEvent _ _)) (Changes.refl _ s)

/-- What the end of an arrival's event, and the expiries that follow it at once, may touch beyond what the event's
operation did. -/
theorem changes_finishEvent (before s : State) : Changes (.out :: .revs :: ownerPieces) s (finishEvent before s) :=
  (changes_endEvent before s).trans (Changes.foldl changes_expireZeroHold s.settle.ev.zeroHolds _)

end Sys2Proof.Machine
end

