-- ==== Sys2Proof/Laws/Events.lean ====
section
/-!
SUPPORT. What the end of an event, an expiry, and an item at an idle port come to, each said once, and reading back what
an update put in a record.
-/
namespace Sys2Proof.Machine

/-! ### Reading back -/

@[simp] theorem setRec_recs_self (s : State) (i : Fin 32) (r : CondRec) : (s.setRec i r).cond.recs[i] = r := by
  simp [State.setRec]

theorem setRec_recs_other (s : State) {i j : Fin 32} (r : CondRec) (h : j ≠ i) :
    (s.setRec i r).cond.recs[j] = s.cond.recs[j] := by
  have k : i.val ≠ j.val := fun e => h (Fin.ext e.symm)
  simp [State.setRec, k]

@[simp] theorem setRoute_routes_self (s : State) (i : Fin 6) (r : Route) : (s.setRoute i r).routes.routes[i] = r := by
  simp [State.setRoute]

theorem setRoute_routes_other (s : State) {i j : Fin 6} (r : Route) (h : j ≠ i) :
    (s.setRoute i r).routes.routes[j] = s.routes.routes[j] := by
  have k : i.val ≠ j.val := fun e => h (Fin.ext e.symm)
  simp [State.setRoute, k]

@[simp] theorem setClaim_claims_self (a : Apportioner) (i : Fin 16) (c : Claim) : (a.setClaim i c).claims[i] = c := by
  simp [Apportioner.setClaim]

theorem setClaim_claims_other (a : Apportioner) {i j : Fin 16} (c : Claim) (h : j ≠ i) :
    (a.setClaim i c).claims[j] = a.claims[j] := by
  have k : i.val ≠ j.val := fun e => h (Fin.ext e.symm)
  simp [Apportioner.setClaim, k]

@[simp] theorem PerZone.get_set_self {α : Type} (p : PerZone α) (z : Zone) (x : α) : (p.set z x).get z = x := by
  cases z <;> rfl

theorem PerZone.get_set_other {α : Type} (p : PerZone α) {z w : Zone} (x : α) (h : w ≠ z) :
    (p.set z x).get w = p.get w := by
  cases z <;> cases w <;> first | rfl | exact absurd rfl h

@[simp] theorem PerPump.get_set_self {α : Type} (p : PerPump α) (k : Pump) (x : α) : (p.set k x).get k = x := by
  cases k <;> rfl

@[simp] theorem PerLine.get_set_self {α : Type} (p : PerLine α) (l : Line) (x : α) : (p.set l x).get l = x := by
  cases l <;> rfl

/-! ### Revisions -/

theorem bumpTable_self (b : List (List Int)) (r : List Nat) : bumpTable b b r = r := by
  induction b generalizing r with
  | nil => cases r <;> rfl
  | cons x b ih =>
    cases r with
    | nil => rfl
    | cons y r => simp [bumpTable, bumpRevision, ih]

/-- An event that leaves every held field moves no revision (R5). -/
theorem bumpAll_self (b : Snapshot) (r : RevTable) : bumpAll b b r = r := by
  induction b generalizing r with
  | nil => cases r <;> rfl
  | cons x b ih =>
    cases r with
    | nil => rfl
    | cons y r => simp [bumpAll, bumpTable_self, ih]

theorem bumpTable_length (b a : List (List Int)) (r : List Nat) : (bumpTable b a r).length = r.length := by
  induction b generalizing a r with
  | nil => cases a <;> rfl
  | cons x b ih =>
    cases a with
    | nil => rfl
    | cons y a =>
      cases r with
      | nil => rfl
      | cons z r => simp [bumpTable, ih]

/-- A revision stays within 0 to 255 (R5). -/
theorem bumpRevision_lt {rev : Nat} (b a : List Int) (h : rev < 256) : bumpRevision b a rev < 256 := by
  unfold bumpRevision
  split
  · exact h
  · exact Nat.mod_lt _ (by decide)

/-! ### Expiries and arrivals -/

theorem event_of_free {f : State → State} {s : State} (h : s.hold = none) : event f s = .next (finishEvent s (f s)) := by
  simp [event, State.held, h]

theorem expiry_of_running {running : State → Bool} {f : State → State} {s : State} (h : s.hold = none)
    (r : running s = true) : expiry running f s = .next (finishEvent s (f s)) := by
  simp [expiry, State.held, h, r]

/-- The stagger timer runs out: an event that begins with the timer idle (R33). -/
theorem execStaggerTimerExpiry_of_running {s : State} (h : s.hold = none) (r : StaggerRuns s) :
    execStaggerTimerExpiry s =
      .next
        (finishEvent { s with app := { s.app with stagger := none } }
          { s with app := { s.app with stagger := none } }.grantOpportunity) := by
  have k : s.app.stagger ≠ none := by
    intro e
    rw [StaggerRuns, e] at r
    cases r
  simp [execStaggerTimerExpiry, event, State.held, h, k]

theorem expiry_of_held {running : State → Bool} {f : State → State} {s : State} (h : s.hold.isSome = true) :
    expiry running f s = .next s := by
  simp [expiry, State.held, h]

theorem runItem_of_held {i : Instr} {body : State → Answer} {s : State} (h : s.hold.isSome = true) :
    runItem i body s = .next s := by
  simp [runItem, State.held, h]

/-- At an idle port an item is a frame of one item, executed at once (log 4). -/
theorem runItem_of_idle {i : Instr} {body : State → Answer} {s : State} (h : s.hold = none)
    (e : s.port.executing = false) :
    runItem i body s = .next ({ s with port := s.port.enter [] 1 }.executeItem i body) := by
  simp [runItem, State.held, h, e]

/-- The next item of a frame in execution (R180). -/
theorem runItem_of_next {i : Instr} {rest : List Instr} {body : State → Answer} {s : State} (h : s.hold = none)
    (e : s.port.executing = true) (k : s.port.items = i :: rest) :
    runItem i body s = .next ({ s with port := { s.port with items := rest } }.executeItem i body) := by
  simp [runItem, State.held, h, e, k]

/-! ### The end of an event -/

/-- A quiet event: no claim event, no trip, no actuator to settle, no decrease hold and no stagger timer started at 0. -/
abbrev Scratch.Quiet (e : Scratch) : Prop :=
  e.claimEvent = false ∧ e.tripped = false ∧ e.actuators = [] ∧ e.zeroHolds = [] ∧ e.zeroStagger = false

theorem Scratch.quiet_empty : Scratch.empty.Quiet := by decide

/-- Nothing is added to the blocks at the end of a quiet event. -/
theorem settle_quiet {s : State} (q : s.ev.Quiet) : s.settle = s := by
  obtain ⟨c, t, a, -⟩ := q
  simp [State.settle, State.settleClaims, State.settleActuators, State.setTripReason, c, t, a]

/-- A stagger timer that does not stand at 0 brings no expiry at once (R33). -/
theorem expireZeroStagger_of_ne {n : Nat} {s : State} (h : s.app.stagger ≠ some 0) : s.expireZeroStagger n = s := by
  cases n with
  | zero => rfl
  | succ n => simp [State.expireZeroStagger, h]

/-- A shed walk starts the stagger timer exactly where it takes a claim (R32). -/
theorem shedWalk_stagger (budget n : Nat) (a : Apportioner) :
    (a.shedWalk budget n).stagger = if a.grantedSum ≤ budget then a.stagger else some n := by
  unfold Apportioner.shedWalk
  split <;> rfl

/-- SHED_SERVICE starts the stagger timer exactly where it sheds a claim (R49). -/
theorem serviceShed_stagger (prio n : Nat) (a : Apportioner) :
    (a.serviceShed prio n).stagger = if a.serviceClaims prio = [] then a.stagger else some n := by
  unfold Apportioner.serviceShed
  split <;> simp_all [Apportioner.startStagger]

/-- A grant starts the stagger timer (R33). -/
theorem grant_stagger (g : GrantArgs) (i : Fin 16) (a : Apportioner) : (a.grant g i).stagger = some g.stagger := by
  unfold Apportioner.grant
  simp only
  split <;> rfl

/-- A grant opportunity leaves the stagger timer as it was or starts it (R33, R37). -/
theorem opportunity_stagger (g : GrantArgs) (a : Apportioner) :
    (a.opportunity g).stagger = a.stagger ∨ (a.opportunity g).stagger = some g.stagger := by
  unfold Apportioner.opportunity
  split
  · exact .inl rfl
  · split
    · exact .inr (grant_stagger ..)
    · split
      · exact .inr (grant_stagger ..)
      · split
        · exact .inl rfl
        · exact .inr (grant_stagger ..)

/-- An operation of the apportioner by itself notes no start of the stagger timer. -/
@[simp] theorem apportion_zeroStagger (s : State) (f : Apportioner → Apportioner) :
    (s.apportion f).ev.zeroStagger = s.ev.zeroStagger := by
  unfold State.apportion State.takeReport State.putRec
  simp only
  split <;> rfl

/-- An event that started no stagger timer at 0 ends with its own end (R33). -/
theorem endEvent_of_noZeroStagger {before s : State} (g : s.settle.ev.zeroStagger = false) :
    endEvent before s = closeEvent before s := by
  simp [endEvent, g]

/-- The stagger timer started at 0 and left there: its expiry follows at once, whatever stood in it before (R33). -/
theorem endEvent_of_zeroStagger {before s : State} (g : s.settle.ev.zeroStagger = true) :
    endEvent before s = (closeEvent before s).expireZeroStagger staggerRounds := by
  simp [endEvent, g]

/-- An event that leaves the stagger timer running on from above 0, or idle, ends with its own end. -/
theorem endEvent_of_ne {before s : State} (g : s.settle.app.stagger ≠ some 0) :
    endEvent before s = closeEvent before s := by
  have h : (closeEvent before s).app.stagger ≠ some 0 := g
  simp [endEvent, expireZeroStagger_of_ne h]

/-- An event that started no decrease hold and no stagger timer at 0 ends with its own end. -/
theorem finishEvent_of_noZeroTimer {before s : State} (z : s.settle.ev.zeroHolds = [])
    (g : s.settle.ev.zeroStagger = false ∨ s.settle.app.stagger ≠ some 0) :
    finishEvent before s = closeEvent before s := by
  rw [finishEvent, z]
  exact g.elim endEvent_of_noZeroStagger endEvent_of_ne

/-- What the end of one event brings about, and every expiry that follows at once keeps, holds after `finishEvent`. -/
theorem finishEvent_induct {P : State → Prop} {before s : State} (close : P (closeEvent before s))
    (hold : ∀ u z, P u → P (closeEvent u (u.holdExpired z))) (stagger : ∀ u, P u → P (closeEvent u u.staggerExpired)) :
    P (finishEvent before s) := by
  have staggers : ∀ (n : Nat) (u : State), P u → P (u.expireZeroStagger n) := by
    intro n
    induction n with
    | zero => exact fun _ p => p
    | succ n ih =>
      intro u p
      unfold State.expireZeroStagger
      split
      · exact ih _ (stagger u p)
      · exact p
  have ends : ∀ b u : State, P (closeEvent b u) → P (endEvent b u) := by
    intro b u p
    unfold endEvent
    simp only
    split
    · exact staggers _ _ p
    · exact p
  have holds : ∀ (zs : List Zone) (u : State), P u → P (zs.foldl State.expireZeroHold u) := by
    intro zs
    induction zs with
    | nil => exact fun _ p => p
    | cons z zs ih =>
      refine fun u p => ih _ ?_
      unfold State.expireZeroHold
      split
      · exact ends _ _ (hold u z p)
      · exact p
  exact holds _ _ (ends _ _ close)

/-- A quiet event ends with the lines driven and the revisions moved. -/
theorem finishEvent_quiet {before s : State} (q : s.ev.Quiet) :
    finishEvent before s = { s.drive with revs := bumpAll before.snapshot s.drive.snapshot s.drive.revs } := by
  have k := settle_quiet q
  rw [finishEvent_of_noZeroTimer (by rw [k]; exact q.2.2.2.1) (by rw [k]; exact .inl q.2.2.2.2), closeEvent, k]

/-- The end of a quiet event differs from the event's state, its lines driven, in revisions alone. -/
theorem changes_finishEvent_quiet {before s : State} (q : s.ev.Quiet) :
    Changes [.revs] s.drive (finishEvent before s) := by
  rw [finishEvent_quiet q]
  intro p hp
  cases p <;> first | rfl | exact absurd (by decide) hp

theorem snapshot_drive (s : State) : s.drive.snapshot = s.snapshot := rfl

/-- A claim event while the stagger timer runs gives no grant (R34). -/
theorem settleClaims_of_staggered {s : State} (h : StaggerRuns s) : s.settleClaims = s := by
  have k : s.app.stagger ≠ none := by
    intro e
    rw [StaggerRuns, e] at h
    cases h
  simp [State.settleClaims, State.grantOpportunity, k]

/-! ### Items at an idle port -/

/-- An entry whose result bytes are known when the item runs (R182). -/
theorem entry_bytes {s : State} {st : ItemStatus} {data : List Byte} (d : st ≠ .ok → data = []) :
    s.entry st (.bytes data) = countByte st.code :: countByte data.length :: data := by
  by_cases h : st = .ok
  · simp [State.entry, State.resultBytes, h]
  · simp [State.entry, h, d h]

/-- The last item of a frame with no RESTART due: its entry closes the response (R180, R182). -/
theorem addEntry_last {s : State} {st : ItemStatus} {data : List Byte} (i : s.port.items = [])
    (e : s.port.entries = []) (n : s.port.itemCount = 1) (r : s.port.restartDue = false) :
    s.addEntry (countByte st.code :: countByte data.length :: data) =
      { s with port := s.port.answered st data } := by
  simp [State.addEntry, State.endFrame, i, e, n, r, Port.answered, itemResponse]

end Sys2Proof.Machine
end

