-- ==== Sys2Proof/Tests/Slice0.lean ====
section
/-!
SUPPORT. Tests of the model's own: ill-formed terms that the check refuses, worked figures of the specification, the state
after reset, and for every statement with hypotheses states and operands that meet them, clause by clause.
-/
set_option Elab.async false
set_option maxRecDepth 20000

namespace Sys2Proof.Tests

open Sys2Proof.Machine

/-! ### Well-formedness: an ill-formed term for each check -/

theorem test_wf_linkFrame :
    (Instr.linkFrame (.twoWireWrite .fresh 128 [])).wf = false ∧ (Instr.linkFrame (.twoWireRead .fresh 128 3)).wf = false ∧
      (Instr.linkFrame (.twoWireRead .fresh 127 3)).wf = true := by decide

theorem test_wf_handles :
    (Instr.takeClaim (.short 256)).wf = false ∧ (Instr.takeClaim (.long 256 0)).wf = false ∧
      (Instr.takeClaim (.long 3 256)).wf = false ∧ (Instr.beginRoute (.short 256)).wf = false ∧
      (Instr.takeClaim (.long 255 255)).wf = true := by decide

theorem test_wf_guards :
    (Instr.retireClaim (.short 6) (some 256)).wf = false ∧ (Instr.runRoute (.short 2) (some 256)).wf = false ∧
      (Instr.retireRoute (.short 2) (some 256)).wf = false ∧ (Instr.acknowledge (.short 0) (some 256)).wf = false ∧
      (Instr.retireClaim (.short 256) none).wf = false ∧ (Instr.runRoute (.short 256) none).wf = false ∧
      (Instr.retireRoute (.short 256) none).wf = false ∧ (Instr.acknowledge (.short 256) none).wf = false := by decide

theorem test_wf_reads :
    (Instr.selectTable 256).wf = false ∧ (Instr.readFields (.short 256) 0 1).wf = false ∧
      (Instr.readFields (.short 0) 256 1).wf = false ∧ (Instr.readFields (.short 0) 0 256).wf = false := by decide

theorem test_wf_writeField :
    (Instr.writeField (.short 256) none 1 0).wf = false ∧ (Instr.writeField (.short 0) (some 256) 1 0).wf = false ∧
      (Instr.writeField (.short 0) none 256 0).wf = false ∧
      (Instr.writeField (.short 0) none 1 2147483648).wf = false ∧
      (Instr.writeField (.short 0) none 1 (-2147483649)).wf = false ∧
      (Instr.writeField (.short 0) none 1 (-2147483648)).wf = true := by decide

theorem test_wf_claims :
    (Instr.openClaim (.short 256) 0 1 0).wf = false ∧ (Instr.openClaim (.short 6) 256 1 0).wf = false ∧
      (Instr.openClaim (.short 6) 0 65536 0).wf = false ∧ (Instr.openClaim (.short 6) 0 1 65536).wf = false ∧
      (Instr.amendClaim (.short 256) none 1).wf = false ∧ (Instr.amendClaim (.short 6) (some 256) 1).wf = false ∧
      (Instr.amendClaim (.short 6) none 65536).wf = false := by decide

theorem test_wf_segment :
    (Instr.segment 256 0 0 0 0).wf = false ∧ (Instr.segment 0 8388608 0 0 0).wf = false ∧
      (Instr.segment 0 (-8388609) 0 0 0).wf = false ∧ (Instr.segment 0 0 256 0 0).wf = false ∧
      (Instr.segment 0 0 0 256 0).wf = false ∧ (Instr.segment 0 0 0 0 65536).wf = false := by decide

theorem test_wf_others :
    (Instr.restoreYaw 65536 0).wf = false ∧ (Instr.restoreYaw 0 2147483648).wf = false ∧
      (Instr.acknowledgeLine 256).wf = false ∧ (Instr.unknownItem 32 false false).wf = false ∧
      (Instr.unknownItem 23 false false).wf = false ∧ (Instr.unknownItem 23 true false).wf = true := by decide

/-! ### Bytes -/

/-- The NO_RESPONSE frame is 0x03, 0x00, 0x3F (R182): its CRC-8. -/
theorem test_crc_noResponse : crc8 [0x03#8, 0x00#8] = 0x3F#8 := by decide

/-- A frame of a guarded WRITE FIELD with a long handle and a chained FREEZE, written out from 10.6-2. -/
theorem test_parse_frame :
    parseItems 8 [0xE3#8, 0x01#8, 0x17#8, 0x05#8, 0x01#8, 0xFF#8, 0xFF#8, 0xFF#8, 0xFE#8, 0x17#8] =
      some [.writeField (.long 1 23) (some 5) 1 (-2), .freeze] := by decide

/-- A SEGMENT: kind, target in three bytes, direction, speed, dwell in two (10.6-2). -/
theorem test_parse_segment :
    parseItem [0x09#8, 0x01#8, 0xFF#8, 0xFF#8, 0x9C#8, 0x03#8, 0x00#8, 0x00#8, 0x14#8] =
      some (.segment 1 (-100) 3 0 20, false, []) := by decide

/-- An item cut short, and bytes after the last item, are refused FORMAT (R179). -/
theorem test_parse_refused :
    parseItems 8 [0x01#8] = none ∧ parseItems 8 [0x17#8, 0x17#8] = none ∧ parseItems 8 [0x97#8] = none := by decide

/-! ### Figures worked in the specification -/

/-- R104: a CONV zone at 40.0 °C gives level 8. -/
theorem test_level : zoneLimitDefaults.conv.level (some 400) = 8 := by decide

/-- R103: a GEN zone at 120.0 °C is WARM with a ceiling of 70 %. -/
theorem test_ceiling : zoneLimitDefaults.gen.ceiling 40 .warm (some 1200) = 70 := by decide

/-- R102: XFMR stays WARM at 93.1 °C, is NORMAL at 93.0 °C, and falls from CRITICAL to WARM at 107.5 °C. -/
theorem test_thermal :
    zoneLimitDefaults.xfmr.judge .warm (some 931) = .warm ∧ zoneLimitDefaults.xfmr.judge .warm (some 930) = .normal ∧
      zoneLimitDefaults.xfmr.judge .critical (some 1075) = .warm := by decide

/-- R121: the short window yields no mean at 312 readings and one at 313; a mean truncates toward zero. -/
theorem test_mean :
    Window.mean ⟨0, 10000, 312, 5, false⟩ = none ∧ Window.mean ⟨0, 10000, 313, -625, false⟩ = some (-1) := by decide

/-- R110: a CONV pump with demand 10 and granted 87 runs at level 8. -/
theorem test_paid : State.reset.paidLevel .conv 87 10 = 8 := by decide +kernel

/-- R123: halves of a turn are taken toward zero. -/
theorem test_turns : nearestTurns 90000 = 2 ∧ nearestTurns 90001 = 3 ∧ nearestTurns (-90000) = -2 := by decide

/-! ### States -/

/-- No condition present, nothing told, every line driven accordingly. -/
def calm : State :=
  let s := { State.reset with cond := ⟨freshRecords, Consequences.none⟩ }
  { s with out := s.outputs }

/-- With the stagger timer running. -/
def staggered (s : State) : State := { s with app := { s.app with stagger := some 100 } }

/-- With a claim in a slot and in the collection of its state. -/
def withClaim (i : Fin 16) (st : ClaimState) (consumer asked granted : Nat) (s : State) : State :=
  { s with
    app :=
      { s.app with
        claims := s.app.claims.set i ⟨st, consumer, 3, asked, granted, 7, none, none,
          if st = .offered then some 0 else none⟩
        standing := if st = .held ∨ st = .offered then [i] else []
        waiting := if st = .waiting ∨ (st = .held ∧ granted < asked) then [i] else []
        shedStack := if st = .shed then [i] else [] } }

/-- With the converter in a state and step, its sequence timer running. -/
def withConv (st : ConverterState) (step : Option SequenceStep) (s : State) : State :=
  { s with conv := { s.conv with state := st, step := step, seqLeft := some 0 } }

/-- With the yaw engine in a state at position 1 of route 2, its stage timer running, the yaw known. -/
def withEngine (e : EngineState) (s : State) : State :=
  { s with
    yaw :=
      { s.yaw with
        known := true, engine := e, route := some 2, position := 1, stageLeft := some 0, idleLeft := some 0,
        budgetLeft := some 0 } }

/-- With route 2 in a state over segment slot 2. -/
def withRoute (st : RouteState) (s : State) : State :=
  (s.setRoute 2 ⟨st, [2], some 0, none, none⟩).setSegment 2 (some ⟨2, 1, .relative, 500, .cw, .normal, 3⟩)

/-- With route 2 composing. -/
def composing (s : State) : State :=
  { s.setRoute 2 ⟨.composing, [], none, none, none⟩ with port := { s.port with composing := some 2 } }

/-- With a frame in execution that holds the items. -/
def executing (items : List Instr) (s : State) : State :=
  { s with port := { s.port with executing := true, items := items, itemCount := items.length } }

/-- With a line's raw level and its filter timer at 0. -/
def withLine (l : Line) (raw : Bool) (s : State) : State :=
  { s with
    inputs := { s.inputs with raw := s.inputs.raw.set l raw, filters := s.inputs.filters.set l ⟨!raw, some 0⟩ } }

/-- With BRAKE_OPEN filtered active. -/
def brakeOpen (s : State) : State :=
  { s with inputs := { s.inputs with filters := s.inputs.filters.set .brakeOpen ⟨true, none⟩ } }

/-- TURNING at position 1 of route 2, clockwise toward a twist, the brake open. -/
def turning (target : Int) (s : State) : State :=
  let t := brakeOpen (withEngine .turning (withRoute .running s))
  { t with
    yaw :=
      { t.yaw with
        direction := some .cw, target := some target, stageLeft := none, idleLeft := some 5, budgetLeft := some 5 } }

/-- With route 2 RUNNING and its engine in a state, and the filter timer of BRAKE_OPEN at 0 with the raw level given. -/
def braked (raw : Bool) (e : EngineState) (s : State) : State := withLine .brakeOpen raw (withEngine e (withRoute .running s))

/-- With a twist. -/
def twisted (v : Int) (s : State) : State := { s with yaw := { s.yaw with twist := v } }

/-- With every pool slot of the segments taken. -/
def poolFull (s : State) : State :=
  { s with
    routes := { s.routes with segments := Vector.replicate 24 (some ⟨5, 1, .relative, 500, .cw, .normal, 3⟩) } }

/-- With a supply state, its holds running. -/
def withSupply (st : SupplyState) (s : State) : State :=
  { s with supply := { s.supply with state := st, recovery := some 0, reconnect := some 0 } }

/-- With a value and an age timer at 0 in a slow channel, the stream LIVE with its stale timer at 0. -/
def withChannel (c : Fin 8) (v : Int) (s : State) : State :=
  { s with
    meter := { s.meter with live := true, staleLeft := some 0, channels := s.meter.channels.set c ⟨some v, some 0⟩ } }

/-- With the below-time of point 1 at its limit. -/
def atLimit (s : State) : State := { s with supply := { s.supply with below := s.supply.below.set 0 3000 } }

/-- A meter frame: sequence number, every phase at a per-mille, the link voltage, a slow channel and its value. -/
def meterRun (seq vmin vdc channel slow : Nat) : List Byte :=
  let b := 0xA5#8 :: (toBytes 1 seq ++ toBytes 2 vmin ++ toBytes 2 vmin ++ toBytes 2 vmin ++ toBytes 2 5000 ++
    toBytes 2 vdc ++ toBytes 1 0 ++ toBytes 1 channel ++ toBytes 2 slow)
  b ++ [crc8 b]

/-- A meter frame at 1000 V whose slow value is 300. -/
def sampleFrame (seq vmin channel : Nat) : List Byte := meterRun seq vmin 1000 channel 300

/-- The state of an answer that is one. -/
def nextOf (o : Result) : Option State :=
  match o with
  | .next t => some t
  | _ => none

/-- An answer whose state is there is that state. -/
theorem nextOf_isSome {o : Result} (h : (nextOf o).isSome = true) : ∃ t, o = .next t := by
  cases o with
  | next t => exact ⟨t, rfl⟩
  | fault f => cases f
  | refused r => simp [nextOf] at h

/-! ### The state after reset -/

/-- The state after power-up, from the state after reset. -/
def poweredUp : Option State := (nextOf (execPowerUp false State.reset)).bind fun t => nextOf (execPowerUpSequenceComplete t)

/-- Power-up and the end of its sequence leave State.reset. -/
theorem test_powerUp_gives_reset : poweredUp = some State.reset := by decide +kernel

/-! ### Orders within one command -/

/-- R106: with LEVEL_DECREASE_HOLD at 0 the demand level falls within the command whose evaluation started the hold. -/
theorem test_zeroHold_falls_at_once :
    let s := (withChannel 2 400 calm).putSetting Setting.levelDecreaseHold 0
    let t := s.setZone .conv { s.cool.zones.conv with demand := 8, target := 8, computed := some 8 }
    (nextOf (exec (.meterFrame (sampleFrame 7 1000 2)) t)).map
      (fun u => (u.cool.zones.conv.target, u.cool.zones.conv.demand, u.cool.zones.conv.hold)) = some (4, 4, none) := by decide +kernel

/-- R101 item 6: the effective level follows the last answer of the apportioner, so that a flow check goes on where DUTY_1
has been raised above the grant and the event's own grant pays for it. -/
theorem test_flowCheck_outlives_dutyRaised :
    let s := (withConv .off none (withClaim 1 .held 1 30 30 (withChannel 2 310 calm))).putSetting (Setting.duty 1) 21
    let s := { s with app := s.app.setClaim 1 { s.claim 1 with priority := 7 } }
    let t := (s.setZone .conv
      { s.cool.zones.conv with
        demand := 1, target := 1, hold := some 0, actuatorDemand := 1, effective := 1, computed := some 1 }).setFlow
          .conv ⟨.awaiting, some 7⟩
    (nextOf (exec (.decreaseHoldExpiry .conv) t)).map
      (fun u => ((t.claim 1).granted, (u.claim 1).granted, u.cool.zones.conv.effective, u.cool.flow.conv)) =
        some (30, 32, 1, ⟨.awaiting, some 7⟩) := by decide +kernel

/-- R101 (log 37): a threshold write that is the first evaluation of a stale zone gives it level 15. -/
theorem test_thresholdWrite_isFirstEvaluation :
    (calm.cool.zones.get .cab).computed = none ∧
      (nextOf (exec (.writeField (.long 6 4) none 8 200) calm)).map
        (fun t => ((t.cool.zones.get .cab).computed, (t.cool.zones.get .cab).demand)) = some (some 15, 15) := by
  decide +kernel

/-- R121 (log 41): a window of 5 s, whose expected count is 312.5, yields no mean at 156 readings and one at 157. -/
theorem test_mean_halfExpected :
    Window.mean ⟨0, 5000, 156, 156, false⟩ = none ∧ Window.mean ⟨0, 5000, 157, 157, false⟩ = some 1 := by decide

/-- R177 (log 5): a 4-wire transfer of a part of a byte alone is refused FORMAT; one of no byte is no frame. -/
theorem test_partByteAlone_isRefused :
    (nextOf (exec (.linkFrame (.fourWire .fresh [] true)) calm)).map (·.port.prepared) = some (refusalFrame frameFormat) ∧
      nextOf (exec (.linkFrame (.fourWire .fresh [] false)) calm) = some (calm.shiftOut (some [])) := by decide +kernel

/-- R33: at STAGGER 0 the timer that a grant starts expires at once, so that both claims that wait are granted. -/
theorem test_zeroStagger_grants_on :
    let s := (withClaim 6 .waiting 9 200 0 calm).putSetting Setting.stagger 0
    let t : State :=
      { s with
        app :=
          { s.app.setClaim 7 ⟨.waiting, 10, 3, 100, 0, 7, none, none, none⟩ with
            waiting := [6, 7], stagger := some 0 } }
    (nextOf (exec .staggerTimerExpiry t)).map (fun u => ((u.claim 6).granted, (u.claim 7).granted, u.app.stagger)) =
      some (200, 100, none) := by decide +kernel

/-- Log 42: a reading of CONV above START opens the claim of Fans A, slot 3, before the first evaluation of CHOP. -/
theorem test_sharedFans_openBeforeFirstEvaluation :
    let s := staggered calm
    (s.cool.zones.get .chop).computed = none ∧
      (nextOf (exec (.meterFrame (meterRun 7 990 1000 2 450)) s)).map
          (fun t => ((t.claim 3).state, (t.cool.zones.get .chop).computed)) = some (.waiting, none) := by decide +kernel

/-- R33: a shed walk that starts the timer anew at STAGGER 0, where it stood at 0 with its expiry due, is followed by the
expiry at once; an event that does not start it leaves the expiry due. -/
theorem test_zeroStagger_restarted :
    let s := (withConv .off none (withClaim 6 .held 9 220 220 calm)).putSetting Setting.stagger 0
    let t : State :=
      { s with
        app :=
          { s.app.setClaim 7 ⟨.waiting, 10, 3, 100, 0, 7, none, none, none⟩ with waiting := [7], stagger := some 0 } }
    (nextOf (exec (.writeField (.long 1 0) none 1 320) t)).map
        (fun u => ((u.claim 6).state, (u.claim 7).granted, u.app.stagger)) = some (.shed, 100, none) ∧
      (nextOf (exec .freeze t)).map (fun u => ((u.claim 7).granted, u.app.stagger)) = some (0, some 0) := by
  decide +kernel

/-! ### What the statements assume is met -/

theorem test_meets_StepRunsFront : ({ calm with pending := [.freeze] } : State).pending = .freeze :: [] := rfl

theorem test_meets_StepOnEmptyQueue :
    (executing [.freeze] calm).pending = [] ∧ (executing [.freeze] calm).port.items = [.freeze] ∧
      (executing [.freeze] calm).port.executing = true ∧ (executing [.freeze] calm).hold = none ∧
      calm.port.items = [] ∧ calm.due = [] ∧ ({ calm with supply := { calm.supply with recovery := some 0 } } : State).due =
        [.recoveryHoldExpiry] ∧ 2 ≤ (withSupply .dip calm).due.length := by decide +kernel

theorem test_meets_StepKeepsLinesDriven : LinesDriven calm ∧ ∃ t, step calm = .next t :=
  ⟨by decide +kernel, nextOf_isSome (by decide +kernel)⟩

theorem test_meets_StepKeepsRanges : Carried calm ∧ ∃ t, step calm = .next t :=
  ⟨by unfold Carried RevisionsKept; decide +kernel, nextOf_isSome (by decide +kernel)⟩

theorem test_meets_StepKeepsWithinBudget :
    WithinBudget (withClaim 6 .held 9 200 150 calm) ∧ ∃ t, step (withClaim 6 .held 9 200 150 calm) = .next t := by
  refine ⟨?_, nextOf_isSome (by decide +kernel)⟩
  unfold WithinBudget Apportioner.Consistent
  exact ⟨by decide +kernel, by decide +kernel⟩

/-- The laws of the yaw in two halves, each of which is decided. -/
theorem yawLaws_of_halves {s : State} (h : Composes s ∧ OneRuns s ∧ UnknownParked s)
    (h' : SlotsOwned s ∧ DrivesSafely s ∧ WindsWithin s) : YawLaws s := ⟨h.1, h.2.1, h.2.2, h'⟩

theorem yawLaws_composing : YawLaws (composing calm) := by
  apply yawLaws_of_halves <;> simp only [Composes, OneRuns, SlotsOwned, DrivesSafely, WindsWithin] <;> decide +kernel

theorem yawLaws_turning : YawLaws (turning 4000 calm) := by
  apply yawLaws_of_halves <;> simp only [Composes, OneRuns, SlotsOwned, DrivesSafely, WindsWithin] <;> decide +kernel

theorem yawLaws_unwinding : YawLaws (twisted (-108000) (turning 4000 calm)) := by
  apply yawLaws_of_halves <;> simp only [Composes, OneRuns, SlotsOwned, DrivesSafely, WindsWithin] <;> decide +kernel

/-- The laws of the yaw read neither the claims nor the lines. -/
theorem yawLaws_gated {s : State} (h : YawLaws s) (i : Fin 16) (st : ClaimState) (c asked granted : Nat) (o : Outputs) :
    YawLaws { withClaim i st c asked granted s with out := o } := h

theorem test_meets_StepKeepsComposes :
    Composes (composing calm) ∧ (∃ t, step (composing calm) = .next t) ∧ YawLaws (composing calm) ∧
      YawLaws (turning 4000 calm) ∧ (∃ t, step (turning 4000 calm) = .next t) ∧
      ((turning 4000 calm).routes.routes[(2 : Fin 6)]).state = .running ∧
      (2 : Fin 24) ∈ ((turning 4000 calm).routes.routes[(2 : Fin 6)]).slots ∧
      (composing calm).yaw.known = false ∧ (turning 4000 calm).yaw.engine = .turning ∧
      YawLaws (twisted (-108000) (turning 4000 calm)) ∧
      (turning 4000 calm).setting Setting.twistHardLimit ≤ (-108000 : Int).natAbs :=
  ⟨yawLaws_composing.1, nextOf_isSome (by decide +kernel), yawLaws_composing, yawLaws_turning,
    nextOf_isSome (by decide +kernel), by decide +kernel, by decide +kernel, by decide +kernel, by decide +kernel,
    yawLaws_unwinding, by decide +kernel⟩

theorem test_meets_HeldPartActsOnNothing :
    ({ calm with hold := some ⟨.cold, .coldLine, [], []⟩ } : State).hold.isSome = true ∧
      (Instr.freeze).reachesHeld = false ∧ (Instr.staleTimerExpiry).reachesHeld = false := by decide

theorem test_meets_RevisionsFollowHeldFields :
    Between calm ∧ calm.port.restartDue = false ∧ RevisionsKept calm ∧ (Instr.freeze).resets = false ∧
      1 ≤ (calm.putSetting Setting.levelDecreaseHold 1).setting Setting.levelDecreaseHold ∧
      1 ≤ calm.setting Setting.levelDecreaseHold ∧ 1 ≤ calm.setting Setting.stagger ∧
      (∃ t, exec .freeze calm = .next t) ∧ 31 < tableCount 10 ∧
      (withRoute .ready calm).revs = calm.revs :=
  ⟨by decide +kernel, rfl, by unfold RevisionsKept; decide +kernel, rfl, by decide +kernel, by decide +kernel,
    by decide +kernel, nextOf_isSome (by decide +kernel), by decide, rfl⟩

theorem test_meets_LinesObeyLaws :
    let s := withClaim 0 .held 0 370 370 (turning 4000 calm)
    let t : State := { s with out := s.outputs }
    LinesDriven calm ∧ (withClaim 1 .held 1 150 150 (withConv .running none calm)).outputs.pulsePermit = true ∧
      LinesDriven t ∧ YawLaws t ∧ t.out.yawCw = true :=
  ⟨by decide +kernel, by decide +kernel, by decide +kernel, yawLaws_gated yawLaws_turning .., by decide +kernel⟩

/-- A twist at the limit is unwound with the drive line on. -/
theorem test_meets_LinesObeyLaws_atLimit :
    let u := withClaim 0 .held 0 370 370 (twisted (-108000) (turning 4000 calm))
    let w : State := { u with out := u.outputs }
    LinesDriven w ∧ YawLaws w ∧ w.setting Setting.twistHardLimit ≤ w.yaw.twist.natAbs ∧ w.yaw.twist < 0 ∧
      w.out.yawCw = true :=
  ⟨by decide +kernel, yawLaws_gated yawLaws_unwinding .., by decide +kernel, by decide +kernel, by decide +kernel⟩

theorem test_meets_ComputedLevel :
    (zoneLimitDefaults.conv.start < zoneLimitDefaults.conv.full) ∧ (300 : Int) ≤ zoneLimitDefaults.conv.start ∧
      (zoneLimitDefaults.conv.full : Int) ≤ 500 ∧ (zoneLimitDefaults.conv.start : Int) < 301 ∧
      (499 : Int) < zoneLimitDefaults.conv.full ∧
      15 * ((340 : Int) - zoneLimitDefaults.conv.start) =
        3 * ((zoneLimitDefaults.conv.full : Int) - zoneLimitDefaults.conv.start) := by decide

theorem test_meets_ThermalStateJudged :
    zoneLimitDefaults.gen.warm < zoneLimitDefaults.gen.hot ∧ zoneLimitDefaults.gen.hot < zoneLimitDefaults.gen.critical ∧
      (zoneLimitDefaults.gen.warm : Int) ≤ 1100 ∧ (zoneLimitDefaults.gen.critical : Int) ≤ 1450 ∧
      (1299 : Int) < zoneLimitDefaults.gen.hot ∧ ThermalState.normal.code < ThermalState.warm.code ∧
      1 ≤ ThermalState.warm.code := by decide

theorem test_meets_OnsetCounts :
    (2147483647 : Nat) ≤ 2147483647 ∧ (600 : Nat) < 5 + 2147483648 - 2147483000 ∧
      (freshRecords[0]).burst = none ∧ 5 + 2147483648 - 2147483053 ≤ 600 := by decide +kernel

theorem test_meets_ShedWalkFits :
    (withClaim 6 .held 9 200 150 calm).app.Consistent ∧ 100 < (withClaim 6 .held 9 200 150 calm).app.grantedSum ∧
      (withClaim 6 .held 9 200 150 calm).app.grantedSum ≤ 150 ∧
      (6 : Fin 16) ∉ ((withClaim 6 .held 9 200 150 calm).app.shedWalk 149 300).standing ∧
      (6 : Fin 16) ∈ ((withClaim 6 .held 9 200 150 calm).app.shedWalk 150 300).standing := by
  unfold Apportioner.Consistent
  decide +kernel

theorem test_meets_ItemRoundTrip :
    (Instr.openClaim (.long 2 9) 5 220 65535).wf = true ∧
      (encodeItem true (.openClaim (.long 2 9) 5 220 65535)).isSome = true ∧
      (Instr.restoreYaw 35999 (-360000)).wf = true ∧ (encodeItem false (.unknownItem 31 true true)).isSome = true := by
  decide

theorem test_meets_TransferTakesFrame :
    calm.hold = none ∧ calm.port.form = .fourWire ∧ calm.port.executing = false ∧
      (executing [.freeze] calm).port.executing = true ∧
      ({ calm with port := { calm.port with form := .twoWire } } : State).port.form = .twoWire ∧
      judgeFrame [0#8] = .fetch ∧ (List.replicate 65 1#8).length = 65 ∧
      judgeFrame [0x17#8, 0#8] = .refused frameCrcBad ∧ judgeFrame [0x97#8, crc8 [0x97#8]] = .refused frameFormat ∧
      judgeFrame [0x17#8, crc8 [0x17#8]] = .request [.freeze] ∧ calm.port.address + 1 ≠ calm.port.address ∧
      (executing [.freeze] { calm with port := { calm.port with form := .twoWire } }).port.executing = true ∧
      [0#8] ≠ [] := by decide +kernel

theorem test_meets_FrameRunsOn :
    (executing [.freeze, .charge] calm).hold = none ∧ (executing [.freeze, .charge] calm).port.executing = true ∧
      (Instr.freeze).isItem = true ∧ (executing [.freeze, .charge] calm).port.items = .freeze :: [.charge] ∧
      (executing [.freeze] calm).port.items = [.freeze] ∧ Instr.freeze ≠ .restart ∧
      (executing [.freeze] calm).port.restartDue = false := by decide

theorem test_meets_PortRefuses :
    PortIdle (composing calm) ∧ (composing calm).port.composing.isSome = true ∧ (Instr.freeze).isItem = true ∧
      passesLock .freeze = false ∧ PortIdle calm := by decide +kernel

theorem test_meets_CurrentTableIsSet :
    Ready calm ∧ 10 < 11 ∧ ¬(11 < 11) ∧ tableCount calm.port.table ≤ 1 ∧ tableCount 10 ≤ 32 := by decide +kernel

theorem test_meets_ReadFieldsFollowsCursor :
    Ready calm ∧ (resolve (.long 10 31) calm).2 = some (10, 31) ∧ (resolve (.short 0) calm).2 = some (0, 0) ∧
      16 ≤ highestField 10 ∧ highestField 0 < 8 ∧ 0 < (calm.cursor 10 16 31 16).length := by decide +kernel

theorem test_meets_WriteSetting :
    Ready calm ∧ (resolve (.long 1 23) calm).2 = some (1, 23) ∧ guardPasses calm (some 0) 1 23 = true ∧
      (settingSpecs[23]).lo ≤ 2000 ∧ 2000 ≤ (settingSpecs[23]).hi ∧ calm.crossCheck 23 2000 = true ∧
      (settingSpecs[23]).cls = .tuning ∧ (settingSpecs[6]).cls = .protection ∧ calm.store.frozen = false ∧
      (withConv .off none calm).conv.state = .off ∧ calm.yaw.engine = .parked := by decide +kernel

theorem test_meets_WriteSetting_actedOn :
    let s := withConv .off none (withClaim 6 .held 9 200 200 calm)
    Ready s ∧ Judged s ∧ s.store.frozen = false ∧ s.conv.state = .off ∧ s.yaw.engine = .parked ∧
      (∀ i : Fin 16, i ∈ s.app.candidates s.grantArgs.service ∨ i ∈ s.app.standing → 6 ≤ i.val) ∧
      1 ≤ s.setting Setting.stagger ∧ s.app.stagger = none ∧
      (∀ p : Fin 7,
        let k : Fin 86 := [0, 0, 4, 8, 8, 49, 50].getD p.val 0
        let v : Nat := [320, 4000, 0, 1, 6, 36000, 180000].getD p.val 0
        (resolve (.long 1 k.val) s).2 = some (1, k.val) ∧ guardPasses s none 1 k.val = true ∧
          (settingSpecs[k]).lo ≤ v ∧ v ≤ (settingSpecs[k]).hi ∧ s.crossCheck k.val v = true) ∧
      (s.putSetting 0 319).apportionable < (withClaim 6 .held 9 200 200 calm).app.grantedSum := by decide +kernel

theorem test_meets_WriteRefused :
    Ready calm ∧ (resolve (.long 1 6) calm).2 = some (1, 6) ∧ guardPasses calm (some 1) 1 6 = false ∧
      guardPasses calm none 1 6 = true ∧ highestField 1 < 6 ∧ writeTarget 1 6 2 = none ∧
      writeTarget 1 6 1 = some (.setting 6) ∧ (WriteTarget.setting 6).inBounds 9 = false ∧
      ((WriteTarget.setting 6).inBounds 10 && calm.crossFits (.setting 6) 10) = true ∧
      (WriteTarget.setting 6).cls = .protection ∧ Judged calm ∧
      ({ calm with store := { calm.store with frozen := true } } : State).store.frozen = true ∧
      calm.store.frozen = false ∧ calm.conv.state ≠ .off := by decide +kernel

theorem test_meets_WriteRefused_checks :
    Carried calm ∧ zoneOf 4 = some .cab ∧
      (∀ p : Fin 18,
        let k : Fin 86 := [0, 4, 4, 5, 8, 9, 10, 13, 21, 22, 49, 50, 53, 54, 68, 82, 14, 6].getD p.val 0
        let v : Nat := [120, 450, 451, 900, 6, 919, 900, 0, 5150, 4750, 108000, 89999, 60, 10, 25, 94, 999, 10].getD p.val 0
        settingSpecs[k].lo ≤ v ∧ v ≤ settingSpecs[k].hi ∧
          calm.crossFits (.setting k) v =
            [true, true, false, false, true, true, false, true, false, false, true, false, false, false, true, true, true,
              true].getD p.val false) := by
  unfold Carried RevisionsKept
  decide +kernel

theorem test_meets_WriteRecordReplacesField :
    Ready calm ∧ (resolve (.long 10 31) calm).2 = some (10, 31) ∧ guardPasses calm none 10 31 = true ∧
      (resolve (.long 6 4) calm).2 = some (6, 4) ∧ zoneOf 4 = some .cab ∧ guardPasses calm none 6 4 = true ∧
      ((calm.cool.zones.get .cab).limits.put 8 399).ordered = true ∧
      ((calm.cool.zones.get .cab).limits.put 12 4000).ordered = true ∧
      (withConv .off none calm).conv.state = .off := by decide +kernel

theorem test_meets_FreezeSetsFlag : Ready calm := by decide +kernel

theorem test_meets_RestartIsWarmReset :
    Ready calm ∧ [0, 1, 11, 12, 13, 14, 15, 23, 27, 28].contains (31 : Fin 32).val = false ∧
      ((calm.setRec 31 { calm.cond.recs[31] with state := .latched }).cond.recs[31]).state = .latched ∧
      catalogue[31].latching = true ∧ (calm.cond.recs[31]).state ≠ .latched ∧
      Between (executing [.restart, .freeze] calm) ∧ (executing [.restart, .freeze] calm).port.composing = none ∧
      (let s := executing [.freeze] calm
       let t : State := { s with port := { s.port with restartDue := true } }
       Between t ∧ t.port.executing = true ∧ t.port.restartDue = true ∧ t.port.items = [.freeze] ∧
         (Instr.freeze).isItem = true) := by
  decide +kernel

theorem test_meets_OpenClaimTakesLowestSlot :
    Ready calm ∧ (resolve (.long 2 9) calm).2 = some (2, 9) ∧ 220 ≤ ratedAsk 9 ∧
      (∀ k : Fin 16, (calm.claim k).state ≠ .free → (calm.claim k).consumer ≠ 9) ∧ (calm.claim 6).state = .free ∧
      (∀ k : Fin 16, 6 ≤ k.val → k.val < 6 → (calm.claim k).state ≠ .free) ∧ StaggerRuns (staggered calm) ∧
      ShedReported (staggered calm) ∧ Ready (staggered calm) := by decide +kernel

theorem test_meets_AmendClaimChangesAsked :
    let s := withClaim 6 .held 9 200 150 calm
    Ready s ∧ GrantsNothing (Apportioner.amend 6 150) s ∧ GrantsNothing (Apportioner.amend 6 220) (staggered s) ∧
      ShedReported s ∧ (resolve (.long 3 6) s).2 = some (3, 6) ∧ guardPasses s (some 0) 3 6 = true ∧
      (s.claim 6).state ≠ .free ∧ 220 ≤ ratedAsk (s.claim 6).consumer := by decide +kernel

theorem test_meets_TakeClaimCollectsOffer :
    let s := withClaim 6 .offered 9 200 200 calm
    Ready s ∧ GrantsNothing (Apportioner.collect 6) s ∧ ShedReported s ∧ (resolve (.long 3 6) s).2 = some (3, 6) ∧
      (s.claim 6).state = .offered ∧ (calm.claim 6).state = .free ∧
      ((withClaim 6 .waiting 9 200 0 calm).claim 6).state = .waiting := by decide +kernel

theorem test_meets_RetireClaimFreesSlot :
    let s := withClaim 6 .held 9 200 150 calm
    Ready s ∧ GrantsNothing (Apportioner.release 6) s ∧ ShedReported s ∧ (resolve (.long 3 6) s).2 = some (3, 6) ∧
      guardPasses s none 3 6 = true ∧ (s.claim 6).state ≠ .free := by decide +kernel

theorem test_meets_OfferLapses :
    let s := withClaim 15 .offered 18 32 32 calm
    Between s ∧ Judged s ∧ GrantsNothing (Apportioner.release 15) s ∧ (s.claim 15).state = .offered ∧
      (s.claim 15).offerLeft.isSome = true := by decide +kernel

theorem test_meets_StaggerGrants :
    let s := staggered (withClaim 6 .waiting 9 200 0 calm)
    Between s ∧ StaggerRuns s ∧ s.app.candidates s.grantArgs.service = [6] ∧ s.app.fits s.apportionable 6 = true ∧
      (staggered calm).app.candidates (staggered calm).grantArgs.service = [] ∧ ShedReported (staggered calm) ∧
      StaggerRuns (staggered calm) ∧ Between (staggered calm) := by decide +kernel

/-- A claim HELD at 200 in slot 6, one WAITING for 100 in slot 7, one WAITING for 20 in slot 8, by priorities. -/
def contended (held first second : Nat) : Apportioner :=
  { calm.app with
    claims :=
      ((calm.app.claims.set 6 ⟨.held, 9, held, 200, 200, 7, none, none, none⟩).set 7
        ⟨.waiting, 10, first, 100, 0, 7, none, none, none⟩).set 8 ⟨.waiting, 11, second, 20, 0, 7, none, none, none⟩
    standing := [6], waiting := [7, 8] }

theorem test_meets_StaggerGrants_consistent :
    (contended 1 4 2).Consistent ∧ (contended 5 4 2).Consistent := by
  unfold Apportioner.Consistent
  exact ⟨by decide +kernel, by decide +kernel⟩

theorem test_meets_StaggerGrants_contended :
    (contended 1 4 2).candidates none = 7 :: [8] ∧
      (contended 1 4 2).fits 299 7 = false ∧ (contended 1 4 2).roomByShedding 299 7 = true ∧
      (contended 5 4 2).candidates none = 7 :: [8] ∧
      (contended 5 4 2).fits 220 7 = false ∧ (contended 5 4 2).roomByShedding 220 7 = false ∧
      [(8 : Fin 16)].find? ((contended 5 4 2).fits 220) = some 8 ∧
      [(8 : Fin 16)].find? ((contended 5 4 2).fits 219) = none := by decide +kernel

theorem test_meets_StaggerGrants_engineClaim :
    (∀ z : Fin 5, let i := homeSlot (allZones[z.val]'z.isLt)
      let s := staggered (withClaim i .waiting i.val 30 0 calm)
      Between s ∧ StaggerRuns s ∧ s.app.candidates s.grantArgs.service = [i] ∧ i.val < 6 ∧
        s.app.fits s.apportionable i = true ∧ (s.claim i).granted < (s.claim i).asked ∧ (s.claim i).state ≠ .held) ∧
      (let s := staggered (withClaim 0 .waiting 0 370 0 (withEngine .claiming (withRoute .running calm)))
       Between s ∧ StaggerRuns s ∧ s.app.candidates s.grantArgs.service = [0] ∧ s.app.fits s.apportionable 0 = true ∧
         (s.claim 0).granted < (s.claim 0).asked ∧ (s.claim 0).state ≠ .held ∧ s.yaw.engine = .claiming ∧
         s.level .brakeOpen = false) ∧
      (let s := staggered (withClaim 6 .waiting 9 200 0 calm)
       (∀ i : Fin 16, i ∈ s.app.candidates s.grantArgs.service ∨ i ∈ s.app.standing → 6 ≤ i.val) ∧
         1 ≤ s.setting Setting.stagger) := by decide +kernel

theorem test_meets_StaggerGrants_zeroStagger :
    let t := calm.putSetting Setting.stagger 0
    let s : State :=
      { t with
        app :=
          { (t.app.setClaim 6 ⟨.waiting, 9, 3, 200, 0, 7, none, none, none⟩).setClaim 7
              ⟨.waiting, 10, 3, 100, 0, 7, none, none, none⟩ with
            waiting := [6, 7], stagger := some 0 } }
    Between s ∧ StaggerRuns s ∧ s.app.Consistent ∧ s.app.candidates s.grantArgs.service = [6, 7] ∧
      s.setting Setting.stagger = 0 ∧ s.app.grantedSum + s.app.increase 6 + s.app.increase 7 ≤ s.apportionable := by
  refine ⟨by decide +kernel, by decide +kernel, ?_, by decide +kernel⟩
  unfold Apportioner.Consistent
  decide +kernel

theorem test_meets_BeginAndEndRoute :
    Ready calm ∧ (resolve (.long 8 2) calm).2 = some (8, 2) ∧ (calm.routes.routes[2]).state = .empty ∧
      (resolve (.long 8 1) calm).2 = some (8, 1) ∧ ((withRoute .ready calm).routes.routes[2]).state ≠ .empty ∧
      PortIdle (composing calm) ∧ (composing calm).port.composing = some 2 ∧
      ((composing calm).routes.routes[2]).slots = [] ∧
      (({ withRoute .composing calm with port := { calm.port with composing := some 2 } } :
        State).routes.routes[2]).slots ≠ [] ∧ calm.port.composing = none := by decide +kernel

theorem test_meets_SegmentTakesLowestSlot :
    PortIdle calm ∧ calm.port.composing = none ∧ (composing calm).port.composing = some 2 ∧
      segmentOf 0 36000 0 0 0 = none ∧ (segmentOf 0 35999 3 1 600).isSome = true ∧ segmentOf 3 0 0 0 0 = none ∧
      segmentOf 1 (-72001) 0 0 0 = none ∧ segmentOf 2 108001 0 0 0 = none ∧ segmentOf 0 0 0 0 601 = none ∧
      (composing calm).freeSegment = some 2 ∧
      (∀ k : Fin 24, 2 ≤ k.val → (poolFull (composing calm)).routes.segments[k] ≠ none) ∧
      (poolFull (composing calm)).port.composing = some 2 ∧ PortIdle (poolFull (composing calm)) ∧
      ((poolFull (composing calm)).setSegment 23 none).freeSegment = some 23 ∧
      (let s := (composing calm).setRoute 2 ⟨.composing, List.replicate 8 2, none, none, none⟩
       PortIdle s ∧ s.port.composing = some 2 ∧ 8 ≤ (s.routes.routes[(2 : Fin 6)]).slots.length) := by decide +kernel

theorem test_meets_RunRouteSetsRunning :
    let s := withRoute .ready { calm with yaw := { calm.yaw with known := true } }
    Ready s ∧ (resolve (.long 8 2) s).2 = some (8, 2) ∧ guardPasses s none 8 2 = true ∧
      (s.routes.routes[2]).state = .ready ∧ s.inhibitInForce = false ∧ s.runningRoute = none ∧
      s.yaw.engine = .parked ∧ (s.claim 0).state = .free ∧ s.level .brakeOpen = false ∧ Judged s ∧
      1 ≤ s.setting Setting.stagger ∧ StaggerRuns (staggered s) ∧ ShedReported s := by decide +kernel

/-- Route 0 RUNNING with the engine in a state, route 2 READY. -/
def outranked (e : EngineState) : State :=
  let s := (withEngine e (withRoute .ready calm)).setRoute 0 ⟨.running, [0], some 0, none, none⟩
  { s with yaw := { s.yaw with route := some 0 } }

theorem test_meets_RunRouteSetsRunning_preempting :
    Ready (outranked .turning) ∧ (resolve (.long 8 2) (outranked .turning)).2 = some (8, 2) ∧
      guardPasses (outranked .turning) none 8 2 = true ∧ ((outranked .turning).routes.routes[(2 : Fin 6)]).state = .ready ∧
      (outranked .turning).yaw.known = true ∧ (outranked .turning).inhibitInForce = false ∧
      (∀ k : Fin 6,
        let e : EngineState := [.claiming, .releasing, .turning, .settling, .braking, .dwelling].getD k.val .parked
        (outranked e).yaw.engine = e ∧ e ≠ .parked ∧ (outranked e).runningRoute = some 0) ∧
      Ready (brakeOpen (outranked .releasing)) ∧ (brakeOpen (outranked .releasing)).level .brakeOpen = true ∧
      (outranked .releasing).level .brakeOpen = false ∧ (outranked .dwelling).level .brakeOpen = false := by
  decide +kernel

theorem test_meets_StopYawEndsRoute :
    PortIdle calm ∧ calm.runningRoute = none ∧ (withEngine .turning (withRoute .running calm)).runningRoute = some 2 ∧
      (withEngine .turning (withRoute .running calm)).yaw.engine = .turning ∧
      (withEngine .claiming (withRoute .running calm)).yaw.engine = .claiming ∧
      (withEngine .dwelling (withRoute .running calm)).runningRoute = some 2 ∧
      (withEngine .settling (withRoute .running calm)).runningRoute = some 2 ∧
      (withEngine .braking (withRoute .running calm)).yaw.engine = .braking ∧
      (let s := withEngine .releasing (withRoute .running calm)
       PortIdle s ∧ s.runningRoute = some 2 ∧ s.yaw.engine = .releasing ∧ s.level .brakeOpen = false ∧
         (brakeOpen s).level .brakeOpen = true ∧ (brakeOpen s).runningRoute = some 2 ∧
         (∀ q : Fin 6, q ≠ 2 → (s.routes.routes[q]).state ≠ .running) ∧ StaggerRuns (staggered s)) := by decide +kernel

theorem test_meets_RetireRouteEmpties :
    Ready (withRoute .ready calm) ∧ (resolve (.long 8 2) (withRoute .ready calm)).2 = some (8, 2) ∧
      guardPasses (withRoute .ready calm) (some 0) 8 2 = true ∧ (calm.routes.routes[2]).state = .empty ∧
      ((withRoute .running calm).routes.routes[2]).state = .running := by decide +kernel

theorem test_meets_RestoreYawMakesKnown :
    Ready calm ∧ calm.yaw.known = false ∧ (withEngine .parked calm).yaw.known = true ∧ Judged calm ∧
      35999 < 36000 := by decide +kernel

theorem test_meets_EncoderCounts :
    Between calm ∧ (withEngine .parked calm).yaw.known = true ∧ phaseSense false false true false = some true ∧
      phaseSense false false false true = some false ∧ phaseSense false false true true = none ∧
      phaseSense false false false false = none ∧
      (let s := turning 4000 calm
       Between s ∧ Judged s ∧ s.yaw.known = true ∧
         phaseSense s.inputs.phaseA s.inputs.phaseB (!s.inputs.phaseA) s.inputs.phaseB = some true ∧
         s.runningRoute = some 2 ∧ s.presentSegment.isSome = true ∧ s.yaw.direction = some .cw ∧
         (s.stopLead .normal : Int) < 4000 - (s.yaw.twist + 1) ∧
         (s.yaw.twist + 1).natAbs < s.setting Setting.twistHardLimit ∧
         (turning 2 calm).yaw.target.getD 0 - ((turning 2 calm).yaw.twist + 1) ≤ (turning 2 calm).stopLead .normal ∧
         (turning 2 calm).runningRoute = some 2 ∧ Judged (turning 2 calm)) ∧
      (∀ n : Fin 3,
        let s := twisted ([107999, -110000, -107999].getD n.val 0) (turning 150000 calm)
        let v := s.yaw.twist + [1, 1, -1].getD n.val 0
        Between s ∧ Judged s ∧ s.yaw.known = true ∧ s.runningRoute = some 2 ∧ s.presentSegment.isSome = true ∧
          phaseSense s.inputs.phaseA s.inputs.phaseB (v = s.yaw.twist + 1) (v ≠ s.yaw.twist + 1) =
            some (decide (v = s.yaw.twist + 1)) ∧
          (s.stopLead .normal : Int) < 150000 - v ∧ s.setting Setting.twistHardLimit ≤ v.natAbs ∧
          s.yaw.direction = some .cw ∧ (0 < v ↔ n = 0)) := by decide +kernel

theorem test_meets_TurnTimersExpire :
    let s := withEngine .turning (withRoute .running calm)
    Between s ∧ s.runningRoute = some 2 ∧ s.yaw.idleLeft.isSome = true ∧ s.yaw.budgetLeft.isSome = true ∧
      (brakeOpen (withEngine .settling calm)).level .brakeOpen = true ∧
      (withEngine .settling calm).yaw.stageLeft.isSome = true ∧
      (withEngine .dwelling calm).level .brakeOpen = false := by decide +kernel

theorem test_meets_TurnTimersExpire_settled :
    (let s := withEngine .settling calm
     Between s ∧ s.yaw.stageLeft.isSome = true ∧ s.yaw.engine = .settling ∧ s.level .brakeOpen = false ∧
       s.runningRoute = none ∧ StaggerRuns (staggered s)) ∧
      (let s := withEngine .settling (withRoute .running calm)
       s.runningRoute = some 2 ∧ s.yaw.begun = false ∧
         (let t := { s with yaw := { s.yaw with begun := true } }.setRoute 2 ⟨.running, [2], some 1, none, none⟩
          t.yaw.begun = true ∧ t.runningRoute = some 2 ∧ (t.routes.routes[(2 : Fin 6)]).done = some t.yaw.position ∧
            (t.segmentAt 2 t.yaw.position).map (·.dwell) = some 3)) := by
  decide +kernel

/-- R143: an offset of exactly half a turn is turned clockwise; R144: a SAFE turn past the limit goes the other way. -/
theorem test_meets_TurnTimersExpire_plan :
    (∀ p : Fin 6,
      let amount : Int := [18000, -9000, 9000, -9000, 45000, -45000].getD p.val 0
      let m : Int := [18000, -9000, 9000, 27000, 9000, -9000].getD p.val 0
      (m - amount) % 36000 = 0) ∧
      (⟨2, 1, .relative, 18000, .shortest, .normal, 0⟩ : Segment).plan 108000 0 0 = ⟨some .cw, 18000, 18000⟩ ∧
      (⟨2, 1, .relative, 9000, .safe, .normal, 0⟩ : Segment).plan 108000 0 105000 = ⟨some .ccw, 27000, 78000⟩ ∧
      (⟨2, 1, .relative, -9000, .safe, .normal, 0⟩ : Segment).plan 108000 0 (-105000) = ⟨some .cw, 27000, -78000⟩ ∧
      (⟨2, 1, .absolute, 1000, .cw, .normal, 0⟩ : Segment).plan 108000 2000 0 = ⟨some .cw, 35000, 35000⟩ ∧
      (⟨2, 1, .relative, -36000, .cw, .normal, 0⟩ : Segment).plan 108000 0 0 = ⟨none, 0, 0⟩ ∧
      (⟨2, 1, .relative, -72000, .ccw, .normal, 0⟩ : Segment).plan 108000 0 0 = ⟨some .ccw, 72000, -72000⟩ ∧
      (⟨2, 1, .twist, 5, .safe, .normal, 0⟩ : Segment).plan 108000 0 120000 = ⟨some .ccw, 119995, 5⟩ := by
  decide +kernel

theorem test_meets_TurnTimersExpire_brakeRises :
    (∀ twist : Fin 2,
      let s := braked true .releasing calm
      let t : State := { s with yaw := { s.yaw with twist := [0, 107600].getD twist.val 0 } }
      Between t ∧ Judged t ∧ t.inputs.filters.brakeOpen.left.isSome = true ∧ t.inputs.raw.brakeOpen = true ∧
        t.yaw.engine = .releasing ∧ t.runningRoute = some 2 ∧ t.presentSegment.isSome = true) ∧
      (let g : Segment := ⟨2, 1, .relative, 500, .cw, .normal, 3⟩
       (braked true .releasing calm).stopLead .normal < (g.plan 108000 0 0).travel ∧
         (g.plan 108000 0 0).target.natAbs ≤ (braked true .releasing calm).setting Setting.twistHardLimit ∧
         (braked true .releasing calm).setting Setting.twistHardLimit < (g.plan 108000 0 107600).target.natAbs ∧
         ((braked true .releasing calm).setSegment 2 (some { g with target := 0 })).presentSegment =
           some { g with target := 0 } ∧
         ({ g with target := 0 }.plan 108000 0 0).travel ≤ (braked true .releasing calm).stopLead .normal) ∧
      (braked true .turning calm).yaw.engine = .turning ∧ (braked true .braking calm).yaw.engine = .braking ∧
      (braked true .settling calm).yaw.brakeHold = false ∧ (braked true .parked calm).yaw.engine = .parked ∧
      (braked true .claiming calm).inhibitInForce = false ∧
      ((braked true .dwelling calm).cond.recs[Cond.brakeFault]).state = .clear ∧
      (braked true .claiming calm).runningRoute = some 2 ∧ (withLine .brakeOpen true calm).runningRoute = none := by
  decide +kernel

theorem test_meets_TurnTimersExpire_brakeFalls :
    (let s := braked false .turning calm
     Between s ∧ Judged s ∧ s.inputs.filters.brakeOpen.left.isSome = true ∧ s.inputs.raw.brakeOpen = false ∧
       s.inhibitInForce = false ∧ (s.cond.recs[Cond.brakeFault]).state = .clear ∧ s.runningRoute = some 2) ∧
      ((withClaim 0 .held 0 370 370 (braked false .settling calm)).claim 0).state = .held ∧
      (braked false .settling calm).yaw.brakeHold = false ∧ ((braked false .settling calm).claim 0).state ≠ .held ∧
      (withLine .brakeOpen false (withEngine .braking calm)).runningRoute = none ∧
      (braked false .braking calm).runningRoute = some 2 ∧ (braked false .braking calm).yaw.begun = false ∧
      (let s := braked false .braking calm
       let t := { s with yaw := { s.yaw with begun := true } }.setRoute 2 ⟨.running, [2], some 1, none, none⟩
       t.yaw.begun = true ∧ t.runningRoute = some 2 ∧ (t.routes.routes[(2 : Fin 6)]).done = some t.yaw.position ∧
         (t.segmentAt 2 t.yaw.position).map (·.dwell) = some 3) := by
  decide +kernel

theorem test_meets_YawWaitsRunOut :
    let s := withEngine .releasing (withRoute .running calm)
    Between s ∧ Judged s ∧ s.yaw.stageLeft.isSome = true ∧ s.runningRoute = some 2 ∧ s.level .brakeOpen = false ∧
      (∀ q : Fin 6, q ≠ 2 → (s.routes.routes[q]).state ≠ .running) ∧
      (withEngine .claiming (withRoute .running calm)).yaw.engine = .claiming ∧
      (withEngine .braking calm).runningRoute = none ∧ (withEngine .braking calm).yaw.engine = .braking ∧
      (let t := withEngine .braking (withRoute .running calm)
       Between t ∧ Judged t ∧ t.yaw.stageLeft.isSome = true ∧ t.runningRoute = some 2 ∧ t.inhibitInForce = false ∧
         (∀ q : Fin 6, q ≠ 2 → (t.routes.routes[q]).state ≠ .running) ∧
         (t.cond.recs[Cond.brakeFault]).state = .clear ∧ StaggerRuns (staggered t)) := by
  decide +kernel

/-- With the yaw known, the wind at 6.0 m/s and a window that yields a mean of 30.0°. -/
def aligned : State :=
  { withEngine .parked (withChannel 1 60 calm) with
    align :=
      { calm.align with
        short := some ⟨0, 10000, 313, 93900, false⟩, long := some ⟨0, 60000, 1875, 562500, false⟩ } }

theorem test_meets_ShortWindowCloses :
    Between aligned ∧ aligned.align.short = some ⟨0, 10000, 313, 93900, false⟩ ∧
      Window.mean ⟨0, 10000, 313, 93900, false⟩ = some 300 ∧ aligned.setting Setting.shortThreshold ≤ 300 ∧
      aligned.mayAlign false = true ∧ StaggerRuns (staggered aligned) ∧ (staggered aligned).mayAlign false = true ∧
      aligned.mayAlign true = false ∧ 32 * 312 < 10000 ∧ 10000 ≤ 32 * 313 ∧
      Window.mean ⟨0, 10000, 313, 313, false⟩ = some 1 ∧ 1 < aligned.setting Setting.shortThreshold := by decide +kernel

theorem test_meets_LongWindowCloses :
    let twisted : State := { aligned with yaw := { aligned.yaw with twist := 90000 } }
    Between aligned ∧ aligned.align.long.isSome = true ∧ aligned.untwistFallsDue = false ∧
      aligned.mayAlign true = false ∧ twisted.untwistFallsDue = true ∧ twisted.lightWind = true ∧
      twisted.mayAlign false = true ∧ (staggered twisted).mayAlign false = true ∧
      twisted.mayAlign true = false ∧ Judged twisted ∧ Judged (staggered aligned) ∧
      Window.mean ⟨0, 60000, 1875, 562500, false⟩ = some 300 ∧ aligned.setting Setting.longThreshold ≤ 300 ∧
      StaggerRuns (staggered aligned) ∧ aligned.mayAlign false = true ∧ Window.mean ⟨0, 60000, 1874, 0, false⟩ = none ∧
      Window.mean ⟨0, 60000, 1875, 1875, false⟩ = some 1 ∧ 1 < aligned.setting Setting.longThreshold ∧
      (let windy := withChannel 1 1500 twisted
       windy.untwistFallsDue = true ∧ windy.lightWind = false ∧ windy.mayAlign false = true ∧ Judged windy ∧
         (staggered windy).mayAlign false = true ∧ (staggered windy).lightWind = false) := by decide +kernel

theorem test_meets_ChargeStartsPrecharge :
    let s := withConv .off none (withChannel 2 300 calm)
    Ready s ∧ Judged s ∧ s.conv.state = .off ∧ s.supply.state = .grid ∧ s.tripInForce = false ∧
      s.holdInForce = false ∧
      s.cool.zones.conv.limits.judge s.cool.zones.conv.thermal (s.temperature .conv) ≠ .critical ∧
      Ready (withSupply .dip s) ∧ (withSupply .dip s).conv.state = .off ∧ (withSupply .dip s).supply.state ≠ .grid ∧
      Ready (withConv .off none State.reset) ∧ (withConv .off none State.reset).tripInForce = true ∧
      Ready calm ∧ calm.conv.state ≠ .off := by decide +kernel

/-- CHARGED with the CONV pump claim HELD and its flow proven. -/
def charged : State :=
  let s := withConv .charged none (withClaim 1 .held 1 150 150 calm)
  { s with conv := { s.conv with flowProven := true } }

theorem test_meets_ConverterRequests :
    Ready charged ∧ charged.conv.state = .charged ∧ (charged.claim 1).state = .held ∧
      charged.conv.flowProven = true ∧ charged.tripInForce = false ∧ charged.holdInForce = false ∧
      charged.supply.state = .grid ∧ (withConv .charged none calm).conv.flowProven = false ∧
      (withConv .riding none calm).conv.state = .riding ∧ (withConv .tripped none calm).tripInForce = false ∧
      (withConv .tripped none State.reset).tripInForce = true ∧ Ready (withConv .tripped none State.reset) := by
  decide +kernel

theorem test_meets_SequenceTimersTrip :
    let s := withConv .precharging (some .linkCharging) calm
    Between s ∧ Judged s ∧ s.tripInForce = false ∧ s.conv.seqLeft.isSome = true ∧
      (s.cond.recs[(3 : Fin 32)]).state = .clear ∧ (s.cond.recs[(4 : Fin 32)]).state = .clear ∧
      (withConv .precharging (some .breakerClosing) calm).conv.step = some .breakerClosing ∧
      (withConv .discharging none calm).conv.state = .discharging := by decide +kernel

theorem test_meets_ChopperDecays : Between calm ∧ calm.conv.decayLeft.isSome = true := by decide +kernel

theorem test_meets_GateFaultTrips :
    let s := withLine .gateFault true charged
    Between s ∧ Judged s ∧ s.tripInForce = false ∧ s.conv.state.energised = true ∧
      s.inputs.filters.gateFault.left.isSome = true ∧ s.inputs.raw.gateFault = true ∧
      (s.cond.recs[Cond.gateFault]).state = .clear ∧ (s.cond.recs[Cond.gateFault]).present = false ∧
      (s.cond.recs[Cond.gateFault]).delay = 0 := by decide +kernel

theorem test_meets_MeterFrameJudgedWhole :
    let b := sampleFrame 7 899 7
    Between calm ∧ b.length = 17 ∧ b.head? = some 0xA5#8 ∧ b.getLast? = some (crc8 (b.take 16)) ∧
      fieldNat b 13 1 < 8 ∧ calm.meter.lastSeq ≠ some (fieldNat b 1 1) ∧ (b.drop 1).length ≠ 17 ∧
      (b.set 0 0xA4#8).head? ≠ some 0xA5#8 ∧ (b.set 5 1#8).getLast? ≠ some (crc8 ((b.set 5 1#8).take 16)) ∧
      8 ≤ fieldNat (sampleFrame 7 899 8) 13 1 ∧
      ({ calm with meter := { calm.meter with lastSeq := some 7 } } : State).meter.lastSeq =
        some (fieldNat b 1 1) := by decide +kernel

theorem test_meets_MeterFrameJudgedWhole_values :
    Judged (withConv .precharging (some .linkCharging) calm) ∧
      fieldNat (meterRun 7 1000 1035 0 5) 10 2 * 1000 / calm.setting Setting.vdcNominal =
        calm.setting Setting.prechargeLevel ∧
      fieldNat (meterRun 7 1000 58 0 5) 10 2 * 1000 / calm.setting Setting.vdcNominal =
        calm.setting Setting.dischargeSafeLevel ∧
      fieldInt (meterRun 7 1000 0 0 1799) 14 2 = 1799 ∧ fieldInt (meterRun 7 1000 0 0 63736) 14 2 = -1800 ∧
      (∀ c : Fin 8, frameChannel (meterRun 7 1000 0 c.val 5) = c) ∧ channelZone 2 = some .conv ∧ channelZone 7 = none ∧
      (calm.setting Setting.motionLimit : Int) < calm.setting Setting.motionLimit + 1 := by decide +kernel

/-- R80, R86: at their levels LINK_CHARGING goes on to BREAKER_CLOSING, and DISCHARGING does not end; one per-mille below,
LINK_CHARGING goes on, and the converter is OFF. No TRIP comes into force and no route ends. -/
theorem test_meets_MeterFrameJudgedWhole_sequence :
    (∀ k : Fin 4,
      let s := if k.val < 2 then withConv .precharging (some .linkCharging) calm else withConv .discharging none calm
      (nextOf (exec (.meterFrame (meterRun 7 1000 ([1035, 1034, 58, 57].getD k.val 0) 0 5)) s)).map
          (fun t => (t.conv.state, t.conv.step, t.tripInForce, t.runningRoute)) =
        some
          ([(ConverterState.precharging, some SequenceStep.breakerClosing, false, none),
            (.precharging, some .linkCharging, false, none), (.discharging, none, false, none),
            (.off, none, false, none)].getD k.val (.tripped, none, true, none))) := by decide +kernel

theorem test_meets_SupplyJudgesFrame :
    let b := sampleFrame 7 899 0
    Between calm ∧ calm.meter.accepts b = true ∧ 899 = (frameFast b).vmin ∧ calm.supply.state = .grid ∧
      (withSupply .dip calm).supply.state = .dip ∧
      (∀ j : Fin 6, ((withSupply .dip calm).countBelow 899).exceeded j = false) ∧
      ((atLimit (withSupply .dip calm)).countBelow 899).exceeded 0 = true ∧
      (withSupply .lost calm).level .backupOnline = false ∧ (withSupply .backup calm).supply.state = .backup ∧
      ({ calm with inputs := { calm.inputs with filters := calm.inputs.filters.set .backupOnline ⟨true, none⟩ } } :
        State).level .backupOnline = true ∧
      calm.setting Setting.freqLow ≤ (frameFast b).frequency ∧ (frameFast b).frequency ≤ calm.setting Setting.freqHigh := by
  decide +kernel

/-- R70: a loss that found the converter RIDING is an ENVELOPE_TRIP, and trips it. -/
theorem test_meets_SupplyJudgesFrame_envelopeTrip :
    let s := withConv .riding none (atLimit (withSupply .dip calm))
    Judged s ∧ s.conv.state = .riding ∧
      (nextOf (exec (.meterFrame (sampleFrame 7 899 0)) s)).map
        (fun t => (t.supply.state, t.conv.state, t.cond.recs[Cond.envelopeTrip].count)) = some (.lost, .tripped, 1) := by
  decide +kernel

theorem test_meets_GoesStale :
    let s := withChannel 7 5 calm
    Between s ∧ s.meter.staleLeft.isSome = true ∧ (s.meter.channels[(7 : Fin 8)]).ageLeft.isSome = true ∧
      channelZone 7 = none ∧ channelZone 2 = some .conv ∧ channelZone 6 = some .cab := by decide +kernel

theorem test_meets_LineFiltersSettle :
    calm.hold = none ∧ calm.inputs.raw.get .flowGen = false ∧ calm.inputs.raw.get .flowGen ≠ true ∧
      Between (withLine .mainClosed true calm) ∧
      ((withLine .mainClosed true calm).inputs.filters.get .mainClosed).left.isSome = true ∧
      (withConv .precharging (some .breakerClosing) calm).conv.state = .precharging ∧
      (withConv .precharging (some .linkCharging) calm).conv.step ≠ some .breakerClosing ∧
      (let s := withLine .mainClosed false (withConv .charged none calm)
       Between s ∧ Judged s ∧ (s.inputs.filters.get .mainClosed).left.isSome = true ∧
         s.inputs.raw.mainClosed = false ∧ s.conv.state = .charged ∧ s.tripInForce = false ∧
         (s.cond.recs[Cond.breakerFail]).state = .clear) ∧
      (withLine .mainClosed false (withConv .tripped none calm)).conv.state = .tripped := by decide +kernel

theorem test_meets_HoldsBringGridBack :
    let s := withConv .riding none (withSupply .dip (staggered calm))
    Between s ∧ s.supply.state = .dip ∧ s.supply.recovery.isSome = true ∧ Judged s ∧ StaggerRuns s ∧
      s.setting Setting.budgetDip ≤ s.setting Setting.budgetGrid ∧ s.conv.state = .riding ∧
      (withSupply .backup calm).supply.reconnect.isSome = true ∧
      (let t := withLine .backupOnline true (withSupply .lost (withChannel 0 5 calm))
       Between t ∧ t.inputs.filters.backupOnline.left.isSome = true ∧ t.meter.live = true ∧ t.supply.state = .lost ∧
         t.inputs.raw.backupOnline = true) ∧
      (let t := withLine .backupOnline false (withSupply .backup (withChannel 0 5 calm))
       t.meter.live = true ∧ t.supply.state = .backup ∧ t.inputs.raw.backupOnline = false) ∧
      (withLine .backupOnline true (withSupply .dip calm)).supply.state = .dip ∧
      (withLine .backupOnline true calm).meter.live = false := by decide +kernel

theorem test_meets_CoolingTimersExpire :
    let held := calm.setZone .gen { calm.cool.zones.gen with hold := some 0, computed := some 3 }
    let zero := calm.putSetting Setting.levelDecreaseHold 0
    Between calm ∧ calm.cool.firstEval.isSome = true ∧ (calm.cool.zones.get .gen).computed = none ∧
      calm.temperature .gen = none ∧ (held.cool.zones.get .gen).hold.isSome = true ∧
      (held.cool.zones.get .gen).computed ≠ none ∧ calm.setting Setting.levelDecreaseHold ≠ 0 ∧ Between zero ∧
      zero.setting Setting.levelDecreaseHold = 0 ∧ zero.meter.accepts (sampleFrame 7 1000 2) = true ∧
      channelZone (frameChannel (sampleFrame 7 1000 2)) = some .conv ∧ (zero.cool.zones.get .conv).hold = none := by
  decide +kernel

theorem test_meets_FlowIsLost :
    Between (calm.setFlow .gen ⟨.awaiting, some 0⟩) ∧
      ((calm.setFlow .gen ⟨.awaiting, some 0⟩).cool.flow.get .gen).state = .awaiting ∧
      ((calm.setFlow .conv ⟨.flowing, some 0⟩).cool.flow.get .conv).left.isSome = true ∧
      (let s := withLine .flowConv true (withClaim 1 .held 1 150 150 (calm.setFlow .conv ⟨.failed, none⟩))
       Between s ∧ Line.flowConv = pumpLine .conv ∧ (s.inputs.filters.get .flowConv).left.isSome = true ∧
         s.inputs.raw.get .flowConv = true ∧ (s.cool.flow.get .conv).state = .failed ∧ (s.claim 1).state = .held) ∧
      (let s := withLine .flowGen false (calm.setFlow .gen ⟨.flowing, none⟩)
       Between s ∧ Line.flowGen = pumpLine .gen ∧ (s.inputs.filters.get .flowGen).left.isSome = true ∧
         s.inputs.raw.get .flowGen = false ∧ (s.cool.flow.get .gen).state = .flowing) ∧
      ((withLine .flowGen true calm).cool.flow.get .gen).state = .idle := by decide +kernel

/-- With record 31 LATCHED and record 7 LATCHED with its repeat timer running, record 8 PENDING, record 0 ACTIVE, all
without a consequence told amiss. -/
def conditioned : State :=
  let s := (calm.setRec 31 { calm.cond.recs[31] with state := .latched }).setRec 24
    { calm.cond.recs[24] with state := .latched, timer := some 0 }
  let s := (s.setRec 8 { calm.cond.recs[8] with state := .pending, present := true, timer := some 0 }).setRec 30
    { calm.cond.recs[30] with state := .active, present := true }
  { s with cond := { s.cond with told := s.cond.inForce } }

theorem test_meets_AcknowledgeLeavesState :
    Ready conditioned ∧ Judged conditioned ∧ conditioned.shedServiceInForce = false ∧
      (resolve (.long 10 30) conditioned).2 = some (10, 30) ∧ guardPasses conditioned none 10 30 = true ∧
      (conditioned.cond.recs[(30 : Fin 32)]).state = .active ∧ catalogue[(30 : Fin 32)].kind = .level ∧
      (conditioned.cond.recs[(31 : Fin 32)]).state = .latched ∧
      (conditioned.cond.recs[(5 : Fin 32)]).state = .clear ∧
      (conditioned.cond.recs[(31 : Fin 32)]).route = 3 := by decide +kernel

theorem test_meets_ConditionTimersExpire :
    Between conditioned ∧ Judged conditioned ∧ (conditioned.cond.recs[(8 : Fin 32)]).timer.isSome = true ∧
      catalogue[(8 : Fin 32)].kind = .level ∧ (conditioned.cond.recs[(8 : Fin 32)]).state = .pending ∧
      (conditioned.cond.recs[(24 : Fin 32)]).timer.isSome = true ∧ catalogue[(24 : Fin 32)].kind = .event := by
  decide +kernel

theorem test_meets_PartTimeTicks :
    calm.hold.map (·.kind) ≠ some .cold ∧
      ({ calm with hold := some ⟨.cold, .coldLine, [], []⟩ } : State).hold.map (·.kind) = some .cold ∧
      ({ calm with store := { calm.store with partTime := 2147483647 } } : State).store.partTime = 2147483647 := by
  decide +kernel

theorem test_meets_ResetsLeave :
    calm.hold = none ∧ calm.inputs.resetn = false ∧ calm.inputs.warmsel = false ∧ calm.inputs.raw.gateFault = false ∧
      ({ calm with inputs := { calm.inputs with warmsel := true } } : State).inputs.warmsel = true ∧
      RevisionsKept calm ∧ 31 < tableCount 10 ∧ [0, 1, 2].length < 11 := by
  unfold RevisionsKept
  decide +kernel

end Sys2Proof.Tests
end

section
/-!
The Record Store's items at an idle port: what one item comes to where its event is quiet, and the statements that
follow from it (R2, R3, R8, R14). A held part, and part time (R18, R19).
-/
namespace Sys2Proof.Machine

/-! ### Handles (R2, R3) -/

/-- What resolving a handle leaves: everything but the current table, which stays one of the eleven. -/
theorem resolve_fst (h : Handle) (s : State) :
    ∃ n, (resolve h s).1 = { s with port := { s.port with table := n } } ∧ (s.port.table < 11 → n < 11) := by
  cases h with
  | short i => exact ⟨s.port.table, rfl, id⟩
  | long t i =>
    by_cases ht : t < 11
    · exact ⟨t, by simp [resolve, ht], fun _ => ht⟩
    · exact ⟨s.port.table, by simp [resolve, ht], id⟩

theorem changes_resolve (h : Handle) (s : State) : Changes [.port] s (resolve h s).1 := by
  obtain ⟨n, e, -⟩ := resolve_fst h s
  rw [e]
  intro p hp; cases p <;> first | rfl | exact absurd (by decide) hp

/-- A handle that names a record names one of its table's. -/
theorem resolve_index {h : Handle} {s : State} {table index : Nat} (r : (resolve h s).2 = some (table, index)) :
    index < tableCount table := by
  cases h with
  | short i =>
    simp only [resolve] at r
    split at r <;> simp_all
  | long t i =>
    simp only [resolve] at r
    split at r
    · simp only at r
      split at r <;> simp_all
    · cases r

theorem withRecord_of_resolved {h : Handle} {g : Option Nat} {s : State} {k : State → Nat → Nat → Answer}
    {table index : Nat} (r : (resolve h s).2 = some (table, index)) :
    withRecord h g s k =
      if guardPasses s g table index then k (resolve h s).1 table index else refuse (resolve h s).1 .stale := by
  obtain ⟨n, e, -⟩ := resolve_fst h s
  have split : resolve h s = ((resolve h s).1, some (table, index)) := by rw [← r]
  unfold withRecord
  rw [split]
  simp only [e]
  rfl

theorem withRecord_of_absent {h : Handle} {g : Option Nat} {s : State} {k : State → Nat → Nat → Answer}
    (r : (resolve h s).2 = none) : withRecord h g s k = refuse (resolve h s).1 .absent := by
  have split : resolve h s = ((resolve h s).1, none) := by rw [← r]
  unfold withRecord
  rw [split]

/-! ### An item whose event is quiet -/

/-- The state in which an item of a frame of its own runs (log 4): the port has entered execution. -/
def State.entered (s : State) : State := { s with port := s.port.enter [] 1 }

/-- The held fields read nothing that the current table or the execution of a frame changes (R17). -/
theorem snapshot_port {s : State} {p : Port} (form : p.form = s.port.form) (addr : p.addrHigh = s.port.addrHigh) :
    ({ s with port := p } : State).snapshot = s.snapshot := by
  obtain ⟨_, _, q⟩ := s
  cases p; cases form; cases addr
  rfl

theorem snapshot_entered (s : State) : s.entered.snapshot = s.snapshot := snapshot_port rfl rfl

theorem snapshot_resolve (h : Handle) (s : State) : (resolve h s).1.snapshot = s.snapshot := by
  obtain ⟨n, e, -⟩ := resolve_fst h s
  rw [e]
  exact snapshot_port rfl rfl

theorem resolve_entered (h : Handle) (s : State) :
    resolve h s.entered = ((resolve h s).1.entered, (resolve h s).2) := by
  cases h with
  | short i => rfl
  | long t i => by_cases ht : t < 11 <;> simp [resolve, ht, State.entered, Port.enter]

theorem finishEvent_port (before s : State) : (finishEvent before s).port = s.port :=
  changes_finishEvent before s .port (by decide)

/-- An item executed at an idle port: its event, and the response prepared. -/
theorem runItem_idle {i : Instr} {body : State → Answer} {s u : State} {st : ItemStatus} {data : List Byte} {p : Port}
    (r : PortIdle s) (lock : s.port.composing = none ∨ passesLock i = true)
    (b : body s.entered = ⟨u, st, .bytes data⟩) (d : st ≠ .ok → data = []) (port : u.port = p.enter [] 1)
    (due : p.restartDue = false) :
    runItem i body s = .next { finishEvent s.entered u with port := p.answered st data } := by
  obtain ⟨⟨held, -⟩, idle, -⟩ := r
  have answer : answerItem i body s.entered = ⟨u, st, .bytes data⟩ := by
    rw [answerItem, if_neg, b]
    rcases lock with h | h <;> simp [State.entered, Port.enter, h]
  have after : (finishEvent s.entered u).port = p.enter [] 1 := (finishEvent_port _ _).trans port
  rw [runItem_of_idle held idle]
  change Host.Outcome.next (s.entered.executeItem i body) = _
  unfold State.executeItem
  rw [answer]
  simp only
  rw [entry_bytes d, addEntry_last]
  · rw [after]; rfl
  · rw [after]; rfl
  · rw [after]; rfl
  · rw [after]; rfl
  · rw [after]; exact due

/-- Where its event is quiet: the lines driven, the response prepared, the revisions moved. -/
theorem runItem_quiet {i : Instr} {body : State → Answer} {s u : State} {st : ItemStatus} {data : List Byte}
    (r : PortIdle s) (lock : s.port.composing = none ∨ passesLock i = true)
    (b : body s.entered = ⟨u.entered, st, .bytes data⟩) (d : st ≠ .ok → data = []) (q : u.ev.Quiet)
    (due : u.port.restartDue = false) :
    runItem i body s =
      .next { u.answered st data with revs := bumpAll s.snapshot u.snapshot u.revs } := by
  rw [runItem_idle r lock b d rfl due, finishEvent_quiet (before := s.entered) (s := u.entered) q, snapshot_entered,
    snapshot_drive, snapshot_entered]
  rfl

/-- As `runItem_quiet`, where no held field moves: no revision moves (R5). -/
theorem runItem_unmoved {i : Instr} {body : State → Answer} {s u : State} {st : ItemStatus} {data : List Byte}
    (r : PortIdle s) (lock : s.port.composing = none ∨ passesLock i = true)
    (b : body s.entered = ⟨u.entered, st, .bytes data⟩) (d : st ≠ .ok → data = []) (q : u.ev.Quiet)
    (due : u.port.restartDue = false) (same : u.snapshot = s.snapshot) :
    runItem i body s = .next (u.answered st data) := by
  rw [runItem_quiet r lock b d q due, same, bumpAll_self]
  rfl

theorem quiet_of_between {s : State} (b : Between s) : s.ev.Quiet := by
  rw [b.2]
  exact Scratch.quiet_empty

/-- An item that resolves a handle and then changes nothing more (R2, R3). -/
theorem runItem_resolved {i : Instr} {body : State → Answer} {s : State} {h : Handle} {st : ItemStatus}
    {data : List Byte} (r : Ready s) (b : body s.entered = ⟨(resolve h s).1.entered, st, .bytes data⟩)
    (d : st ≠ .ok → data = []) : runItem i body s = .next ((resolve h s).1.answered st data) := by
  have c := changes_resolve h s
  have ev : (resolve h s).1.ev = s.ev := c .ev (by decide)
  obtain ⟨n, e, -⟩ := resolve_fst h s
  exact runItem_unmoved r.1 (.inl r.2) b d (ev ▸ quiet_of_between r.1.1) (by rw [e]; exact r.1.2.2)
    (snapshot_resolve h s)

/-! ### SELECT TABLE and the current table (R3) -/

theorem exec_selectTable {s : State} (r : Ready s) (n : Nat) :
    exec (.selectTable n) s =
      if n < 11 then .next ({ s with port := { s.port with table := n } }.answered .ok [])
      else .next (s.answered .absent []) := by
  change runItem (.selectTable n) (doSelect n) s = _
  split
  · next hn =>
    exact runItem_unmoved (u := { s with port := { s.port with table := n } }) r.1 (.inl r.2)
      (by simp [doSelect, hn, answerOk, State.entered, Port.enter]) (fun h => absurd rfl h)
      (quiet_of_between r.1.1) r.1.2.2 (snapshot_port rfl rfl)
  · next hn =>
    exact runItem_unmoved r.1 (.inl r.2) (by simp [doSelect, hn, refuse]) (fun _ => rfl) (quiet_of_between r.1.1)
      r.1.2.2 rfl

/-- A read whose handle names no record is answered ABSENT (R2). -/
theorem exec_readFields_absent {s : State} {h : Handle} (r : Ready s) (a : (resolve h s).2 = none)
    (first count : Nat) : exec (.readFields h first count) s = .next ((resolve h s).1.answered .absent []) := by
  change runItem _ (doRead h first count) s = _
  refine runItem_resolved r ?_ (fun _ => rfl)
  rw [doRead, withRecord_of_absent (by rw [resolve_entered]; exact a), resolve_entered]
  rfl

/-- Settles O21. -/
theorem currentTableIsSet : Obligations.CurrentTableIsSet := by
  unfold Obligations.CurrentTableIsSet
  intro s n table index first count
  refine ⟨fun r => exec_selectTable r n, fun r => ⟨fun out => ?_, fun out => ?_, fun known out => ?_⟩⟩
  · exact exec_readFields_absent (h := .short index) r (by simp [resolve, Nat.not_lt.2 out]) first count
  · have e : resolve (.long table index) s = (s, none) := by simp [resolve, Nat.not_lt.2 out]
    simpa [e] using exec_readFields_absent (h := .long table index) r (by rw [e]) first count
  · have e : resolve (.long table index) s = ({ s with port := { s.port with table := table } }, none) := by
      simp [resolve, known, Nat.not_lt.2 out]
    simpa [e] using exec_readFields_absent (h := .long table index) r (by rw [e]) first count

/-! ### READ FIELDS (R8) -/

theorem readField_port {s : State} {p : Port} (form : p.form = s.port.form) (addr : p.addrHigh = s.port.addrHigh)
    (table index f : Nat) : ({ s with port := p } : State).readField table index f = s.readField table index f := by
  obtain ⟨_, _, q⟩ := s
  cases p; cases form; cases addr
  rfl

theorem cursor_port {s : State} {p : Port} (form : p.form = s.port.form) (addr : p.addrHigh = s.port.addrHigh)
    (table count index f : Nat) :
    ({ s with port := p } : State).cursor table count index f = s.cursor table count index f := by
  induction count generalizing index f with
  | zero => rfl
  | succ n ih => simp only [State.cursor, ih, readField_port form addr]

/-- How far the cursor runs: `count` values, or as many as the table still has. -/
theorem cursor_length (s : State) (table : Nat) {count index first : Nat} (hf : first ≤ highestField table) :
    (s.cursor table count index first).length =
      min count ((tableCount table - index) * (highestField table + 1) - first) := by
  induction count generalizing index first with
  | zero => simp [State.cursor]
  | succ n ih =>
    unfold State.cursor
    by_cases hi : index < tableCount table
    · obtain ⟨k, hk⟩ : ∃ k, tableCount table - index = k + 1 := ⟨tableCount table - index - 1, by omega⟩
      have room : (k + 1) * (highestField table + 1) = k * (highestField table + 1) + highestField table + 1 := by
        ring
      rw [if_pos hi]
      split
      · next hlt => rw [List.length_cons, ih (by omega), hk, room]; omega
      · have next : tableCount table - (index + 1) = k := by omega
        rw [List.length_cons, ih (Nat.zero_le _), hk, room, next]; omega
    · have none : tableCount table - index = 0 := by omega
      simp [hi, none]

/-- The value at a place of the cursor's run: fields in order, on into the next record after the highest (R8). -/
theorem cursor_getElem? (s : State) (table : Nat) {count index first k : Nat} (hf : first ≤ highestField table)
    (hk : k < (s.cursor table count index first).length) :
    (s.cursor table count index first)[k]? =
      some (s.readField table (index + (first + k) / (highestField table + 1))
        ((first + k) % (highestField table + 1))) := by
  induction count generalizing index first k with
  | zero => simp [State.cursor] at hk
  | succ n ih =>
    unfold State.cursor at hk ⊢
    split at hk
    · next hi =>
      rw [if_pos hi]
      cases k with
      | zero => simp [Nat.div_eq_of_lt (Nat.lt_succ_of_le hf), Nat.mod_eq_of_lt (Nat.lt_succ_of_le hf)]
      | succ k =>
        rw [List.getElem?_cons_succ]
        split at hk
        · next hlt =>
          rw [if_pos hlt, ih hlt (by simpa using hk), Nat.add_right_comm first 1 k, Nat.add_assoc first k 1]
        · next hge =>
          have top : first = highestField table := by omega
          have wrap : first + (k + 1) = k + (highestField table + 1) := by omega
          rw [if_neg hge, ih (Nat.zero_le _) (by simpa using hk), wrap, Nat.add_div_right _ (Nat.succ_pos _),
            Nat.add_mod_right, Nat.zero_add, Nat.succ_eq_add_one, Nat.add_assoc index, Nat.add_comm 1]
    · simp at hk

/-- READ FIELDS with its handle resolved: the item changes nothing more, whatever it answers. -/
theorem exec_readFields {s : State} {h : Handle} {table index : Nat} (r : Ready s)
    (res : (resolve h s).2 = some (table, index)) {first count : Nat} {st : ItemStatus} {data : List Byte}
    (b : readRecord first count (resolve h s).1.entered table index =
      ⟨(resolve h s).1.entered, st, .bytes data⟩) (d : st ≠ .ok → data = []) :
    exec (.readFields h first count) s = .next ((resolve h s).1.answered st data) := by
  change runItem _ (doRead h first count) s = _
  refine runItem_resolved r ?_ d
  rw [doRead, withRecord_of_resolved (by rw [resolve_entered]; exact res), resolve_entered]
  exact b

/-- Settles O22: the cursor's run by induction on the count. -/
theorem readFieldsFollowsCursor : Obligations.ReadFieldsFollowsCursor := by
  unfold Obligations.ReadFieldsFollowsCursor
  intro s h first count table index k r res
  refine ⟨fun out => ?_, fun past => ?_, fun low high within =>
    ⟨?_, cursor_length s table within, cursor_getElem? s table within⟩⟩
  · exact exec_readFields r res (by rw [readRecord, if_pos out]; rfl) (fun _ => rfl)
  · exact exec_readFields r res (by simp [readRecord, past, refuse]) (fun _ => rfl)
  · refine exec_readFields r res ?_ (fun e => absurd rfl e)
    obtain ⟨n, e, -⟩ := resolve_fst h s
    have run : (resolve h s).1.entered.cursor table count index first = s.cursor table count index first := by
      rw [e]
      exact cursor_port (p := { s.port with table := n }.enter [] 1) rfl rfl table count index first
    simp [readRecord, Nat.not_lt.2 low, Nat.not_lt.2 high, Nat.not_lt.2 within, run]

/-! ### FREEZE (R14) -/

/-- Settles O26. -/
theorem freezeSetsFlag : Obligations.FreezeSetsFlag := by
  unfold Obligations.FreezeSetsFlag
  intro s r
  let u : State := { s with store := { s.store with frozen := true } }
  refine ⟨_, runItem_quiet (u := u) (st := .ok) (data := []) (body := doFreeze) r.1 (.inl r.2) rfl (fun e => absurd rfl e)
    (quiet_of_between r.1.1) r.1.2.2, changes_revs _ _⟩

/-! ### Part time (R18) -/

theorem coldHeld_iff (s : State) : s.coldHeld = true ↔ s.hold.map (·.kind) = some .cold := by
  unfold State.coldHeld
  cases s.hold <;> simp

/-- Settles O59. -/
theorem partTimeTicks : Obligations.PartTimeTicks := by
  unfold Obligations.PartTimeTicks
  intro s
  change (_ → execPartTimeTick s = _) ∧ (_ → execPartTimeTick s = _)
  refine ⟨fun free => ?_, fun cold => by simp [execPartTimeTick, (coldHeld_iff s).2 cold]⟩
  have e : (s.store.partTime + 1) % 2147483648 =
      if s.store.partTime < 2147483647 then s.store.partTime + 1 else (s.store.partTime + 1) % 2147483648 := by
    split
    · omega
    · rfl
  simp [execPartTimeTick, mt (coldHeld_iff s).1 free, Store.second, ← e]

/-! ### A part held by a reset (R19, R184) -/

/-- While a reset holds the part, a command that does not reach it does nothing: items, frames and expiries each ask
first whether the part is held. -/
theorem exec_of_held {s : State} {c : Instr} (held : s.hold.isSome = true) (out : c.reachesHeld = false) :
    exec c s = .next s := by
  have h : s.held = true := held
  cases c with
  | linkFrame | powerUp | powerUpSequenceComplete | resetnAssert | resetnRelease | rawLineChange | encoderTransition
  | partTimeTick => cases out
  | meterFrame bytes => simp [exec, execMeterFrame, h]
  | staggerTimerExpiry => simp [exec, execStaggerTimerExpiry, h]
  | staleTimerExpiry | slowChannelAgeExpiry | filterTimerExpiry | collectionDeadlineExpiry | recoveryHoldExpiry
  | reconnectionHoldExpiry | prechargeTimerExpiry | breakerTimerExpiry | dischargeTimerExpiry | chopperDecayExpiry
  | firstEvaluationTimerExpiry | decreaseHoldExpiry | flowWindowExpiry | flowLossTimerExpiry | shortWindowClose
  | longWindowClose | claimWaitExpiry | releaseTimerExpiry | idleTimerExpiry | budgetTimerExpiry | settleTimerExpiry
  | applyTimerExpiry | dwellTimerExpiry | onsetDelayExpiry | repeatIntervalExpiry =>
    simp only [exec, execStaleTimerExpiry, execSlowChannelAgeExpiry, execFilterTimerExpiry,
      execCollectionDeadlineExpiry, execRecoveryHoldExpiry, execReconnectionHoldExpiry, execPrechargeTimerExpiry,
      execBreakerTimerExpiry, execDischargeTimerExpiry, execChopperDecayExpiry, execFirstEvaluationTimerExpiry,
      execDecreaseHoldExpiry, execFlowWindowExpiry, execFlowLossTimerExpiry, execShortWindowClose,
      execLongWindowClose, execClaimWaitExpiry, execReleaseTimerExpiry, execIdleTimerExpiry, execBudgetTimerExpiry,
      execSettleTimerExpiry, execApplyTimerExpiry, execDwellTimerExpiry, execOnsetDelayExpiry,
      execRepeatIntervalExpiry, expiry_of_held held]
  | selectTable | readFields | writeField | openClaim | amendClaim | takeClaim | retireClaim | beginRoute | segment
  | endRoute | abandonRoute | runRoute | stopYaw | retireRoute | restoreYaw | charge | start | stopConverter
  | discharge | clearTrip | acknowledge | acknowledgeLine | freeze | restart | unknownItem =>
    exact runItem_of_held held

/-- Settles O9. -/
theorem heldPartActsOnNothing : Obligations.HeldPartActsOnNothing := by
  unfold Obligations.HeldPartActsOnNothing
  intro s c start bytes address n held
  have link : ∀ t, exec (.linkFrame t) s = .next (s.shiftOut (heldTransfer t)) := by
    intro t
    have h : s.held = true := held
    simp [exec, execLinkFrame, h]
  refine ⟨exec_of_held held, ?_, ?_, link _, link _⟩ <;> simp [link, heldTransfer, shiftBytes]

/-! ### The state right after reset -/

theorem carried_reset : Carried State.reset := by
  unfold Carried RevisionsKept
  exact ⟨by decide +kernel, by decide +kernel, by decide +kernel, by decide +kernel, by decide +kernel,
    by decide +kernel, rfl⟩

theorem withinBudget_reset : WithinBudget State.reset := by
  unfold WithinBudget Apportioner.Consistent
  exact ⟨by decide +kernel, by decide +kernel⟩

theorem composes_reset : Composes State.reset := fun _ h => by cases h

theorem yawLaws_reset : YawLaws State.reset := by
  unfold YawLaws OneRuns SlotsOwned DrivesSafely WindsWithin
  exact ⟨composes_reset, by decide +kernel, by decide +kernel, by decide +kernel, by decide +kernel,
    by decide +kernel⟩

/-- Settles O4: every law evaluated in the state after reset. -/
theorem lawsAtReset : Obligations.LawsAtReset := by
  unfold Obligations.LawsAtReset
  exact ⟨by decide +kernel, carried_reset, withinBudget_reset, composes_reset, yawLaws_reset⟩

end Sys2Proof.Machine
end

section
/-!
WRITE FIELD: what its checks come to (R9, R10), and the writes whose event is quiet (R11 to R13, R167).
-/
namespace Sys2Proof.Machine

/-! ### Consequences in force and their judging (R165) -/

theorem Conditions.inForceBy_iff (k : Conditions) (carries : Consequences → Bool) :
    k.inForceBy carries = true ↔
      ∃ i : Fin 32, carries catalogue[i].consequences = true ∧ (k.recs[i]).holds catalogue[i] = true := by
  simp only [Conditions.inForceBy, List.any_eq_true, Bool.and_eq_true, List.mem_iff_getElem, List.length_zip,
    Vector.length_toList, Nat.min_self, List.getElem_zip, Vector.getElem_toList]
  constructor
  · rintro ⟨p, ⟨n, hn, rfl⟩, h⟩
    exact ⟨⟨n, hn⟩, h⟩
  · rintro ⟨i, h⟩
    exact ⟨_, ⟨i.val, i.isLt, rfl⟩, h⟩

/-- A consequence is in force in both states where the records that carry it are held alike. -/
theorem Conditions.inForceBy_congr {k l : Conditions} {carries : Consequences → Bool}
    (h : ∀ i : Fin 32, carries catalogue[i].consequences = true →
      (k.recs[i]).holds catalogue[i] = (l.recs[i]).holds catalogue[i]) :
    k.inForceBy carries = l.inForceBy carries := by
  rw [Bool.eq_iff_iff, k.inForceBy_iff, l.inForceBy_iff]
  exact exists_congr fun i => and_congr_right fun c => by rw [h i c]

/-- A record that carries no consequence puts none in force. -/
theorem inForce_setRec (s : State) {i : Fin 32} (r : CondRec) (c : catalogue[i].consequences = Consequences.none) :
    (s.setRec i r).cond.inForce = s.cond.inForce := by
  have same : ∀ carries : Consequences → Bool, carries Consequences.none = false →
      (s.setRec i r).cond.inForceBy carries = s.cond.inForceBy carries := by
    intro carries none
    refine Conditions.inForceBy_congr fun j hj => ?_
    have other : j ≠ i := by
      rintro rfl
      rw [c, none] at hj
      cases hj
    rw [setRec_recs_other s r other]
  simp only [Conditions.inForce, same (·.trip) rfl, same (·.hold) rfl, same (·.inhibitYaw) rfl,
    same (·.suppressAuto) rfl, same (·.shedService) rfl]

/-- Where the blocks have been told what is in force, judging tells them nothing. -/
theorem judge_of_judged {s : State} (j : Judged s) : s.judge = s := by
  have e : ({ s with cond := { s.cond with told := s.cond.inForce } } : State) = s := by rw [← j]
  simp only [State.judge, e, State.tell, j, Bool.and_not_self, Bool.false_eq_true, if_false]

/-- Storing a record notes at most an onset. -/
theorem putRec_ev (s : State) (i : Fin 32) (p : CondRec × Bool) :
    ∃ l, (s.putRec i p).ev = { s.ev with onsets := l } := by
  unfold State.putRec
  simp only
  split
  · exact ⟨_, rfl⟩
  · exact ⟨_, rfl⟩

theorem quiet_putRec {s : State} (q : s.ev.Quiet) (i : Fin 32) (p : CondRec × Bool) : (s.putRec i p).ev.Quiet := by
  obtain ⟨l, e⟩ := putRec_ev s i p
  rw [e]
  exact q

theorem quiet_takeReport {s : State} (q : s.ev.Quiet) (i : Fin 32) (rep : Report) :
    (s.takeReport i rep).ev.Quiet := quiet_putRec q i _

theorem putRec_cond (s : State) (i : Fin 32) (p : CondRec × Bool) : (s.putRec i p).cond = (s.setRec i p.1).cond := by
  unfold State.putRec
  simp only
  split <;> rfl

/-- A report at a record that carries no consequence tells the blocks nothing new. -/
theorem report_of_judged {s : State} {i : Fin 32} {rep : Report} (j : Judged s)
    (c : catalogue[i].consequences = Consequences.none) : s.report [(i, rep)] = s.takeReport i rep := by
  refine judge_of_judged ?_
  change (s.takeReport i rep).cond.told = (s.takeReport i rep).cond.inForce
  rw [State.takeReport, putRec_cond, inForce_setRec s _ c]
  exact j

/-! ### The checks of a write (R9, R10) -/

/-- The cross-check of a level of the envelope, read against its neighbours in use. -/
theorem levelFits_iff {s : State} (points : s.setting Setting.envelopePoints ≤ 6) (i : Fin 6) (n : Nat) :
    s.levelFits (i.val + 1) n = true ↔
      (i.val + 1 ≤ s.setting Setting.envelopePoints →
        (∀ j : Fin 6, j.val + 1 = i.val → n < s.setting (Setting.envelopeLevel j)) ∧
          (∀ j : Fin 6, j.val = i.val + 1 → j.val + 1 ≤ s.setting Setting.envelopePoints →
            s.setting (Setting.envelopeLevel j) < n) ∧
          (i = 0 → n < s.setting Setting.dipRecoveryLevel)) := by
  have before : (i.val + 1 ≤ 1 ∨ n < s.envelopeLevelAt (i.val + 1 - 1)) ↔
      ∀ j : Fin 6, j.val + 1 = i.val → n < s.setting (Setting.envelopeLevel j) := by
    obtain ⟨_ | m, hm⟩ := i
    · simp
    · have lt : m < 6 := by omega
      constructor
      · rintro (h | h) j hj
        · omega
        · obtain rfl : j = ⟨m, lt⟩ := Fin.ext (by simpa using hj)
          simpa [State.envelopeLevelAt, lt] using h
      · intro h
        exact .inr (by simpa [State.envelopeLevelAt, lt] using h ⟨m, lt⟩ rfl)
  have after : (s.setting Setting.envelopePoints ≤ i.val + 1 ∨ s.envelopeLevelAt (i.val + 1 + 1) < n) ↔
      ∀ j : Fin 6, j.val = i.val + 1 → j.val + 1 ≤ s.setting Setting.envelopePoints →
        s.setting (Setting.envelopeLevel j) < n := by
    by_cases last : s.setting Setting.envelopePoints ≤ i.val + 1
    · simp only [last, true_or, true_iff]
      intro j hj h
      omega
    · have lt : i.val + 1 < 6 := by omega
      simp only [last, false_or, State.envelopeLevelAt, Nat.add_sub_cancel, lt, dif_pos]
      constructor
      · intro h j hj _
        obtain rfl : j = ⟨i.val + 1, lt⟩ := Fin.ext hj
        exact h
      · intro h
        exact h ⟨i.val + 1, lt⟩ rfl (by simp only; omega)
  have first : (1 < i.val + 1 ∨ n < s.setting Setting.dipRecoveryLevel) ↔
      (i = 0 → n < s.setting Setting.dipRecoveryLevel) := by
    rw [Fin.ext_iff, Fin.val_zero]
    by_cases h : i.val = 0
    · simp [h]
    · simp only [h, false_implies, iff_true]; omega
  simp only [State.levelFits, Bool.or_eq_true, Bool.and_eq_true, decide_eq_true_eq, before, after, first]
  by_cases inUse : i.val + 1 ≤ s.setting Setting.envelopePoints
  · simp only [inUse, true_implies, Nat.not_lt.2 inUse, false_or, and_assoc]
  · simp only [inUse, false_implies, iff_true]; exact .inl (by omega)

/-- The levels of the points in use descend strictly. -/
theorem levelsDescend_iff (s : State) {n : Nat} (low : 1 ≤ n) (high : n ≤ 6) :
    s.levelsDescend n = true ↔
      ∀ i j : Fin 6, j.val = i.val + 1 → j.val + 1 ≤ n →
        s.setting (Setting.envelopeLevel j) < s.setting (Setting.envelopeLevel i) := by
  simp only [State.levelsDescend, List.all_eq_true, List.mem_range, decide_eq_true_eq]
  constructor
  · intro h i j hj hn
    have lt : i.val + 1 < 6 := by omega
    obtain rfl : j = ⟨i.val + 1, lt⟩ := Fin.ext hj
    have := h i.val (by simp only at hn; omega)
    simpa [State.envelopeLevelAt, lt, i.isLt] using this
  · intro h k hk
    have lt : k + 1 < 6 := by omega
    have lt' : k < 6 := by omega
    simpa [State.envelopeLevelAt, lt, lt'] using h ⟨k, lt'⟩ ⟨k + 1, lt⟩ rfl (by simp only; omega)

theorem dutyFits_iff (s : State) (l : Fin 16) (n : Nat) :
    s.dutyFits l.val n = true ↔
      s.setting (Setting.duty (l.val - 1)) ≤ n ∧ (l.val < 15 → n ≤ s.setting (Setting.duty (l.val + 1))) := by
  simp only [State.dutyFits, Bool.and_eq_true, decide_eq_true_eq]
  refine and_congr_right fun _ => ?_
  by_cases h : l.val < 15
  · simp [h, Nat.not_le.2 h]
  · simp [h, Nat.not_lt.1 h]

theorem crossCheck_level (s : State) (i : Fin 6) (n : Nat) :
    s.crossCheck (Setting.envelopeLevel i).val n = s.levelFits (i.val + 1) n := by
  have e : 9 + i.val - 8 = i.val + 1 := by omega
  have place : (Setting.envelopeLevel i).val = 9 + i.val := rfl
  rw [place, State.crossCheck, if_neg (by omega), if_neg (by omega), if_neg (by omega), if_neg (by omega),
    if_pos (by omega), e]

theorem crossCheck_duty (s : State) {l : Fin 16} (h : 1 ≤ l.val) (n : Nat) :
    s.crossCheck (Setting.duty l.val).val n = s.dutyFits l.val n := by
  have place : (Setting.duty l.val).val = 67 + l.val := by simp only [Setting.duty]; omega
  have e : 67 + l.val - 67 = l.val := by omega
  rw [place, State.crossCheck, if_neg (by omega), if_neg (by omega), if_neg (by omega), if_neg (by omega),
    if_neg (by omega), if_neg (by omega), if_neg (by omega), if_neg (by omega), if_neg (by omega),
    if_neg (by omega), if_neg (by omega), if_pos (by omega), e]

/-- The chain of cross-checks, setting by setting: each check is asked of its own settings alone (R10). -/
theorem crossCheck_iff {s : State} (points : s.setting Setting.envelopePoints ≤ 6) {k : Fin 86} {n : Nat}
    (low : settingSpecs[k].lo ≤ n) (high : n ≤ settingSpecs[k].hi) :
    s.crossCheck k.val n = true ↔ s.MeetsChecks k n := by
  have bounds : k = Setting.envelopePoints → 1 ≤ n ∧ n ≤ 6 := by
    rintro rfl
    exact ⟨low, high⟩
  constructor
  · intro h
    refine ⟨fun hk => ?_, ?_, ?_, fun i hk => ?_, ?_, ?_, ?_, ?_, ?_, ?_, ?_, fun l hl hk => ?_⟩
    · simpa [State.crossCheck, hk] using h
    · rintro rfl; simpa [State.crossCheck] using h
    · rintro rfl; simpa [State.crossCheck, State.envelopeLevelAt] using h
    · subst hk
      exact (levelFits_iff points i n).1 (crossCheck_level s i n ▸ h)
    · rintro rfl
      exact (levelsDescend_iff s (bounds rfl).1 (bounds rfl).2).1 (by simpa [State.crossCheck] using h)
    · rintro rfl; simpa [State.crossCheck] using h
    · rintro rfl; simpa [State.crossCheck] using h
    · rintro rfl; simpa [State.crossCheck] using h
    · rintro rfl; simpa [State.crossCheck] using h
    · rintro rfl; simpa [State.crossCheck] using h
    · rintro rfl; simpa [State.crossCheck] using h
    · subst hk
      exact (dutyFits_iff s l n).1 (crossCheck_duty s hl n ▸ h)
  · rintro ⟨budget, reserve, recovery, level, points', low', high', untwist, limit, short, long, duty⟩
    unfold State.crossCheck
    by_cases h : k.val ≤ 3
    · rw [if_pos h]
      exact decide_eq_true (budget h)
    rw [if_neg h]
    by_cases h : k.val = 4
    · rw [if_pos h]
      exact decide_eq_true (reserve (Fin.ext h))
    rw [if_neg h]
    by_cases h : k.val = 5
    · rw [if_pos h]
      exact decide_eq_true (recovery (Fin.ext h))
    rw [if_neg h]
    by_cases h : k.val = 8
    · rw [if_pos h]
      have e : k = Setting.envelopePoints := Fin.ext h
      exact (levelsDescend_iff s (bounds e).1 (bounds e).2).2 (points' e)
    rw [if_neg h]
    by_cases h : 9 ≤ k.val ∧ k.val ≤ 14
    · rw [if_pos h]
      have e : k.val - 8 = (⟨k.val - 9, by omega⟩ : Fin 6).val + 1 := by simp only; omega
      rw [e, levelFits_iff points]
      exact level ⟨k.val - 9, by omega⟩ (Fin.ext (by simp only [Setting.envelopeLevel]; omega))
    rw [if_neg h]
    by_cases h : k.val = 21
    · rw [if_pos h]
      exact decide_eq_true (low' (Fin.ext h))
    rw [if_neg h]
    by_cases h : k.val = 22
    · rw [if_pos h]
      exact decide_eq_true (high' (Fin.ext h))
    rw [if_neg h]
    by_cases h : k.val = 49
    · rw [if_pos h]
      exact decide_eq_true (untwist (Fin.ext h))
    rw [if_neg h]
    by_cases h : k.val = 50
    · rw [if_pos h]
      exact decide_eq_true (limit (Fin.ext h))
    rw [if_neg h]
    by_cases h : k.val = 53
    · rw [if_pos h]
      exact decide_eq_true (short (Fin.ext h))
    rw [if_neg h]
    by_cases h : k.val = 54
    · rw [if_pos h]
      exact decide_eq_true (long (Fin.ext h))
    rw [if_neg h]
    by_cases h : 68 ≤ k.val ∧ k.val ≤ 82
    · rw [if_pos h]
      have e : k.val - 67 = (⟨k.val - 67, by omega⟩ : Fin 16).val := rfl
      rw [e, dutyFits_iff]
      exact duty ⟨k.val - 67, by omega⟩ (by simp only; omega) (Fin.ext (by simp only [Setting.duty]; omega))
    rw [if_neg h]

theorem crossFits_setting {s : State} (c : Carried s) {k : Fin 86} {n : Nat} (low : settingSpecs[k].lo ≤ n)
    (high : n ≤ settingSpecs[k].hi) : s.crossFits (.setting k) n = true ↔ s.MeetsChecks k n := by
  obtain ⟨-, -, -, bounds, -⟩ := c
  exact crossCheck_iff (bounds Setting.envelopePoints).2 low high

/-- The checks that a threshold meets against the others of its zone, which are in order (R10). -/
theorem crossFits_zone {s : State} (c : Carried s) (z : Zone) (n : Nat) :
    (s.crossFits (.zone z 8) n = true ↔ n < (s.cool.zones.get z).limits.full) ∧
      (s.crossFits (.zone z 9) n = true ↔ (s.cool.zones.get z).limits.start < n) ∧
      (s.crossFits (.zone z 10) n = true ↔ n < (s.cool.zones.get z).limits.hot) ∧
      (s.crossFits (.zone z 11) n = true ↔
        (s.cool.zones.get z).limits.warm < n ∧ n < (s.cool.zones.get z).limits.critical) ∧
      (s.crossFits (.zone z 12) n = true ↔ (s.cool.zones.get z).limits.hot < n) := by
  obtain ⟨-, -, -, -, order, -⟩ := c
  have inOrder := order z (by cases z <;> decide)
  simp only [Thresholds.ordered, Bool.and_eq_true, decide_eq_true_eq] at inOrder
  obtain ⟨⟨startFull, warmHot⟩, hotCritical⟩ := inOrder
  simp only [State.crossFits, Thresholds.put, Thresholds.ordered, Bool.and_eq_true, decide_eq_true_eq]
  omega

theorem inBounds_setting (k : Fin 86) (v : Int) :
    (WriteTarget.setting k).inBounds v = true ↔ (settingSpecs[k].lo : Int) ≤ v ∧ v ≤ settingSpecs[k].hi :=
  decide_eq_true_iff

/-- The absent marker is within no bounds (R4, R10). -/
theorem inBounds_absentMarker (w : WriteTarget) : w.inBounds absentMarker = false := by
  cases w with
  | setting k =>
    refine decide_eq_false fun b => ?_
    have low : (0 : Int) ≤ settingSpecs[k].lo := Int.natCast_nonneg _
    exact absurd (low.trans b.1) (by decide)
  | zone => rfl
  | condition i field =>
    simp only [WriteTarget.inBounds]
    split
    · rfl
    · split <;> rfl

theorem writeTarget_setting (k : Fin 86) (field : Nat) :
    writeTarget 1 k.val field = if field = 1 then some (.setting k) else none := by
  simp [writeTarget]

theorem writeTarget_zone {index : Nat} {z : Zone} (hz : zoneOf index = some z) (field : Nat) :
    writeTarget 6 index field = if 8 ≤ field ∧ field ≤ 12 then some (.zone z field) else none := by
  simp [writeTarget, hz]

theorem writeTarget_condition (i : Fin 32) (field : Nat) :
    writeTarget 10 i.val field =
      if field = 8 ∨ field = 10 ∨ field = 11 then some (.condition i field) else none := by
  simp [writeTarget]

theorem writeTarget_other {table : Nat} (settings : table ≠ 1) (zones : table ≠ 6) (conditions : table ≠ 10)
    (index field : Nat) : writeTarget table index field = none := by
  unfold writeTarget
  split
  · exact absurd rfl settings
  · exact absurd rfl zones
  · exact absurd rfl conditions
  · rfl

/-! ### WRITE FIELD with its handle resolved (R9) -/

/-- What WRITE FIELD does once its handle is resolved: the guard, then the checks. -/
theorem doWrite_entered {s : State} {h : Handle} {g : Option Nat} {table index : Nat}
    (res : (resolve h s).2 = some (table, index)) (field : Nat) (v : Int) :
    doWrite h g field v s.entered =
      if guardPasses s g table index then writeRecord field v (resolve h s).1.entered table index
      else refuse (resolve h s).1.entered .stale := by
  rw [doWrite, withRecord_of_resolved (by rw [resolve_entered]; exact res), resolve_entered]
  rfl

/-- The checks of a write read nothing of the port. -/
theorem crossFits_resolved (h : Handle) (s : State) (w : WriteTarget) (n : Nat) :
    (resolve h s).1.entered.crossFits w n = s.crossFits w n := by
  obtain ⟨m, e, -⟩ := resolve_fst h s
  rw [e]
  cases w <;> rfl

theorem resolve_store (h : Handle) (s : State) : (resolve h s).1.store = s.store :=
  changes_resolve h s .store (by decide)

theorem busy_resolved (h : Handle) (s : State) : (resolve h s).1.entered.busy = s.busy := by
  obtain ⟨m, e, -⟩ := resolve_fst h s
  rw [e]
  rfl

theorem frozen_resolved (h : Handle) (s : State) : (resolve h s).1.entered.store.frozen = s.store.frozen := by
  change (resolve h s).1.store.frozen = _
  rw [resolve_store]

/-- A write refused without an occurrence changes the current table at most. -/
theorem exec_writeField_refused {s : State} {h : Handle} {g : Option Nat} {field : Nat} {v : Int} {st : ItemStatus}
    (r : Ready s) (b : doWrite h g field v s.entered = refuse (resolve h s).1.entered st) :
    exec (.writeField h g field v) s = .next ((resolve h s).1.answered st []) :=
  runItem_resolved (i := .writeField h g field v) r b (fun _ => rfl)

/-- A write refused FROZEN is an occurrence of SETTING_REFUSED, which carries no consequence (R11, R155). -/
theorem exec_writeField_frozen {s : State} {h : Handle} {g : Option Nat} {field : Nat} {v : Int} (r : Ready s)
    (j : Judged s)
    (b : doWrite h g field v s.entered =
      refuse ((resolve h s).1.entered.report [(Cond.settingRefused, .occurs)]) .frozen) :
    ∃ t, exec (.writeField h g field v) s = .next t ∧
      Changes [.revs]
        (((resolve h s).1.setRec Cond.settingRefused
          ((s.cond.recs[Cond.settingRefused]).occur s.onsetArgs).1).answered .frozen []) t := by
  obtain ⟨n, e, -⟩ := resolve_fst h s
  rw [e] at b ⊢
  let resolved : State := { s with port := { s.port with table := n } }
  let taken := (s.cond.recs[Cond.settingRefused]).occur s.onsetArgs
  have judged : Judged resolved.entered := j
  rw [show ({ s with port := { s.port with table := n } } : State).entered = resolved.entered from rfl,
    report_of_judged judged (by decide)] at b
  have quiet : (resolved.putRec Cond.settingRefused taken).ev.Quiet :=
    quiet_putRec (s := resolved) (quiet_of_between r.1.1) _ _
  have entered : resolved.entered.takeReport Cond.settingRefused .occurs =
      (resolved.putRec Cond.settingRefused taken).entered := by
    change resolved.entered.putRec Cond.settingRefused taken = _
    unfold State.putRec
    simp only
    split <;> rfl
  have port : (resolved.putRec Cond.settingRefused taken).port = resolved.port :=
    changes_putRec resolved _ _ .port (by decide)
  rw [entered] at b
  refine ⟨_, runItem_quiet r.1 (.inl r.2) b (fun _ => rfl) quiet (by rw [port]; exact r.1.2.2), ?_⟩
  have out : (resolved.putRec Cond.settingRefused taken).answered .frozen [] =
      (resolved.setRec Cond.settingRefused taken.1).answered .frozen [] := by
    unfold State.putRec
    simp only
    split <;> rfl
  rw [out]
  exact changes_revs _ _

/-- Settles O24: the tables of fields, bounds and cross-checks, then the checks in their order. -/
theorem writeRefused : Obligations.WriteRefused := by
  unfold Obligations.WriteRefused
  intro s h g field table index v w k i z n r res
  refine ⟨fun c => ?_, fun stale => ?_, fun pass => ⟨fun past => ?_, fun within => ⟨fun fixed => ?_, fun target => ?_⟩⟩⟩
  · obtain ⟨start, full, warm, hot, critical⟩ := crossFits_zone c z n
    refine ⟨writeTarget_setting k field, fun hz => writeTarget_zone hz field, writeTarget_condition i field,
      fun t1 t6 t10 => writeTarget_other t1 t6 t10 index field, rfl, ?_, rfl, inBounds_setting k v,
      decide_eq_true_iff, decide_eq_true_iff, decide_eq_true_iff, decide_eq_true_iff, inBounds_absentMarker w,
      crossFits_setting c, start, full, warm, hot, critical, rfl⟩
    by_cases tuning : field ≤ 9
    · simp [WriteTarget.cls, tuning, Nat.not_le.2 (Nat.lt_succ_of_le tuning)]
    · simp [WriteTarget.cls, tuning, Nat.succ_le_of_lt (Nat.not_le.1 tuning)]
  · exact exec_writeField_refused r (by simp [doWrite_entered res, stale])
  · exact exec_writeField_refused r (by simp [doWrite_entered res, pass, writeRecord, past])
  · exact exec_writeField_refused r (by simp [doWrite_entered res, pass, writeRecord, Nat.not_lt.2 within, fixed])
  · refine ⟨fun bad => ?_, fun good prot => ⟨fun frozen j => ?_, fun free busy => ?_⟩⟩
    · exact exec_writeField_refused r
        (by simp [doWrite_entered res, pass, writeRecord, Nat.not_lt.2 within, target, crossFits_resolved, bad])
    · exact exec_writeField_frozen r j
        (by simp [doWrite_entered res, pass, writeRecord, Nat.not_lt.2 within, target, crossFits_resolved, good, prot,
          frozen_resolved, frozen])
    · have b : s.busy = true := decide_eq_true busy
      exact exec_writeField_refused r
        (by simp [doWrite_entered res, pass, writeRecord, Nat.not_lt.2 within, target, crossFits_resolved, good, prot,
          frozen_resolved, free, busy_resolved, b])

end Sys2Proof.Machine
end

section
/-!
What the shared operations keep beyond the pieces of `Changes`: the yaw's place, the thresholds and the judgement of the
zones, the condition records they do not report at, and what the event has gathered of timers started at 0.
-/
namespace Sys2Proof.Machine

/-! ### The relation -/

/-- From `s` to `t` the Record Store, the yaw's place and every zone's thresholds stay, the judgement of every zone not
in `zs`, and every condition record not in `is`. -/
structure Stays (is : List (Fin 32)) (zs : List Zone) (s t : State) : Prop where
  store : t.store = s.store
  known : t.yaw.known = s.yaw.known
  heading : t.yaw.heading = s.yaw.heading
  twist : t.yaw.twist = s.yaw.twist
  limits : ∀ z, (t.cool.zones.get z).limits = (s.cool.zones.get z).limits
  thermal : ∀ z, z ∉ zs → (t.cool.zones.get z).thermal = (s.cool.zones.get z).thermal
  computed : ∀ z, z ∉ zs → (t.cool.zones.get z).computed = (s.cool.zones.get z).computed
  recs : ∀ i, i ∉ is → t.cond.recs[i] = s.cond.recs[i]

/-- As `Stays`, and within one event: decrease holds started at 0 are noted for zones of `zs` alone, and none is where
LEVEL_DECREASE_HOLD is at least 1 (R106); no start of the stagger timer at 0 is noted where STAGGER is at least 1 (R33). -/
structure Keeps (is : List (Fin 32)) (zs : List Zone) (s t : State) : Prop extends Stays is zs s t where
  holds : ∃ l, l ⊆ zs ∧ t.ev.zeroHolds = s.ev.zeroHolds ++ l ∧ (1 ≤ s.setting Setting.levelDecreaseHold → l = [])
  stagger : 1 ≤ s.setting Setting.stagger → t.ev.zeroStagger = s.ev.zeroStagger

theorem Stays.refl (is : List (Fin 32)) (zs : List Zone) (s : State) : Stays is zs s s :=
  ⟨rfl, rfl, rfl, rfl, fun _ => rfl, fun _ _ => rfl, fun _ _ => rfl, fun _ _ => rfl⟩

theorem Stays.trans {is : List (Fin 32)} {zs : List Zone} {s t u : State} (h : Stays is zs s t)
    (k : Stays is zs t u) : Stays is zs s u :=
  ⟨k.store.trans h.store, k.known.trans h.known, k.heading.trans h.heading, k.twist.trans h.twist,
    fun z => (k.limits z).trans (h.limits z), fun z hz => (k.thermal z hz).trans (h.thermal z hz),
    fun z hz => (k.computed z hz).trans (h.computed z hz), fun i hi => (k.recs i hi).trans (h.recs i hi)⟩

theorem Stays.mono {is js : List (Fin 32)} {zs ws : List Zone} {s t : State} (h : Stays is zs s t)
    (recs : is ⊆ js := by decide) (zones : zs ⊆ ws := by decide) : Stays js ws s t :=
  { h with
    thermal := fun z hz => h.thermal z fun m => hz (zones m)
    computed := fun z hz => h.computed z fun m => hz (zones m)
    recs := fun i hi => h.recs i fun m => hi (recs m) }

theorem Stays.setting {is : List (Fin 32)} {zs : List Zone} {s t : State} (h : Stays is zs s t) (k : Fin 86) :
    t.setting k = s.setting k := by
  rw [State.setting, State.setting, h.store]

theorem Keeps.refl (is : List (Fin 32)) (zs : List Zone) (s : State) : Keeps is zs s s :=
  ⟨Stays.refl is zs s, ⟨[], List.nil_subset _, (List.append_nil _).symm, fun _ => rfl⟩, fun _ => rfl⟩

theorem Keeps.trans {is : List (Fin 32)} {zs : List Zone} {s t u : State} (h : Keeps is zs s t)
    (k : Keeps is zs t u) : Keeps is zs s u := by
  obtain ⟨l, lsub, lh, lz⟩ := h.holds
  obtain ⟨m, msub, mh, mz⟩ := k.holds
  refine ⟨h.toStays.trans k.toStays, ⟨l ++ m, List.append_subset.2 ⟨lsub, msub⟩, ?_, fun one => ?_⟩, fun one => ?_⟩
  · rw [mh, lh, List.append_assoc]
  · rw [lz one, mz (by rw [h.toStays.setting]; exact one)]
    rfl
  · rw [k.stagger (by rw [h.toStays.setting]; exact one), h.stagger one]

theorem Keeps.mono {is js : List (Fin 32)} {zs ws : List Zone} {s t : State} (h : Keeps is zs s t)
    (recs : is ⊆ js := by decide) (zones : zs ⊆ ws := by decide) : Keeps js ws s t := by
  obtain ⟨l, sub, rest⟩ := h.holds
  exact ⟨h.toStays.mono recs zones, ⟨l, List.Subset.trans sub zones, rest⟩, h.stagger⟩

/-- Among all the records and zones. -/
theorem Keeps.all {is : List (Fin 32)} {zs : List Zone} {s t : State} (h : Keeps is zs s t) :
    Keeps allRecords allZones s t :=
  h.mono (fun i _ => List.mem_finRange i) fun z _ => by cases z <;> decide

theorem Keeps.ite {is : List (Fin 32)} {zs : List Zone} {s a b : State} {c : Prop} [Decidable c]
    (ha : Keeps is zs s a) (hb : Keeps is zs s b) : Keeps is zs s (if c then a else b) := by
  split <;> assumption

/-- A change made only on a condition. -/
theorem Keeps.onlyIf {is : List (Fin 32)} {zs : List Zone} {s t u : State} {c : Prop} [Decidable c]
    (h : Keeps is zs s t) (k : Keeps is zs t u) : Keeps is zs s (if c then u else t) :=
  Keeps.ite (h.trans k) h

theorem Keeps.foldl {α : Type} {is : List (Fin 32)} {zs : List Zone} {f : State → α → State}
    (hf : ∀ t x, Keeps is zs t (f t x)) (l : List α) (s : State) : Keeps is zs s (l.foldl f s) := by
  induction l generalizing s with
  | nil => exact Keeps.refl is zs s
  | cons x l ih => exact (hf s x).trans (ih (f s x))

/-- The pieces that the relation reads nothing of. -/
abbrev restPieces : List Piece :=
  [.revs, .port, .meter, .inputs, .app, .supply, .conv, .align, .routes, .out, .hold, .choices, .pending]

theorem Keeps.of_pieces {is : List (Fin 32)} {zs : List Zone} {s t : State} (store : t.store = s.store)
    (yaw : t.yaw.known = s.yaw.known ∧ t.yaw.heading = s.yaw.heading ∧ t.yaw.twist = s.yaw.twist)
    (cool : t.cool.zones = s.cool.zones) (cond : t.cond.recs = s.cond.recs)
    (holds : t.ev.zeroHolds = s.ev.zeroHolds) (stagger : t.ev.zeroStagger = s.ev.zeroStagger) : Keeps is zs s t := by
  obtain ⟨known, heading, twist⟩ := yaw
  refine ⟨⟨store, known, heading, twist, ?_, ?_, ?_, ?_⟩, ⟨[], List.nil_subset _, ?_, fun _ => rfl⟩, fun _ => stagger⟩
  · intro z; rw [cool]
  · intro z _; rw [cool]
  · intro z _; rw [cool]
  · intro i _; rw [cond]
  · rw [holds, List.append_nil]

theorem Keeps.of_changes {is : List (Fin 32)} {zs : List Zone} {s t : State} (h : Changes restPieces s t) :
    Keeps is zs s t := by
  have yaw : t.yaw = s.yaw := h .yaw (by decide)
  have cool : t.cool = s.cool := h .cool (by decide)
  have cond : t.cond = s.cond := h .cond (by decide)
  have ev : t.ev = s.ev := h .ev (by decide)
  exact Keeps.of_pieces (h .store (by decide)) (by rw [yaw]; exact ⟨rfl, rfl, rfl⟩) (by rw [cool]) (by rw [cond])
    (by rw [ev]) (by rw [ev])

/-! ### The Condition Unit -/

/-- Every operation of the apportioner may report at CLAIM_SHED (R51). -/
abbrev claimRecs : List (Fin 32) := [Cond.claimShed]

/-- Telling the Converter Sequencer of its claim may report COOLING_LOST too (R95). -/
abbrev ownerRecs : List (Fin 32) := Cond.coolingLost :: claimRecs

theorem keeps_putRec (s : State) (i : Fin 32) (p : CondRec × Bool) : Keeps [i] [] s (s.putRec i p) := by
  have base : Stays [i] [] s (s.setRec i p.1) :=
    ⟨rfl, rfl, rfl, rfl, fun _ => rfl, fun _ _ => rfl, fun _ _ => rfl,
      fun j hj => setRec_recs_other s p.1 (by simpa using hj)⟩
  unfold State.putRec
  simp only
  split <;>
    exact ⟨⟨base.1, base.2, base.3, base.4, base.5, base.6, base.7, base.8⟩,
      ⟨[], List.nil_subset _, (List.append_nil _).symm, fun _ => rfl⟩, fun _ => rfl⟩

theorem keeps_takeReport (s : State) (i : Fin 32) (r : Report) : Keeps [i] [] s (s.takeReport i r) :=
  keeps_putRec s i _

theorem keeps_takeReports (s : State) (g : Group) : Keeps (g.map Prod.fst) [] s (State.takeReports g s) := by
  unfold State.takeReports
  induction g generalizing s with
  | nil => exact Keeps.refl _ _ s
  | cons p g ih =>
    have first : Keeps ((p :: g).map Prod.fst) [] s (s.takeReport p.1 p.2) :=
      (keeps_takeReport s p.1 p.2).mono (by simp)
    exact first.trans ((ih _).mono (by simp))

/-! ### The Load Apportioner -/

theorem keeps_apportion (s : State) (f : Apportioner → Apportioner) : Keeps claimRecs [] s (s.apportion f) := by
  have base : Keeps claimRecs [] s { s with app := f s.app } :=
    Keeps.of_pieces rfl ⟨rfl, rfl, rfl⟩ rfl rfl rfl rfl
  exact base.trans (keeps_takeReport _ _ _)

theorem keeps_apportionStarting (s : State) (f : Apportioner → Apportioner)
    (starts : 1 ≤ s.setting Setting.stagger → (f { s.app with stagger := none }).stagger ≠ some 0) :
    Keeps claimRecs [] s (s.apportionStarting f) := by
  obtain ⟨stays, holds, stagger⟩ := keeps_apportion s f
  refine ⟨⟨stays.1, stays.2, stays.3, stays.4, stays.5, stays.6, stays.7, stays.8⟩, holds, fun one => ?_⟩
  rw [apportionStarting_zeroStagger, stagger one, beq_eq_false_iff_ne.2 (starts one), Bool.or_false]

theorem keeps_claimEvent (s : State) : Keeps [] [] s s.claimEvent :=
  Keeps.of_pieces rfl ⟨rfl, rfl, rfl⟩ rfl rfl rfl rfl

theorem keeps_claimRequest (s : State) (f : Apportioner → Apportioner) :
    Keeps claimRecs [] s (s.claimRequest f) := by
  unfold State.claimRequest
  split
  · exact Keeps.refl _ _ s
  · exact (keeps_apportion s f).trans (keeps_claimEvent _).mono

theorem keeps_engineRequest (s : State) (i : Fin 16) (n : Nat) : Keeps claimRecs [] s (s.engineRequest i n) :=
  keeps_claimRequest s _

/-! ### The yaw engine -/

theorem keeps_setRoute (s : State) (i : Fin 6) (r : Route) : Keeps [] [] s (s.setRoute i r) :=
  .of_changes (changes_setRoute s i r).mono

theorem keeps_endRoute (s : State) (o : RouteOutcome) : Keeps [] [] s (s.endRoute o) :=
  .of_changes (changes_endRoute s o).mono

theorem keeps_completeTurn (s : State) : Keeps [] [] s s.completeTurn := .of_changes (changes_completeTurn s).mono

/-- A new record of the yaw engine that keeps known, heading and twist. -/
theorem keeps_yaw {is : List (Fin 32)} {zs : List Zone} (s : State) (y : Yaw)
    (place : y.known = s.yaw.known ∧ y.heading = s.yaw.heading ∧ y.twist = s.yaw.twist) :
    Keeps is zs s { s with yaw := y } :=
  Keeps.of_pieces rfl place rfl rfl rfl rfl

theorem keeps_openWindows (s : State) : Keeps [] [] s s.openWindows := .of_changes (changes_openWindows s).mono

theorem keeps_clearWindows (s : State) : Keeps [] [] s s.clearWindows := .of_changes (changes_clearWindows s).mono

theorem keeps_park (s : State) : Keeps claimRecs [] s s.park := by
  unfold State.park
  refine Keeps.trans ?_ (keeps_engineRequest _ _ _)
  refine Keeps.trans ?_ (keeps_openWindows _).mono
  exact keeps_yaw s _ ⟨rfl, rfl, rfl⟩

theorem keeps_enterSettling (s : State) : Keeps [] [] s s.enterSettling := keeps_yaw s _ ⟨rfl, rfl, rfl⟩

theorem keeps_applyBrake (s : State) : Keeps [] [] s s.applyBrake := keeps_yaw s _ ⟨rfl, rfl, rfl⟩

theorem keeps_enterTurning (s : State) (g : Segment) (n : Nat) : Keeps [] [] s (s.enterTurning g n) :=
  keeps_yaw s _ ⟨rfl, rfl, rfl⟩

theorem keeps_advance (s : State) : Keeps [] [] s s.advance := keeps_yaw s _ ⟨rfl, rfl, rfl⟩

theorem keeps_startSegment (s : State) : Keeps [] [] s s.startSegment := by
  unfold State.startSegment
  split
  · exact Keeps.refl _ _ s
  · have base : ∀ d t v l, Keeps [] [] s
        { s with yaw := { s.yaw with direction := d, travel := t, target := v, stageLeft := l } } :=
      fun _ _ _ _ => keeps_yaw s _ ⟨rfl, rfl, rfl⟩
    simp only
    split
    · exact ((base _ _ _ _).trans (keeps_endRoute _ _)).trans (keeps_applyBrake _)
    · split
      · exact ((base _ _ _ _).trans (keeps_completeTurn _)).trans (keeps_applyBrake _)
      · exact (base _ _ _ _).trans (keeps_enterTurning _ _ _)

theorem keeps_enterReleasing (s : State) : Keeps [] [] s s.enterReleasing := by
  unfold State.enterReleasing
  simp only
  split
  · refine Keeps.trans ?_ (keeps_startSegment _)
    exact keeps_yaw s _ ⟨rfl, rfl, rfl⟩
  · exact keeps_yaw s _ ⟨rfl, rfl, rfl⟩

theorem keeps_leaveBraking (s : State) : Keeps claimRecs [] s s.leaveBraking := by
  unfold State.leaveBraking
  split
  · exact keeps_park s
  · split
    · refine Keeps.trans ?_ (keeps_enterReleasing _).mono
      exact keeps_yaw s _ ⟨rfl, rfl, rfl⟩
    · split
      · split
        · exact keeps_yaw s _ ⟨rfl, rfl, rfl⟩
        · exact Keeps.trans (keeps_advance s).mono (keeps_enterReleasing _).mono
      · exact keeps_park s

theorem keeps_enterBraking (s : State) : Keeps claimRecs [] s s.enterBraking :=
  Keeps.ite (keeps_applyBrake s).mono ((keeps_applyBrake s).mono.trans (keeps_leaveBraking _))

theorem keeps_stopPath (s : State) : Keeps claimRecs [] s s.stopPath := by
  unfold State.stopPath
  split
  · exact keeps_park s
  · exact keeps_enterBraking s
  · exact (keeps_enterSettling s).mono
  · exact keeps_park s
  · exact Keeps.refl _ _ s
  · exact Keeps.refl _ _ s
  · exact Keeps.refl _ _ s

theorem keeps_stopRunning (s : State) (o : RouteOutcome) : Keeps claimRecs [] s (s.stopRunning o) :=
  Keeps.ite ((keeps_endRoute s o).mono.trans (keeps_stopPath _)) (Keeps.refl _ _ s)

theorem keeps_yawShed (s : State) : Keeps claimRecs [] s s.yawShed := by
  refine Keeps.trans ?_ (keeps_stopRunning _ _)
  exact keeps_yaw s _ ⟨rfl, rfl, rfl⟩

theorem keeps_yawGranted (s : State) : Keeps [] [] s s.yawGranted :=
  Keeps.ite (keeps_enterReleasing s) (Keeps.refl _ _ s)

theorem keeps_takeRoute (s : State) (r : Fin 6) : Keeps [] [] s (s.takeRoute r) := keeps_yaw s _ ⟨rfl, rfl, rfl⟩

theorem keeps_startClaimWait (s : State) : Keeps [] [] s s.startClaimWait := keeps_yaw s _ ⟨rfl, rfl, rfl⟩

theorem keeps_startRun (s : State) (r : Fin 6) : Keeps claimRecs [] s (s.startRun r) := by
  unfold State.startRun
  refine Keeps.trans ?_ (keeps_engineRequest _ _ _)
  refine Keeps.trans ?_ (keeps_clearWindows _).mono
  refine Keeps.trans ?_ (keeps_startClaimWait _).mono
  refine Keeps.trans ?_ (keeps_takeRoute _ r).mono
  exact keeps_yaw s _ ⟨rfl, rfl, rfl⟩

theorem keeps_preempt (s : State) (r : Fin 6) : Keeps claimRecs [] s (s.preempt r) := by
  have base : Keeps claimRecs [] s (s.takeRoute r) := (keeps_takeRoute s r).mono
  unfold State.preempt
  simp only
  split
  · exact base.trans (keeps_startClaimWait _).mono
  · exact base.trans (keeps_enterBraking _)
  · exact base.trans (keeps_enterSettling _).mono
  · exact base.trans (keeps_enterReleasing _).mono
  · exact base
  · exact base
  · exact base

theorem keeps_admitRoute (s : State) (r : Fin 6) : Keeps claimRecs [] s (s.admitRoute r) := by
  have base : ∀ q, Keeps claimRecs [] s ((s.endRoute .preempted).setRoute r q) := fun q =>
    ((keeps_endRoute s .preempted).mono.trans (keeps_setRoute _ r q).mono)
  exact Keeps.ite ((base _).trans (keeps_preempt _ r)) ((base _).trans (keeps_startRun _ r))

/-! ### Consequences and owners -/

theorem keeps_conv {is : List (Fin 32)} {zs : List Zone} (s : State) (c : Converter) :
    Keeps is zs s { s with conv := c } :=
  .of_changes (changes_conv s c).mono

theorem keeps_enterTripped (s : State) : Keeps [] [] s s.enterTripped :=
  Keeps.of_pieces rfl ⟨rfl, rfl, rfl⟩ rfl rfl rfl rfl

theorem keeps_shedService (s : State) : Keeps claimRecs [] s s.shedService := by
  refine keeps_apportionStarting s _ fun one => ?_
  rw [serviceShed_stagger]
  split
  · exact nofun
  · simp only [ne_eq, Option.some.injEq]; omega

theorem keeps_tell (s : State) (told now : Consequences) : Keeps claimRecs [] s (s.tell told now) := by
  unfold State.tell
  simp only
  refine Keeps.onlyIf ?_ (keeps_claimEvent _).mono
  refine Keeps.onlyIf ?_ (keeps_shedService _)
  refine Keeps.onlyIf ?_ (keeps_stopRunning _ _)
  refine Keeps.onlyIf ?_ (Keeps.ite (keeps_conv _ _) (Keeps.refl _ _ _))
  exact Keeps.onlyIf (Keeps.refl _ _ s) (Keeps.ite (keeps_enterTripped _).mono (Keeps.refl _ _ _))

theorem keeps_judge (s : State) : Keeps claimRecs [] s s.judge := by
  refine Keeps.trans (t := { s with cond := { s.cond with told := s.cond.inForce } }) ?_ (keeps_tell _ _ _)
  exact Keeps.of_pieces rfl ⟨rfl, rfl, rfl⟩ rfl rfl rfl rfl

theorem keeps_report (s : State) (g : Group) : Keeps (g.map Prod.fst ++ claimRecs) [] s (s.report g) :=
  ((keeps_takeReports s g).mono (List.subset_append_left _ _)).trans
    ((keeps_judge _).mono (List.subset_append_right _ _))

/-- A zone record put in place of one with the same thresholds and judgement, and any hold. -/
theorem keeps_setZone {is : List (Fin 32)} {zs : List Zone} (s : State) (z : Zone) (r : ZoneRec)
    (limits : r.limits = (s.cool.zones.get z).limits) (thermal : r.thermal = (s.cool.zones.get z).thermal)
    (computed : r.computed = (s.cool.zones.get z).computed) : Keeps is zs s (s.setZone z r) := by
  refine ⟨⟨rfl, rfl, rfl, rfl, ?_, ?_, ?_, fun _ _ => rfl⟩,
    ⟨[], List.nil_subset _, (List.append_nil _).symm, fun _ => rfl⟩, fun _ => rfl⟩
  all_goals
    intro w
    rw [setZone_zones, PerZone.get_set]
    split
  · next e => rw [e, limits]
  · rfl
  · next e => rw [e]; exact fun _ => thermal
  · exact fun _ => rfl
  · next e => rw [e]; exact fun _ => computed
  · exact fun _ => rfl

theorem keeps_setFlow (s : State) (p : Pump) (f : FlowCheck) : Keeps [] [] s (s.setFlow p f) :=
  Keeps.of_pieces rfl ⟨rfl, rfl, rfl⟩ rfl rfl rfl rfl

theorem keeps_armFlow (s : State) (p : Pump) : Keeps [] [] s (s.armFlow p) := by
  unfold State.armFlow
  simp only
  split
  · exact Keeps.ite (Keeps.ite (keeps_setFlow s _ _) (keeps_setFlow s _ _)) (Keeps.refl _ _ s)
  · exact Keeps.ite (Keeps.refl _ _ s) (keeps_setFlow s _ _)
  · exact Keeps.ite (Keeps.refl _ _ s) (keeps_setFlow s _ _)
  · exact Keeps.refl _ _ s

theorem keeps_refreshActuator (s : State) (z : Zone) : Keeps [] [] s (s.refreshActuator z) := by
  unfold State.refreshActuator
  simp only
  split
  · exact keeps_setZone s _ _ rfl rfl rfl
  · refine Keeps.trans ?_ (keeps_armFlow _ _)
    exact keeps_setZone s _ _ rfl rfl rfl

theorem keeps_noteActuators (s : State) (zs : List Zone) : Keeps [] [] s (State.noteActuators zs s) :=
  Keeps.of_pieces rfl ⟨rfl, rfl, rfl⟩ rfl rfl rfl rfl

theorem keeps_settleActuators (s : State) : Keeps [] [] s s.settleActuators :=
  Keeps.foldl keeps_refreshActuator _ s

theorem keeps_tellConverter (before s : State) : Keeps ownerRecs [] s (State.tellConverter before s) := by
  unfold State.tellConverter
  split
  · exact keeps_conv s _
  · split
    · have lost : ∀ c, Keeps ownerRecs [] s (State.report [(Cond.coolingLost, .occurs)] { s with conv := c }) :=
        fun c => (keeps_conv s c).trans (keeps_report _ [(Cond.coolingLost, .occurs)])
      exact Keeps.ite (lost _) (keeps_conv s _)
    · exact Keeps.refl _ _ s

theorem keeps_tellYaw (before s : State) : Keeps claimRecs [] s (State.tellYaw before s) :=
  Keeps.ite (keeps_yawGranted s).mono (Keeps.ite (keeps_yawShed s) (Keeps.refl _ _ s))

theorem keeps_tellOwners (before s : State) : Keeps ownerRecs [] s (State.tellOwners before s) :=
  ((keeps_noteActuators s _).mono.trans (keeps_tellConverter before _)).trans (keeps_tellYaw before _).mono

theorem keeps_grantOpportunity (s : State) : Keeps ownerRecs [] s s.grantOpportunity := by
  refine Keeps.ite (Keeps.trans (keeps_apportionStarting s _ fun one => ?_).mono (keeps_tellOwners s _)) (Keeps.refl _ _ s)
  rcases opportunity_stagger s.grantArgs { s.app with stagger := none } with e | e
  · rw [e]; exact nofun
  · have n : s.grantArgs.stagger = s.setting Setting.stagger := rfl
    rw [e, n]
    simp only [ne_eq, Option.some.injEq]; omega

/-! ### The Cooling Controller -/

theorem keeps_askActuator (s : State) (z : Zone) : Keeps claimRecs [] s (s.askActuator z) := by
  refine Keeps.trans ?_ (keeps_engineRequest _ _ _)
  exact keeps_setZone s z _ rfl rfl rfl

theorem keeps_driveActuators (s : State) (zs : List Zone) : Keeps ownerRecs [] s (State.driveActuators zs s) := by
  unfold State.driveActuators
  refine Keeps.trans (Keeps.foldl (fun t z => (keeps_askActuator t z).mono) zs s) ?_
  exact (keeps_noteActuators _ zs).mono.trans (keeps_tellOwners _ _)

/-- The records a zone's evaluation reports at (R103). -/
def zoneRecs (zs : List Zone) : List (Fin 32) := zs.flatMap fun z => [Cond.zoneHot z, Cond.zoneCritical z]

/-- Steps 1 to 4 of the evaluation of several zones. -/
def State.evaluatedAll (zs : List Zone) (s : State) : State := zs.foldl (fun t z => t.setZone z (t.evaluated z)) s

theorem evaluated_limits (s : State) (z : Zone) : (s.evaluated z).limits = (s.cool.zones.get z).limits := by
  unfold State.evaluated ZoneRec.follow
  simp only
  split
  · rfl
  · split <;> rfl

theorem stays_evaluatedAll (zs : List Zone) (s : State) : Stays [] zs s (s.evaluatedAll zs) := by
  unfold State.evaluatedAll
  induction zs generalizing s with
  | nil => exact Stays.refl _ _ s
  | cons z zs ih =>
    refine Stays.trans ?_ ((ih _).mono (List.nil_subset _) (by simp))
    refine ⟨rfl, rfl, rfl, rfl, fun w => ?_, fun w hw => ?_, fun w hw => ?_, fun _ _ => rfl⟩
    · rw [setZone_zones, PerZone.get_set]
      split
      · next e => rw [e, evaluated_limits]
      · rfl
    · rw [setZone_zones, PerZone.get_set, if_neg (by simp only [List.mem_cons, not_or] at hw; exact hw.1)]
    · rw [setZone_zones, PerZone.get_set, if_neg (by simp only [List.mem_cons, not_or] at hw; exact hw.1)]

/-- A decrease hold that an evaluation starts begins at LEVEL_DECREASE_HOLD seconds, so not at 0 where that is at least
1 (R106). -/
theorem evaluated_hold {s : State} {z : Zone} (one : 1 ≤ s.setting Setting.levelDecreaseHold)
    (old : (s.cool.zones.get z).hold ≠ some 0) : (s.evaluated z).hold ≠ some 0 := by
  unfold State.evaluated ZoneRec.follow
  simp only
  split
  · exact nofun
  · split
    · exact nofun
    · cases h : (s.cool.zones.get z).hold with
      | none => simp only [Option.getD_none, ne_eq, Option.some.injEq]; omega
      | some n => simpa [h] using old

theorem evaluatedAll_hold {zs : List Zone} {s : State} (one : 1 ≤ s.setting Setting.levelDecreaseHold) {z : Zone}
    (old : (s.cool.zones.get z).hold ≠ some 0) : ((s.evaluatedAll zs).cool.zones.get z).hold ≠ some 0 := by
  unfold State.evaluatedAll
  induction zs generalizing s with
  | nil => exact old
  | cons w zs ih =>
    refine ih (s := s.setZone w (s.evaluated w)) one ?_
    rw [setZone_zones, PerZone.get_set]
    split
    · next e => exact evaluated_hold one (e ▸ old)
    · exact old

/-- After steps 1 to 4: the noting of the holds, the reports and the actuators keep every zone's judgement. -/
theorem keeps_evaluatedAll_rest (s : State) (zs : List Zone) :
    Keeps (zoneRecs zs ++ ownerRecs) [] (State.noteZeroHolds s zs (s.evaluatedAll zs)) (State.evaluateZones zs s) := by
  have names : (zs.flatMap fun z => zoneReports z
      ((State.noteZeroHolds s zs (s.evaluatedAll zs)).cool.zones.get z).thermal).map Prod.fst = zoneRecs zs := by
    simp [zoneRecs, zoneReports, List.map_flatMap]
  refine Keeps.trans ?_ ((keeps_driveActuators _ _).mono (List.subset_append_right _ _))
  refine (keeps_report _ _).mono (names ▸ ?_)
  exact List.append_subset.2 ⟨List.subset_append_left _ _, List.subset_append_of_subset_right _ (by decide)⟩

theorem keeps_evaluateZones (s : State) (zs : List Zone) :
    Keeps (zoneRecs zs ++ ownerRecs) zs s (State.evaluateZones zs s) := by
  refine Keeps.trans ?_ ((keeps_evaluatedAll_rest s zs).mono (List.Subset.refl _) (List.nil_subset _))
  obtain ⟨store, known, heading, twist, limits, thermal, computed, recs⟩ :=
    (stays_evaluatedAll zs s).mono (List.nil_subset (zoneRecs zs ++ ownerRecs)) (List.Subset.refl zs)
  have ev : (s.evaluatedAll zs).ev = s.ev :=
    Changes.foldl (f := fun t z => t.setZone z (t.evaluated z)) (fun t z => changes_setZone t z _) zs s .ev (by decide)
  refine ⟨⟨store, known, heading, twist, limits, thermal, computed, recs⟩,
    ⟨zs.filter (zeroHoldStarted s (s.evaluatedAll zs)), List.filter_subset_self _, ?_, fun one => ?_⟩, fun _ => ?_⟩
  · rw [noteZeroHolds_zeroHolds, ev]
  · rw [List.filter_eq_nil_iff]
    intro z _ started
    simp only [zeroHoldStarted, Bool.and_eq_true, Option.isNone_iff_eq_none, beq_iff_eq] at started
    exact evaluatedAll_hold one (by rw [started.1]; exact nofun) started.2
  · rw [noteZeroHolds_zeroStagger, ev]

/-- What the evaluation of one zone makes of its judgement (R102, R104). -/
theorem evaluateZones_judged (s : State) (z : Zone) :
    ((State.evaluateZones [z] s).cool.zones.get z).thermal =
        (s.cool.zones.get z).limits.judge (s.cool.zones.get z).thermal (s.temperature z) ∧
      ((State.evaluateZones [z] s).cool.zones.get z).computed =
        some ((s.cool.zones.get z).limits.level (s.temperature z)) := by
  have rest := (keeps_evaluatedAll_rest s [z]).toStays
  have own : (State.noteZeroHolds s [z] (s.evaluatedAll [z])).cool.zones.get z = s.evaluated z :=
    PerZone.get_set_self _ _ _
  rw [rest.thermal z (List.not_mem_nil), rest.computed z (List.not_mem_nil), own]
  unfold State.evaluated ZoneRec.follow
  simp only
  split
  · exact ⟨rfl, rfl⟩
  · split <;> exact ⟨rfl, rfl⟩

theorem keeps_holdExpired (s : State) (z : Zone) :
    Keeps (zoneRecs [z] ++ ownerRecs) [z] s (State.holdExpired z s) := by
  refine Keeps.trans ?_ (keeps_evaluateZones _ _)
  exact keeps_setZone s z _ rfl rfl rfl

theorem keeps_freshReading (s : State) (z : Zone) : Keeps allRecords allZones s (State.freshReading z s) := by
  refine Keeps.trans ?_ (keeps_evaluateZones _ _).all
  exact keeps_setZone s z _ rfl rfl rfl

theorem keeps_offChanged (s : State) : Keeps allRecords allZones s s.offChanged := (keeps_evaluateZones s _).all

theorem keeps_flowLost (s : State) (p : Pump) : Keeps allRecords allZones s (State.flowLost p s) :=
  ((keeps_setFlow s _ _).all.trans (keeps_report _ _).all).trans (keeps_driveActuators _ _).all

theorem keeps_flowRecovered (s : State) (p : Pump) : Keeps allRecords allZones s (State.flowRecovered p s) :=
  ((keeps_setFlow s _ _).all.trans (keeps_report _ _).all).trans (keeps_driveActuators _ _).all

theorem keeps_flowChanged (s : State) (p : Pump) (b : Bool) :
    Keeps allRecords allZones s (State.flowChanged p b s) := by
  unfold State.flowChanged
  simp only
  split
  · exact Keeps.refl _ _ s
  · exact Keeps.ite (keeps_setFlow s _ _).all (Keeps.refl _ _ s)
  · exact Keeps.ite (keeps_setFlow s _ _).all (keeps_setFlow s _ _).all
  · exact Keeps.ite (keeps_flowRecovered s p) (Keeps.refl _ _ s)

/-! ### The end of an event -/

theorem keeps_settle (s : State) : Keeps ownerRecs [] s s.settle := by
  have claims : Keeps ownerRecs [] s s.settleClaims := Keeps.ite (keeps_grantOpportunity s) (Keeps.refl _ _ s)
  exact (claims.trans (keeps_settleActuators _).mono).trans (Keeps.ite (keeps_conv _ _) (Keeps.refl _ _ _))

theorem stays_closeEvent (before s : State) : Stays ownerRecs [] s (closeEvent before s) := by
  obtain ⟨store, known, heading, twist, limits, thermal, computed, recs⟩ := (keeps_settle s).toStays
  exact ⟨store, known, heading, twist, limits, thermal, computed, recs⟩

theorem stays_staggerExpired (s : State) : Stays ownerRecs [] s s.staggerExpired := by
  have idle : Keeps ownerRecs [] s { s with app := { s.app with stagger := none } } :=
    Keeps.of_pieces rfl ⟨rfl, rfl, rfl⟩ rfl rfl rfl rfl
  exact (idle.trans (keeps_grantOpportunity _)).toStays

/-- What the end of one event brings about, and the expiries of the stagger timer and of the decrease holds noted keep,
holds after `finishEvent`. -/
theorem finishEvent_induct_noted {P : State → Prop} {before s : State} (close : P (closeEvent before s))
    (hold : ∀ u, ∀ z ∈ s.settle.ev.zeroHolds, P u → P (closeEvent u (u.holdExpired z)))
    (stagger : ∀ u, P u → P (closeEvent u u.staggerExpired)) : P (finishEvent before s) := by
  have staggers : ∀ (n : Nat) (u : State), P u → P (u.expireZeroStagger n) := by
    intro n
    induction n with
    | zero => exact fun _ p => p
    | succ n ih =>
      intro u p
      unfold State.expireZeroStagger
      split
      · exact ih _ (stagger u p)
      · exact p
  have ends : ∀ b u : State, P (closeEvent b u) → P (endEvent b u) := by
    intro b u p
    unfold endEvent
    simp only
    split
    · exact staggers _ _ p
    · exact p
  have holds : ∀ (zs : List Zone), (∀ z ∈ zs, z ∈ s.settle.ev.zeroHolds) → ∀ u, P u →
      P (zs.foldl State.expireZeroHold u) := by
    intro zs
    induction zs with
    | nil => exact fun _ _ p => p
    | cons z zs ih =>
      intro sub u p
      refine ih (fun w hw => sub w (List.mem_cons_of_mem z hw)) _ ?_
      unfold State.expireZeroHold
      split
      · exact ends _ _ (hold u z (sub z List.mem_cons_self) p)
      · exact p
  exact holds _ (fun _ h => h) _ (ends _ _ close)

/-- The end of an arrival's event and the expiries that follow it at once: only the zones whose decrease hold was noted
are evaluated. -/
theorem stays_finishEvent {before s : State} {zs : List Zone} (noted : s.settle.ev.zeroHolds ⊆ zs) :
    Stays (zoneRecs zs ++ ownerRecs) zs s (finishEvent before s) := by
  have owner : ownerRecs ⊆ zoneRecs zs ++ ownerRecs := List.subset_append_right _ _
  have close : ∀ b u, Stays (zoneRecs zs ++ ownerRecs) zs u (closeEvent b u) :=
    fun b u => (stays_closeEvent b u).mono owner (List.nil_subset _)
  refine finishEvent_induct_noted (close before s) (fun u z hz p => ?_) (fun u p => ?_)
  · have zone : [z] ⊆ zs := by simpa using noted hz
    have recs : zoneRecs [z] ⊆ zoneRecs zs := by
      intro i hi
      simp only [zoneRecs, List.mem_flatMap] at hi ⊢
      obtain ⟨w, hw, h⟩ := hi
      exact ⟨w, zone hw, h⟩
    exact (p.trans ((keeps_holdExpired u z).toStays.mono
      (List.append_subset.2 ⟨List.subset_append_of_subset_left _ recs, owner⟩) zone)).trans (close _ _)
  · exact (p.trans ((stays_staggerExpired u).mono owner (List.nil_subset _))).trans (close _ _)

theorem finishEvent_ev (before s : State) : (finishEvent before s).ev = Scratch.empty :=
  finishEvent_induct (P := fun u => u.ev = Scratch.empty) rfl (fun _ _ _ => rfl) (fun _ _ => rfl)

end Sys2Proof.Machine
end

section
/-!
WRITE FIELD accepted, of a condition record and of a zone threshold (R13, R116, R167).
-/
namespace Sys2Proof.Machine

/-! ### Frames of a whole command -/

/-- An event leaves what its operation gathered used up: a frame of the whole command. -/
theorem Changes.of_ev {ps : List Piece} {s t : State} (h : Changes (.ev :: ps) s t) (ev : t.ev = s.ev) :
    Changes ps s t := by
  intro p hp
  by_cases e : p = .ev
  · rw [e]; exact ev
  · exact h p (by simp only [List.mem_cons, not_or]; exact ⟨e, hp⟩)

theorem changes_port (s : State) (p : Port) : Changes [.port] s { s with port := p } := by
  intro q hq; cases q <;> first | rfl | exact absurd (by decide) hq

theorem changes_entered (s : State) : Changes [.port] s s.entered := changes_port s _

/-- A quiet event's operation with the response prepared, as `answered` has it, but for the revisions. -/
theorem changes_answered_quiet {before u : State} {st : ItemStatus} {data : List Byte} (q : u.ev.Quiet) :
    Changes [.revs] (u.answered st data)
      { finishEvent before u.entered with port := u.port.answered st data } := by
  rw [finishEvent_quiet (before := before) (s := u.entered) q]
  intro p hp
  cases p <;> first | rfl | exact absurd (by decide) hp

/-! ### A write that passes every check (R9) -/

theorem writeRecord_accepted {s : State} {field table index : Nat} {v : Int} {w : WriteTarget}
    (within : field ≤ highestField table) (target : writeTarget table index field = some w)
    (bounds : w.inBounds v = true) (cross : s.crossFits w v.toNat = true)
    (free : w.cls = .protection → s.store.frozen = false ∧ s.busy = false) :
    writeRecord field v s table index = answerOk (s.applyWrite w v.toNat) := by
  have past : ¬highestField table < field := Nat.not_lt.2 within
  by_cases prot : w.cls = .protection
  · obtain ⟨frozen, busy⟩ := free prot
    simp [writeRecord, past, target, bounds, cross, prot, frozen, busy]
  · simp [writeRecord, past, target, bounds, cross, prot]

/-- WRITE FIELD that passes guard and checks applies the value at the owning block. -/
theorem doWrite_accepted {s : State} {h : Handle} {g : Option Nat} {field table index v : Nat} {w : WriteTarget}
    (res : (resolve h s).2 = some (table, index)) (guard : guardPasses s g table index = true)
    (within : field ≤ highestField table) (target : writeTarget table index field = some w)
    (bounds : w.inBounds v = true) (cross : s.crossFits w v = true)
    (free : w.cls = .protection → s.store.frozen = false ∧ s.conv.state = .off ∧ s.yaw.engine = .parked) :
    doWrite h g field v s.entered = answerOk ((resolve h s).1.entered.applyWrite w v) := by
  have idle : w.cls = .protection →
      (resolve h s).1.entered.store.frozen = false ∧ (resolve h s).1.entered.busy = false := by
    intro prot
    obtain ⟨frozen, off, parked⟩ := free prot
    have busy : s.busy = false := by simp [State.busy, off, parked]
    exact ⟨(frozen_resolved h s).trans frozen, (busy_resolved h s).trans busy⟩
  rw [doWrite_entered res, if_pos guard]
  exact writeRecord_accepted within target bounds ((crossFits_resolved h s w v).trans cross) idle

/-! ### Condition records (R167) -/

/-- WRITE FIELD of a condition's onset delay, route or mask replaces that field, in a quiet event. -/
theorem exec_writeField_condition {s : State} {h : Handle} {g : Option Nat} {i : Fin 32} {field v : Nat} (r : Ready s)
    (res : (resolve h s).2 = some (10, i.val)) (guard : guardPasses s g 10 i.val = true)
    (writable : field = 8 ∨ field = 10 ∨ field = 11)
    (bounds : (WriteTarget.condition i field).inBounds v = true) :
    ∃ t, exec (.writeField h g field v) s = .next t ∧
      Changes [.revs] (((resolve h s).1.setRec i ((s.cond.recs[i]).put field v)).answered .ok []) t := by
  have within : field ≤ highestField 10 := by
    have top : highestField 10 = 16 := rfl
    omega
  have target : writeTarget 10 i.val field = some (.condition i field) := by
    rw [writeTarget_condition, if_pos writable]
  have b := doWrite_accepted res guard within target bounds rfl (fun prot => by cases prot)
  have c := changes_resolve h s
  have ev : ((resolve h s).1.setRec i ((s.cond.recs[i]).put field v)).ev.Quiet := by
    rw [setRec_ev, c .ev (by decide)]
    exact quiet_of_between r.1.1
  have cond : (resolve h s).1.cond = s.cond := c .cond (by decide)
  obtain ⟨n, e, -⟩ := resolve_fst h s
  have applied : doWrite h g field v s.entered =
      ⟨((resolve h s).1.setRec i ((s.cond.recs[i]).put field v)).entered, .ok, .bytes []⟩ := by
    rw [b, ← cond]
    rfl
  exact ⟨_, runItem_quiet (i := .writeField h g field v) r.1 (.inl r.2) applied (fun x => absurd rfl x) ev
    (by rw [setRec_port, e]; exact r.1.2.2), changes_revs _ _⟩

/-! ### Zone thresholds (R116) -/

theorem falling_rising (l : Thresholds) (t : Int) : l.falling (l.rising t) t = l.rising t := by
  unfold Thresholds.rising
  split
  · next h => rw [Thresholds.falling, Thresholds.fallFromCritical, if_pos (by omega)]
  split
  · next h => rw [Thresholds.falling, Thresholds.fallFromHot, if_pos (by omega)]
  split
  · next h => rw [Thresholds.falling, Thresholds.fallFromWarm, if_pos (by omega)]
  · rfl

theorem falling_fallFromWarm (l : Thresholds) (t : Int) : l.falling (l.fallFromWarm t) t = l.fallFromWarm t := by
  unfold Thresholds.fallFromWarm
  split
  · next h => rw [Thresholds.falling, Thresholds.fallFromWarm, if_pos h]
  · rfl

theorem falling_fallFromHot (l : Thresholds) (t : Int) : l.falling (l.fallFromHot t) t = l.fallFromHot t := by
  unfold Thresholds.fallFromHot
  split
  · next h => rw [Thresholds.falling, Thresholds.fallFromHot, if_pos h]
  · exact falling_fallFromWarm l t

theorem falling_fallFromCritical (l : Thresholds) (t : Int) :
    l.falling (l.fallFromCritical t) t = l.fallFromCritical t := by
  unfold Thresholds.fallFromCritical
  split
  · next h => rw [Thresholds.falling, Thresholds.fallFromCritical, if_pos h]
  · exact falling_fallFromHot l t

theorem falling_falling (l : Thresholds) (p : ThermalState) (t : Int) :
    l.falling (l.falling p t) t = l.falling p t := by
  cases p with
  | normal => rfl
  | warm => exact falling_fallFromWarm l t
  | hot => exact falling_fallFromHot l t
  | critical => exact falling_fallFromCritical l t

theorem fallFromWarm_of_entry {l : Thresholds} {t : Int} (h : (l.warm : Int) ≤ t) : l.fallFromWarm t = .warm :=
  if_pos (by omega)

theorem fallFromHot_of_entry {l : Thresholds} {t : Int} (h : (l.hot : Int) ≤ t) : l.fallFromHot t = .hot :=
  if_pos (by omega)

theorem fallFromCritical_of_entry {l : Thresholds} {t : Int} (h : (l.critical : Int) ≤ t) :
    l.fallFromCritical t = .critical := if_pos (by omega)

theorem fallFromWarm_le_fallFromHot (l : Thresholds) (t : Int) :
    (l.fallFromWarm t).code ≤ (l.fallFromHot t).code := by
  unfold Thresholds.fallFromHot
  split
  · unfold Thresholds.fallFromWarm
    split <;> decide
  · exact Nat.le_refl _

theorem fallFromHot_le_fallFromCritical (l : Thresholds) (t : Int) :
    (l.fallFromHot t).code ≤ (l.fallFromCritical t).code := by
  unfold Thresholds.fallFromCritical
  split
  · cases l.fallFromHot t <;> decide
  · exact Nat.le_refl _

/-- A reading at the entry threshold of a state is above the threshold that still holds it there, so a zone does not fall
below the state it would rise to. -/
theorem rising_le_falling {l : Thresholds} {p : ThermalState} {t : Int} (h : (l.rising t).code ≤ p.code) :
    (l.rising t).code ≤ (l.falling p t).code := by
  have hotCritical := fallFromHot_le_fallFromCritical l t
  have warmHot := fallFromWarm_le_fallFromHot l t
  unfold Thresholds.rising at h ⊢
  split at h
  · next entry =>
    rw [if_pos entry]
    cases p with
    | critical => exact (congrArg ThermalState.code (fallFromCritical_of_entry entry)).ge
    | normal | warm | hot => exact absurd h (by decide)
  · next low =>
    rw [if_neg low]
    split at h
    · next entry =>
      rw [if_pos entry]
      rw [fallFromHot_of_entry entry] at hotCritical
      cases p with
      | critical => exact hotCritical
      | hot => exact (congrArg ThermalState.code (fallFromHot_of_entry entry)).ge
      | normal | warm => exact absurd h (by decide)
    · next low =>
      rw [if_neg low]
      split at h
      · next entry =>
        rw [if_pos entry]
        rw [fallFromWarm_of_entry entry] at warmHot
        cases p with
        | critical => exact warmHot.trans hotCritical
        | hot => exact warmHot
        | warm => exact (congrArg ThermalState.code (fallFromWarm_of_entry entry)).ge
        | normal => exact absurd h (by decide)
      · next low =>
        rw [if_neg low]
        exact Nat.zero_le _

theorem judge_rises {l : Thresholds} {p : ThermalState} {t : Int} (h : p.code < (l.rising t).code) :
    l.judge p (some t) = l.rising t := if_pos h

theorem judge_falls {l : Thresholds} {p : ThermalState} {t : Int} (h : (l.rising t).code ≤ p.code) :
    l.judge p (some t) = l.falling p t := if_neg (Nat.not_lt.2 h)

/-- A zone evaluated again with the same reading keeps its thermal state (R102). -/
theorem judge_judge (l : Thresholds) (p : ThermalState) (reading : Option Int) :
    l.judge (l.judge p reading) reading = l.judge p reading := by
  cases reading with
  | none => rfl
  | some t =>
    by_cases up : p.code < (l.rising t).code
    · rw [judge_rises up, judge_falls (Nat.le_refl _), falling_rising]
    · rw [judge_falls (Nat.not_lt.1 up), judge_falls (rising_le_falling (Nat.not_lt.1 up)), falling_falling]

theorem settle_zeroHolds {is : List (Fin 32)} {zs : List Zone} {s u : State} (k : Keeps is zs s u)
    (ev : s.ev.zeroHolds = []) : u.settle.ev.zeroHolds ⊆ zs := by
  obtain ⟨l, sub, e, -⟩ := (k.mono (List.subset_append_left _ ownerRecs) (List.Subset.refl zs)).trans
    ((keeps_settle u).mono (List.subset_append_right is _) (List.nil_subset zs)) |>.holds
  rw [e, ev, List.nil_append]
  exact sub

/-- In `u` a zone has the judgement that an evaluation in `s` gives it, by the same reading. -/
structure State.JudgedAs (s : State) (z : Zone) (u : State) : Prop where
  meter : u.meter = s.meter
  limits : (u.cool.zones.get z).limits = (s.cool.zones.get z).limits
  thermal : (u.cool.zones.get z).thermal =
    (s.cool.zones.get z).limits.judge (s.cool.zones.get z).thermal (s.temperature z)
  computed : (u.cool.zones.get z).computed = some ((s.cool.zones.get z).limits.level (s.temperature z))

theorem State.JudgedAs.of_stays {s u t : State} {z : Zone} {is : List (Fin 32)} (h : s.JudgedAs z u)
    (stays : Stays is [] u t) (meter : t.meter = u.meter) : s.JudgedAs z t := by
  obtain ⟨m, limits, thermal, computed⟩ := h
  exact ⟨meter.trans m, (stays.limits z).trans limits, (stays.thermal z List.not_mem_nil).trans thermal,
    (stays.computed z List.not_mem_nil).trans computed⟩

theorem State.JudgedAs.closeEvent {s u : State} {z : Zone} (h : s.JudgedAs z u) (before : State) :
    s.JudgedAs z (closeEvent before u) :=
  h.of_stays (stays_closeEvent before u) (changes_closeEvent before u .meter (by decide))

theorem judgedAs_evaluateZones {s u : State} {z : Zone} (meter : u.meter = s.meter)
    (limits : (u.cool.zones.get z).limits = (s.cool.zones.get z).limits)
    (thermal : (s.cool.zones.get z).limits.judge (u.cool.zones.get z).thermal (s.temperature z) =
      (s.cool.zones.get z).limits.judge (s.cool.zones.get z).thermal (s.temperature z)) :
    s.JudgedAs z (State.evaluateZones [z] u) := by
  have reading : u.temperature z = s.temperature z := by
    rw [State.temperature, State.channelValue, meter]
    rfl
  obtain ⟨judged, level⟩ := evaluateZones_judged u z
  rw [limits, reading] at judged level
  exact ⟨(changes_evaluateZones u [z] .meter (by decide)).trans meter,
    ((keeps_evaluateZones u [z]).toStays.limits z).trans limits, judged.trans thermal, level⟩

/-- A zone evaluated, and evaluated again where its decrease hold of 0 s expires at once, has the judgement of its present
reading (R101, R102, R104, R106). -/
theorem judgedAs_finishEvent {before s : State} {z : Zone}
    (noted : (State.evaluateZones [z] s).settle.ev.zeroHolds ⊆ [z]) :
    s.JudgedAs z (finishEvent before (State.evaluateZones [z] s)) := by
  refine finishEvent_induct_noted ((judgedAs_evaluateZones rfl rfl rfl).closeEvent before) (fun u w hw judged => ?_)
    (fun u judged => ?_)
  · obtain rfl : w = z := List.mem_singleton.1 (noted hw)
    obtain ⟨meter, limits, thermal, -⟩ := judged
    have again : s.JudgedAs w (State.holdExpired w u) := by
      unfold State.holdExpired
      refine judgedAs_evaluateZones meter ?_ ?_
      · rw [setZone_zones, PerZone.get_set_self]
        exact limits
      · rw [setZone_zones, PerZone.get_set_self]
        simp only [thermal]
        exact judge_judge _ _ _
    exact again.closeEvent u
  · exact (judged.of_stays (stays_staggerExpired u) (changes_staggerExpired u .meter (by decide))).closeEvent u

/-- A zone with its new threshold, before its evaluation. -/
def State.putThreshold (z : Zone) (field v : Nat) (s : State) : State :=
  s.setZone z { s.cool.zones.get z with limits := (s.cool.zones.get z).limits.put field v }

theorem applyThreshold_eq (z : Zone) (field v : Nat) (s : State) :
    State.applyThreshold z field v s = State.evaluateZones [z] (s.putThreshold z field v) := rfl

theorem putThreshold_self (z : Zone) (field v : Nat) (s : State) :
    (s.putThreshold z field v).cool.zones.get z =
      { s.cool.zones.get z with limits := (s.cool.zones.get z).limits.put field v } := PerZone.get_set_self _ _ _

theorem putThreshold_other {z w : Zone} (other : w ≠ z) (field v : Nat) (s : State) :
    (s.putThreshold z field v).cool.zones.get w = s.cool.zones.get w := PerZone.get_set_other _ _ other

theorem changes_applyThreshold (z : Zone) (field v : Nat) (s : State) :
    Changes ownerPieces s (State.applyThreshold z field v s) :=
  (changes_setZone s _ _).mono.trans (changes_evaluateZones _ _)

/-- The event of a new threshold: its zone judged by it with the present reading, the other zones as they were (R116). -/
theorem finishEvent_applyThreshold {s : State} (quiet : s.ev.zeroHolds = []) (before : State) (z : Zone)
    (field v : Nat) :
    let t := finishEvent before (State.applyThreshold z field v s)
    let limits := (s.cool.zones.get z).limits.put field v
    (t.cool.zones.get z).limits = limits ∧
      (t.cool.zones.get z).thermal = limits.judge (s.cool.zones.get z).thermal (s.temperature z) ∧
      (t.cool.zones.get z).computed = some (limits.level (s.temperature z)) ∧
      ∀ w, w ≠ z → (t.cool.zones.get w).limits = (s.cool.zones.get w).limits ∧
        (t.cool.zones.get w).thermal = (s.cool.zones.get w).thermal := by
  rw [applyThreshold_eq]
  have keeps := keeps_evaluateZones (s.putThreshold z field v) [z]
  have noted : (State.evaluateZones [z] (s.putThreshold z field v)).settle.ev.zeroHolds ⊆ [z] :=
    settle_zeroHolds keeps quiet
  obtain ⟨-, limits, thermal, computed⟩ := judgedAs_finishEvent (before := before) noted
  rw [putThreshold_self] at limits thermal computed
  refine ⟨limits, thermal, computed, fun w other => ?_⟩
  have stays := keeps.toStays.trans (stays_finishEvent (before := before) noted)
  have out : w ∉ [z] := by simpa using other
  rw [stays.limits w, stays.thermal w out, putThreshold_other other]
  exact ⟨rfl, rfl⟩

/-- WRITE FIELD of a zone threshold that passes every check. -/
theorem exec_writeField_zone {s : State} {h : Handle} {g : Option Nat} {v : Nat} {z : Zone} {field index : Nat}
    (r : Ready s) (res : (resolve h s).2 = some (6, index)) (hz : zoneOf index = some z)
    (guard : guardPasses s g 6 index = true) (low : 8 ≤ field) (high : field ≤ 12) (bound : v ≤ 4000)
    (order : ((s.cool.zones.get z).limits.put field v).ordered = true)
    (free : 10 ≤ field → s.store.frozen = false ∧ s.conv.state = .off ∧ s.yaw.engine = .parked) :
    exec (.writeField h g field v) s =
      .next
        { finishEvent s.entered (State.applyThreshold z field v (resolve h s).1.entered) with
          port := (resolve h s).1.port.answered .ok [] } := by
  have within : field ≤ highestField 6 := by
    have top : highestField 6 = 18 := rfl
    omega
  have target : writeTarget 6 index field = some (.zone z field) := by
    rw [writeTarget_zone hz, if_pos ⟨low, high⟩]
  have bounds : (WriteTarget.zone z field).inBounds v = true := decide_eq_true ⟨by omega, by omega⟩
  have prot : (WriteTarget.zone z field).cls = .protection → 10 ≤ field := by
    intro p
    by_contra tuning
    rw [WriteTarget.cls, if_pos (by omega)] at p
    cases p
  have b := doWrite_accepted res guard within target bounds order (fun p => free (prot p))
  have port : (State.applyThreshold z field v (resolve h s).1.entered).port = (resolve h s).1.port.enter [] 1 :=
    changes_applyThreshold z field v (resolve h s).1.entered .port (by decide)
  have due : (resolve h s).1.port.restartDue = false := by
    obtain ⟨n, e, -⟩ := resolve_fst h s
    rw [e]
    exact r.1.2.2
  exact runItem_idle (i := .writeField h g field v) r.1 (.inl r.2) b (fun x => absurd rfl x) port due

/-- Settles O25. -/
theorem writeRecordReplacesField : Obligations.WriteRecordReplacesField := by
  unfold Obligations.WriteRecordReplacesField
  intro s h g i v z w field index
  refine ⟨fun r res guard => ⟨fun bound => ?_, fun bound => ?_, fun bound => ?_⟩, ?_⟩
  · exact exec_writeField_condition r res guard (.inl rfl) (decide_eq_true ⟨by omega, by omega⟩)
  · exact exec_writeField_condition r res guard (.inr (.inl rfl)) (decide_eq_true ⟨by omega, by omega⟩)
  · exact exec_writeField_condition r res guard (.inr (.inr rfl)) (decide_eq_true ⟨by omega, by omega⟩)
  · intro r res hz guard low high bound order free
    have resolved : Changes [.port] s (resolve h s).1.entered :=
      (changes_resolve h s).trans (changes_entered _)
    have cool : (resolve h s).1.entered.cool = s.cool := resolved .cool (by decide)
    have reading : (resolve h s).1.entered.temperature z = s.temperature z := by
      rw [State.temperature, State.channelValue, show (resolve h s).1.entered.meter = s.meter from
        resolved .meter (by decide)]
      rfl
    have quiet : (resolve h s).1.entered.ev.zeroHolds = [] := by
      rw [show (resolve h s).1.entered.ev = s.ev from resolved .ev (by decide), r.1.1.2]
      rfl
    obtain ⟨limits, thermal, computed, others⟩ := finishEvent_applyThreshold quiet s.entered z field v
    rw [cool, reading] at thermal computed
    rw [cool] at limits others
    have done := exec_writeField_zone r res hz guard low high bound order free
    have ev := finishEvent_ev s.entered (State.applyThreshold z field v (resolve h s).1.entered)
    have frame : Changes [.ev, .port, .app, .conv, .cool, .align, .routes, .yaw, .cond, .out, .revs] s
        (finishEvent s.entered (State.applyThreshold z field v (resolve h s).1.entered)) :=
      (resolved.mono.trans (changes_applyThreshold z field v _).mono).trans (changes_finishEvent _ _).mono
    generalize finishEvent s.entered (State.applyThreshold z field v (resolve h s).1.entered) = u at *
    refine ⟨_, done, limits, thermal, computed, others w, rfl, ?_⟩
    exact Changes.of_ev (frame.trans (changes_port _ _).mono) (ev.trans r.1.1.2.symm)

end Sys2Proof.Machine
end

section
/-!
WRITE FIELD accepted, of a SETTINGS value (R13, R16): the settings that no block acts on at once, and what the owning
blocks do with the others.
-/
namespace Sys2Proof.Machine

/-! ### The engine claims through the apportioner's operations (R22) -/

/-- The engine slots, 0 to 5, have the state and the grant they had. -/
def Apportioner.EngineSame (a b : Apportioner) : Prop :=
  ∀ i : Fin 16, i.val < 6 → (b.claims[i]).state = (a.claims[i]).state ∧ (b.claims[i]).granted = (a.claims[i]).granted

theorem Apportioner.EngineSame.refl (a : Apportioner) : a.EngineSame a := fun _ _ => ⟨rfl, rfl⟩

theorem Apportioner.EngineSame.trans {a b c : Apportioner} (h : a.EngineSame b) (k : b.EngineSame c) :
    a.EngineSame c := fun i hi => ⟨(k i hi).1.trans (h i hi).1, (k i hi).2.trans (h i hi).2⟩

theorem engineSame_of_claims {a b : Apportioner} (h : b.claims = a.claims) : a.EngineSame b :=
  fun i _ => by rw [h]; exact ⟨rfl, rfl⟩

theorem engineSame_setClaim (a : Apportioner) {i : Fin 16} (link : 6 ≤ i.val) (c : Claim) :
    a.EngineSame (a.setClaim i c) := by
  intro j hj
  rw [setClaim_claims_other a c (fun e => by rw [e] at hj; omega)]
  exact ⟨rfl, rfl⟩

theorem engineSame_joinQueue (a : Apportioner) (i : Fin 16) : a.EngineSame (a.joinQueue i) := by
  refine engineSame_of_claims ?_
  unfold Apportioner.joinQueue
  split <;> rfl

/-- Renumbering the grants touches sequence numbers alone (R28). -/
theorem engineSame_nextGrant (a : Apportioner) : a.EngineSame a.nextGrant := by
  intro i _
  unfold Apportioner.nextGrant
  simp only
  split
  · simp only [Apportioner.renumberGrants, Fin.getElem_fin, Vector.getElem_ofFn]
    split <;> exact ⟨rfl, rfl⟩
  · exact ⟨rfl, rfl⟩

/-- Renumbering the sheds touches sequence numbers alone (R28). -/
theorem engineSame_nextShed (a : Apportioner) : a.EngineSame a.nextShed := by
  intro i _
  unfold Apportioner.nextShed
  simp only
  split
  · simp only [Apportioner.renumberSheds, Fin.getElem_fin, Vector.getElem_ofFn]
    split <;> exact ⟨rfl, rfl⟩
  · exact ⟨rfl, rfl⟩

theorem engineSame_shed (a : Apportioner) {i : Fin 16} (link : 6 ≤ i.val) : a.EngineSame (a.shed i) := by
  have left : a.EngineSame ((a.leaveStanding i).leaveQueue i) := engineSame_of_claims rfl
  exact (left.trans (engineSame_nextShed _)).trans (engineSame_setClaim _ link _)

theorem engineSame_withdraw (a : Apportioner) {i : Fin 16} (link : 6 ≤ i.val) : a.EngineSame (a.withdraw i) := by
  have left : a.EngineSame (a.leaveStanding i) := engineSame_of_claims rfl
  exact (left.trans (engineSame_setClaim _ link _)).trans (engineSame_joinQueue _ _)

theorem engineSame_takeFrom (a : Apportioner) {i : Fin 16} (link : 6 ≤ i.val) : a.EngineSame (a.takeFrom i) := by
  unfold Apportioner.takeFrom
  split
  · exact engineSame_shed a link
  · exact engineSame_withdraw a link
  · exact .refl a
  · exact .refl a
  · exact .refl a

theorem engineSame_takeBack (limit : Nat) {is : List (Fin 16)} (link : ∀ i ∈ is, 6 ≤ i.val) (a : Apportioner) :
    a.EngineSame (a.takeBack limit is) := by
  induction is generalizing a with
  | nil => exact .refl a
  | cons i is ih =>
    unfold Apportioner.takeBack
    split
    · exact .refl a
    · exact (engineSame_takeFrom a (link i List.mem_cons_self)).trans
        (ih (fun j hj => link j (List.mem_cons_of_mem i hj)) _)

theorem engineSame_shedWalk (budget stagger : Nat) {a : Apportioner} (link : ∀ i ∈ a.standing, 6 ≤ i.val) :
    a.EngineSame (a.shedWalk budget stagger) := by
  unfold Apportioner.shedWalk
  split
  · exact .refl a
  · exact engineSame_takeBack budget (fun i hi => link i (List.mem_reverse.1 hi)) a

theorem engineSame_grant (g : GrantArgs) (a : Apportioner) {i : Fin 16} (link : 6 ≤ i.val) :
    a.EngineSame (a.grant g i) := by
  unfold Apportioner.grant
  simp only
  split
  · exact engineSame_setClaim a link _
  · have left : a.EngineSame ((a.leaveStack i).leaveQueue i) := engineSame_of_claims rfl
    exact (left.trans (engineSame_nextGrant _)).trans (engineSame_setClaim _ link _)

/-- A grant opportunity among link claims alone (R35 to R37). -/
theorem engineSame_opportunity (g : GrantArgs) {a : Apportioner}
    (link : ∀ i, i ∈ a.candidates g.service ∨ i ∈ a.standing → 6 ≤ i.val) : a.EngineSame (a.opportunity g) := by
  unfold Apportioner.opportunity
  split
  · exact .refl a
  · next top others e =>
    have candidate : ∀ i ∈ top :: others, 6 ≤ i.val := fun i hi => link i (.inl (e ▸ hi))
    have lower : ∀ i ∈ a.lowerHolders top, 6 ≤ i.val := fun i hi =>
      link i (.inr (List.mem_reverse.1 (List.mem_of_mem_filter hi)))
    split
    · exact engineSame_grant g a (candidate top List.mem_cons_self)
    · split
      · exact (engineSame_takeBack _ lower a).trans (engineSame_grant g _ (candidate top List.mem_cons_self))
      · split
        · exact .refl a
        · next i found =>
          exact engineSame_grant g a (candidate i (List.mem_cons_of_mem _ (List.mem_of_find?_eq_some found)))

/-! ### An operation of the apportioner that leaves the engine claims (R47) -/

theorem apportion_app (s : State) (f : Apportioner → Apportioner) : (s.apportion f).app = f s.app :=
  (changes_takeReport _ _ _) .app (by decide)

/-- No owner hears of an operation that leaves the engine claims (R47). -/
theorem tellOwners_of_engineSame {s t : State} (h : s.app.EngineSame t.app) : State.tellOwners s t = t := by
  have held : ∀ i : Fin 16, i.val < 6 → t.isHeld i = s.isHeld i := fun i hi => by
    rw [State.isHeld, State.isHeld, (h i hi).1]
  have state : ∀ i : Fin 16, i.val < 6 → (t.claim i).state = (s.claim i).state := fun i hi => (h i hi).1
  have moved : (consumerOrder.filter fun z => claimMoved s t (homeSlot z)) = [] := by
    rw [List.filter_eq_nil_iff]
    intro z _
    have slot : (homeSlot z).val < 6 := by cases z <;> decide
    have granted : (t.claim (homeSlot z)).granted = (s.claim (homeSlot z)).granted := (h _ slot).2
    simp [claimMoved, state _ slot, granted]
  have cooling : State.tellCooling s t = t := by
    rw [State.tellCooling, moved, State.noteActuators, List.append_nil]
  have converter : State.tellConverter s t = t := by
    rw [State.tellConverter, held 1 (by decide)]
    simp
  have yaw : State.tellYaw s t = t := by
    rw [State.tellYaw, held 0 (by decide), state 0 (by decide)]
    cases s.isHeld 0 <;> simp
  rw [State.tellOwners, cooling, converter, yaw]

/-- An operation that starts no stagger timer at 0 notes at most an onset. -/
theorem apportionStarting_ev {s : State} {f : Apportioner → Apportioner}
    (starts : (f { s.app with stagger := none }).stagger ≠ some 0) :
    ∃ l, (s.apportionStarting f).ev = { s.ev with onsets := l } := by
  obtain ⟨l, e⟩ : ∃ l, (s.apportion f).ev = { s.ev with onsets := l } :=
    putRec_ev { s with app := f s.app } Cond.claimShed _
  refine ⟨l, ?_⟩
  unfold State.apportionStarting
  simp only [e, beq_eq_false_iff_ne.2 starts, Bool.or_false]

/-- The end of an event whose claim event, if it has one, leaves no actuator to settle and no timer at 0. -/
theorem finishEvent_app {before s u : State} (claims : s.settleClaims = u) (tripped : u.ev.tripped = false)
    (actuators : u.ev.actuators = []) (holds : u.ev.zeroHolds = []) (stagger : u.ev.zeroStagger = false) :
    (finishEvent before s).app = u.app := by
  have settled : s.settle = u := by
    simp [State.settle, claims, State.settleActuators, State.setTripReason, actuators, tripped]
  rw [finishEvent_of_noZeroTimer (by rw [settled]; exact holds) (.inl (by rw [settled]; exact stagger)), closeEvent,
    settled]
  rfl

theorem finishEvent_app_quiet {before s : State} (q : s.ev.Quiet) : (finishEvent before s).app = s.app := by
  obtain ⟨c, tripped, actuators, holds, stagger⟩ := q
  exact finishEvent_app (by rw [State.settleClaims, c]; rfl) tripped actuators holds stagger

/-! ### A changed budget (R29, R32, R34) -/

/-- The event of a changed apportionable budget where link claims alone are concerned and STAGGER is not 0: a drop runs
the shed walk, a rise gives a grant opportunity. -/
theorem finishEvent_rebudget_app {s : State} (q : s.ev.Quiet) (one : 1 ≤ s.setting Setting.stagger)
    (link : ∀ i, i ∈ s.app.candidates s.grantArgs.service ∨ i ∈ s.app.standing → 6 ≤ i.val) (before : State)
    (old : Nat) :
    (finishEvent before (State.rebudget old s)).app =
      if s.apportionable < old then s.app.shedWalk s.apportionable (s.setting Setting.stagger)
      else if old < s.apportionable then
        if s.app.stagger = none then s.app.opportunity s.grantArgs else s.app
      else s.app := by
  have positive : (some (s.setting Setting.stagger) : Option Nat) ≠ some 0 := by
    simp only [ne_eq, Option.some.injEq]; omega
  have quiet := q
  obtain ⟨claims, tripped, actuators, holds, stagger⟩ := q
  unfold State.rebudget
  split
  · have same : s.app.EngineSame
        (s.apportionStarting (Apportioner.shedWalk s.apportionable (s.setting Setting.stagger))).app := by
      rw [apportionStarting_app, apportion_app]
      exact engineSame_shedWalk _ _ fun i hi => link i (.inr hi)
    obtain ⟨l, e⟩ := apportionStarting_ev
      (s := s) (f := Apportioner.shedWalk s.apportionable (s.setting Setting.stagger)) <| by
        rw [shedWalk_stagger]
        split
        · exact nofun
        · exact positive
    rw [tellOwners_of_engineSame same, finishEvent_app_quiet (by rw [e]; exact quiet), apportionStarting_app,
      apportion_app]
  split
  · have event : s.claimEvent.settleClaims = s.claimEvent.grantOpportunity := if_pos rfl
    split
    · next idle =>
      have same : s.claimEvent.app.EngineSame
          (s.claimEvent.apportionStarting (Apportioner.opportunity s.grantArgs)).app := by
        rw [apportionStarting_app, apportion_app]
        exact engineSame_opportunity s.grantArgs link
      have granted : s.claimEvent.grantOpportunity =
          s.claimEvent.apportionStarting (Apportioner.opportunity s.grantArgs) := by
        rw [State.grantOpportunity, if_pos (by rw [claimEvent_app, idle]; rfl)]
        exact tellOwners_of_engineSame same
      obtain ⟨l, e⟩ := apportionStarting_ev (s := s.claimEvent) (f := Apportioner.opportunity s.grantArgs) <| by
        rcases opportunity_stagger s.grantArgs { s.claimEvent.app with stagger := none } with h | h
        · rw [h]; exact nofun
        · rw [h]; exact positive
      rw [finishEvent_app (event.trans granted) (by rw [e]; exact tripped) (by rw [e]; exact actuators)
        (by rw [e]; exact holds) (by rw [e]; exact stagger), apportionStarting_app, apportion_app]
      rfl
    · next running =>
      have waits : s.claimEvent.grantOpportunity = s.claimEvent := by
        rw [State.grantOpportunity, if_neg]
        rw [claimEvent_app, Option.isNone_iff_eq_none]
        exact running
      exact finishEvent_app (u := s.claimEvent) (event.trans waits) tripped actuators holds stagger
  · exact finishEvent_app_quiet quiet

/-! ### What the owning block does with a new value (R16) -/

@[simp] theorem putSetting_setting_self (s : State) (k : Fin 86) (v : Nat) : (s.putSetting k v).setting k = v := by
  simp [State.putSetting, State.setting]

theorem putSetting_setting_other (s : State) {k j : Fin 86} (v : Nat) (h : j ≠ k) :
    (s.putSetting k v).setting j = s.setting j := by
  have n : k.val ≠ j.val := fun e => h (Fin.ext e.symm)
  simp [State.putSetting, State.setting, n]

/-- The settings that a block acts on within the event of their write: the budgets and the reserve, ENVELOPE_POINTS,
TWIST_UNTWIST and TWIST_HARD_LIMIT (R16). -/
theorem applySetting_plain {s : State} {k : Fin 86} {v : Nat} (plain : [0, 1, 2, 3, 4, 8, 49, 50].contains k.val = false) :
    State.applySetting k v s = s.putSetting k v := by
  simp only [List.contains_eq_mem, List.mem_cons, List.not_mem_nil, or_false, decide_eq_false_iff_not, not_or] at plain
  obtain ⟨n0, n1, n2, n3, n4, n8, n49, n50⟩ := plain
  unfold State.applySetting
  rw [if_neg (by omega), if_neg (fun e => n8 (congrArg Fin.val e)), if_neg (fun e => n49 (congrArg Fin.val e)),
    if_neg (fun e => n50 (congrArg Fin.val e))]

theorem applySetting_budget {s : State} {k : Fin 86} {v : Nat} (h : k.val ≤ 4) :
    State.applySetting k v s = State.rebudget s.apportionable (s.putSetting k v) := if_pos h

theorem applySetting_envelopePoints (s : State) (v : Nat) :
    State.applySetting Setting.envelopePoints v s = (s.putSetting Setting.envelopePoints v).trimEnvelope := rfl

theorem applySetting_twistUntwist (s : State) (v : Nat) :
    State.applySetting Setting.twistUntwist v s = (s.putSetting Setting.twistUntwist v).judgeUntwist := rfl

theorem applySetting_twistHardLimit (s : State) (v : Nat) :
    State.applySetting Setting.twistHardLimit v s =
      (s.putSetting Setting.twistHardLimit v).report (s.putSetting Setting.twistHardLimit v).twistReport := rfl

theorem keeps_rebudget (s : State) (n : Nat) : Keeps ownerRecs [] s (State.rebudget n s) := by
  refine Keeps.ite (Keeps.trans (keeps_apportionStarting s _ fun one => ?_).mono (keeps_tellOwners s _))
    (Keeps.ite (keeps_claimEvent s).mono (Keeps.refl _ _ s))
  rw [shedWalk_stagger]
  split
  · exact nofun
  · simp only [ne_eq, Option.some.injEq]; omega

theorem keeps_align {is : List (Fin 32)} {zs : List Zone} (s : State) (a : Alignment) :
    Keeps is zs s { s with align := a } := .of_changes (changes_align s a).mono

theorem keeps_judgeUntwist (s : State) : Keeps (Cond.untwistDue :: claimRecs) [] s s.judgeUntwist := by
  have goes : ∀ a, Keeps (Cond.untwistDue :: claimRecs) [] s
      (State.report [(Cond.untwistDue, .goes)] { s with align := a }) :=
    fun a => (keeps_align s a).trans (keeps_report _ [(Cond.untwistDue, .goes)])
  exact Keeps.ite (goes _) (Keeps.refl _ _ s)

/-- What a block does at once with a new value stays within the shared operations. -/
theorem keeps_applySetting (k : Fin 86) (v : Nat) (s : State) :
    Keeps allRecords [] (s.putSetting k v) (State.applySetting k v s) := by
  refine Keeps.ite (keeps_rebudget _ _).mono (Keeps.ite ?_ (Keeps.ite (keeps_judgeUntwist _).mono
    (Keeps.ite ((keeps_report _ _).mono fun i _ => List.mem_finRange i) (Keeps.refl _ _ _))))
  exact .of_changes (changes_supply _ _).mono

theorem changes_applySetting (k : Fin 86) (v : Nat) (s : State) :
    Changes (.store :: plantPieces) s (State.applySetting k v s) := by
  refine Changes.trans (changes_putSetting s k v).mono ?_
  exact Changes.ite (changes_rebudget _ _).mono (Changes.ite (changes_supply _ _).mono
    (Changes.ite (changes_judgeUntwist _).mono (Changes.ite (changes_report _ _).mono (Changes.refl _ _))))

/-- A level-kind record's cause is present exactly as the report has it (R157). -/
theorem take_level_present (b : Bool) (o : OnsetArgs) (r : CondRec) :
    ((r.take .level (causeIs b) o).1).present = b := by
  cases b with
  | true =>
    simp only [causeIs, if_true, CondRec.take, CondRec.arrive]
    split
    · assumption
    · split
      · split <;> rfl
      · split <;> rfl
      · rfl
      · rfl
      · rfl
  | false =>
    simp only [causeIs, Bool.false_eq_true, if_false, CondRec.take, CondRec.depart]
    split
    · split <;> rfl
    · next absent => exact Bool.eq_false_iff.2 absent

theorem takeReport_self (s : State) (i : Fin 32) (rep : Report) :
    (s.takeReport i rep).cond.recs[i] = ((s.cond.recs[i]).take catalogue[i].kind rep s.onsetArgs).1 := by
  rw [State.takeReport, putRec_cond, setRec_recs_self]

/-! ### The event of a write (R13) -/

/-- WRITE FIELD of a SETTINGS value that passes every check. -/
theorem exec_writeField_setting {s : State} {h : Handle} {g : Option Nat} {k : Fin 86} {v : Nat} (r : Ready s)
    (res : (resolve h s).2 = some (1, k.val)) (guard : guardPasses s g 1 k.val = true) (low : settingSpecs[k].lo ≤ v)
    (high : v ≤ settingSpecs[k].hi) (cross : s.crossCheck k.val v = true)
    (free : settingSpecs[k].cls = .protection →
      s.store.frozen = false ∧ s.conv.state = .off ∧ s.yaw.engine = .parked) :
    exec (.writeField h g 1 v) s =
      .next
        { finishEvent s.entered (State.applySetting k v (resolve h s).1.entered) with
          port := (resolve h s).1.port.answered .ok [] } := by
  have target : writeTarget 1 k.val 1 = some (.setting k) := writeTarget_setting k 1
  have bounds : (WriteTarget.setting k).inBounds v = true := decide_eq_true ⟨by omega, by omega⟩
  have b := doWrite_accepted res guard (by decide) target bounds cross free
  have port : (State.applySetting k v (resolve h s).1.entered).port = (resolve h s).1.port.enter [] 1 :=
    changes_applySetting k v (resolve h s).1.entered .port (by decide)
  have due : (resolve h s).1.port.restartDue = false := by
    obtain ⟨n, e, -⟩ := resolve_fst h s
    rw [e]
    exact r.1.2.2
  exact runItem_idle (i := .writeField h g 1 v) r.1 (.inl r.2) b (fun x => absurd rfl x) port due

theorem finishEvent_applySetting_store (before s : State) (k : Fin 86) (v : Nat) :
    (finishEvent before (State.applySetting k v s)).store =
      { s.store with settings := s.store.settings.set k v } :=
  (changes_finishEvent before (State.applySetting k v s) .store (by decide)).trans (keeps_applySetting k v s).store

/-- A budget or the reserve (R29, R32, R34), where link claims alone are concerned and STAGGER is not 0. -/
theorem finishEvent_applySetting_budget {s : State} (q : s.ev.Quiet) {k : Fin 86} (budget : k.val ≤ 4)
    (one : 1 ≤ s.setting Setting.stagger)
    (link : ∀ i, i ∈ s.app.candidates s.grantArgs.service ∨ i ∈ s.app.standing → 6 ≤ i.val) (before : State)
    (v : Nat) :
    let t := finishEvent before (State.applySetting k v s)
    t.app =
      if t.apportionable < s.apportionable then s.app.shedWalk t.apportionable (s.setting Setting.stagger)
      else if s.apportionable < t.apportionable then
        if s.app.stagger = none then s.app.opportunity { s.grantArgs with budget := t.apportionable } else s.app
      else s.app := by
  intro t
  have kept : ∀ j : Fin 86, 5 ≤ j.val → (s.putSetting k v).setting j = s.setting j := fun j hj =>
    putSetting_setting_other s v fun e => by rw [e] at hj; omega
  have same : t.apportionable = (s.putSetting k v).apportionable := by
    have store : t.store = (s.putSetting k v).store := finishEvent_applySetting_store before s k v
    have supply : t.supply = s.supply := by
      have change : (State.applySetting k v s).supply = s.supply := by
        rw [applySetting_budget budget]
        exact changes_rebudget (s.putSetting k v) s.apportionable .supply (by decide)
      exact (changes_finishEvent before (State.applySetting k v s) .supply (by decide)).trans change
    simp only [State.apportionable, State.budget, State.setting, store, supply, putSetting_supply]
  have args : (s.putSetting k v).grantArgs = { s.grantArgs with budget := t.apportionable } := by
    have force : (s.putSetting k v).shedServiceInForce = s.shedServiceInForce := rfl
    simp only [State.grantArgs, force, kept Setting.stagger (by decide), kept Setting.collectionWindow (by decide),
      kept Setting.serviceShedPrio (by decide), ← same]
  have stagger := kept Setting.stagger (by decide)
  have event := finishEvent_rebudget_app (s := s.putSetting k v) q (by rw [stagger]; exact one)
    (by rw [args]; exact link) before s.apportionable
  rw [stagger, args, ← same, ← applySetting_budget budget] at event
  exact event

/-- ENVELOPE_POINTS: the below-times of the points that leave use return to 0 (R66). -/
theorem trimEnvelope_below (s : State) (v : Nat) (j : Fin 6) :
    ((s.putSetting Setting.envelopePoints v).trimEnvelope).supply.below[j] =
      if j.val < v then s.supply.below[j] else 0 := by
  simp [State.trimEnvelope, State.pointInUse]

/-- The report that UNTWIST_DUE is gone carries no consequence: judged before, nothing but its record changes (R124). -/
theorem report_untwistDue_of_judged {s : State} (q : s.ev.Quiet) (j : Judged s) :
    (s.report [(Cond.untwistDue, .goes)]).ev.Quiet ∧ (s.report [(Cond.untwistDue, .goes)]).align = s.align := by
  rw [report_of_judged j (by decide)]
  exact ⟨quiet_takeReport q _ _, changes_takeReport s _ _ .align (by decide)⟩

/-- TWIST_UNTWIST: the untwist due goes where the twist is below it, which tells the blocks nothing (R124). -/
theorem judgeUntwist_of_judged {s : State} (q : s.ev.Quiet) (j : Judged s) (v : Nat) :
    ((s.putSetting Setting.twistUntwist v).judgeUntwist).ev.Quiet ∧
      ((s.putSetting Setting.twistUntwist v).judgeUntwist).align =
        { s.align with untwistDue := s.align.untwistDue && decide (v ≤ s.yaw.twist.natAbs) } := by
  unfold State.judgeUntwist
  rw [putSetting_setting_self, putSetting_align, putSetting_yaw]
  by_cases due : s.align.untwistDue = true
  · by_cases below : s.yaw.twist.natAbs < v
    · rw [if_pos (by simp [due, below])]
      obtain ⟨quiet, align⟩ := report_untwistDue_of_judged
        (s := { s.putSetting Setting.twistUntwist v with align := { s.align with untwistDue := false } }) q j
      refine ⟨quiet, align.trans ?_⟩
      simp [due, Nat.not_le.2 below]
    · rw [if_neg (by simp [below])]
      refine ⟨q, ?_⟩
      have reached : decide (v ≤ s.yaw.twist.natAbs) = true := decide_eq_true (Nat.not_lt.1 below)
      rw [reached, Bool.and_true, putSetting_align]
  · rw [Bool.not_eq_true] at due
    rw [if_neg (by simp [due])]
    refine ⟨q, ?_⟩
    rw [putSetting_align, due, Bool.false_and, ← due]

/-- TWIST_HARD_LIMIT: TWIST_LIMIT is present exactly while the known twist is at or above it (R139); the end of the event
makes no report at that record. -/
theorem finishEvent_twistLimit {s : State} (q : s.ev.Quiet) (before : State) (v : Nat) :
    ((finishEvent before (State.applySetting Setting.twistHardLimit v s)).cond.recs[Cond.twistLimit]).present =
      (s.yaw.known && decide (v ≤ s.yaw.twist.natAbs)) := by
  rw [applySetting_twistHardLimit]
  have report := keeps_report (s.putSetting Setting.twistHardLimit v)
    (s.putSetting Setting.twistHardLimit v).twistReport
  have noted := settle_zeroHolds report q.2.2.2.1
  have judged := (keeps_judge ((s.putSetting Setting.twistHardLimit v).takeReports
    (s.putSetting Setting.twistHardLimit v).twistReport)).recs Cond.twistLimit (by decide)
  rw [(stays_finishEvent (before := before) noted).recs Cond.twistLimit (by decide)]
  refine (congrArg CondRec.present judged).trans ?_
  have taken := takeReport_self (s.putSetting Setting.twistHardLimit v) Cond.twistLimit
    (causeIs (s.yaw.known && decide (v ≤ s.yaw.twist.natAbs)))
  have reports : (s.putSetting Setting.twistHardLimit v).twistReport =
      [(Cond.twistLimit, causeIs (s.yaw.known && decide (v ≤ s.yaw.twist.natAbs)))] := by
    simp only [State.twistReport, putSetting_setting_self, putSetting_yaw]
  rw [reports]
  exact (congrArg CondRec.present taken).trans (take_level_present _ _ _)

/-- Settles O23: the event of the write, setting by setting. -/
theorem writeSetting : Obligations.WriteSetting := by
  unfold Obligations.WriteSetting
  intro s h g k v r res guard low high cross free
  have done := exec_writeField_setting r res guard low high cross free
  obtain ⟨n, e, -⟩ := resolve_fst h s
  rw [e] at done ⊢
  let resolved : State := { s with port := { s.port with table := n } }
  have q : resolved.entered.ev.Quiet := quiet_of_between r.1.1
  have ev := finishEvent_ev s.entered (State.applySetting k v resolved.entered)
  have store := finishEvent_applySetting_store s.entered resolved.entered k v
  have start : Changes [.port] s resolved.entered := (changes_port s _).trans (changes_entered _)
  have frame : Changes (.port :: .out :: .revs :: .store :: plantPieces) s
      (finishEvent s.entered (State.applySetting k v resolved.entered)) :=
    (start.mono.trans (changes_applySetting k v _).mono).trans (changes_finishEvent _ _).mono
  refine ⟨_, done, store, rfl, ?_, fun plain => ?_, fun budget one link => ?_, ?_, ?_, ?_⟩
  · have all := frame.trans (changes_port _ (({ s.port with table := n } : Port).answered .ok [])).mono
    refine Changes.of_ev all.mono (ev.trans r.1.1.2.symm)
  · have quiet : (resolved.putSetting k v).ev.Quiet := q
    have same : State.applySetting k v resolved.entered = (resolved.putSetting k v).entered := applySetting_plain plain
    rw [show ({ s with port := { s.port with table := n } } : State) = resolved from rfl, same]
    exact changes_answered_quiet quiet
  · have event := finishEvent_applySetting_budget q budget one link s.entered v
    simp only at event
    generalize finishEvent s.entered (State.applySetting k v resolved.entered) = u at event ⊢
    refine ⟨fun level => ?_, fun drop => ?_, fun rise => ?_⟩
    · exact event.trans ((if_neg (Nat.not_lt.2 level.ge)).trans (if_neg (Nat.not_lt.2 level.le)))
    · exact event.trans (if_pos drop)
    · exact event.trans ((if_neg (Nat.not_lt.2 rise.le)).trans (if_pos rise))
  · rintro rfl
    let trimmed : State := (resolved.putSetting Setting.envelopePoints v).trimEnvelope
    have moved : Changes [.revs] (trimmed.answered .ok []) _ :=
      changes_answered_quiet (before := s.entered) (u := trimmed) q
    refine ⟨fun j => ?_, ?_⟩
    · have supply := moved .supply (by decide)
      exact (congrArg (fun w : Supply => w.below[j]) supply).trans (trimEnvelope_below resolved v j)
    · refine Changes.trans ?_ moved.mono
      refine Changes.of_ev ?_ r.1.1.2.symm
      intro p hp
      cases p <;> first | rfl | exact absurd (by decide) hp
  · rintro rfl j
    obtain ⟨quiet, align⟩ := judgeUntwist_of_judged (s := resolved.entered) q j v
    exact (changes_finishEvent_quiet (before := s.entered) quiet .align (by decide)).trans align
  · rintro rfl
    have present := finishEvent_twistLimit q s.entered v
    generalize finishEvent s.entered (State.applySetting Setting.twistHardLimit v resolved.entered) = u at present ⊢
    rw [Bool.eq_iff_iff, Bool.and_eq_true, decide_eq_true_eq] at present
    exact present

end Sys2Proof.Machine
end

section
/-!
Resets (R19, R20): what the beginning and the end of a reset leave in every block, record by record of the Condition Unit.
-/
namespace Sys2Proof.Machine

/-! ### The records through a reset (R168, R169) -/

theorem through_cold (c : CondSpec) (now : Nat) (r : CondRec) : r.through .cold c now = CondRec.fresh c := rfl

theorem freshRecords_getElem (i : Fin 32) : freshRecords[i] = CondRec.fresh catalogue[i] := by
  revert i
  decide +kernel

/-- Stamping touches the last change of the records named alone (R169). -/
theorem restamp_eq (is : List (Fin 32)) (s : State) :
    ∃ recs : Vector CondRec 32, s.restamp is = { s with cond := { s.cond with recs := recs } } ∧
      ∀ i, recs[i] =
        if i ∈ is then { s.cond.recs[i] with last := some s.store.partTime } else s.cond.recs[i] := by
  unfold State.restamp
  induction is generalizing s with
  | nil => exact ⟨s.cond.recs, rfl, fun i => by simp⟩
  | cons j is ih =>
    obtain ⟨recs, e, h⟩ := ih (s.setRec j { s.cond.recs[j] with last := some s.store.partTime })
    refine ⟨recs, e, fun i => ?_⟩
    rw [h i, setRec_store]
    by_cases eq : i = j
    · subst eq
      rw [setRec_recs_self]
      by_cases m : i ∈ is <;> simp [m]
    · rw [setRec_recs_other s _ eq]
      simp [eq]

/-- A record through a warm reset, and the stamp of its end where its state changed (R169). -/
theorem warm_stamped (c : CondSpec) (now : Nat) (r : CondRec) :
    (if r.state ≠ .clear ∧ r.kept c = false then { r.warm c with last := some now } else r.warm c) =
      r.through .warm c now := by
  have kept_iff : r.kept c = true ↔ r.state = .latched ∧ (c.latching = true ∨ r.persistent = true) := by
    simp [CondRec.kept]
  unfold CondRec.through CondRec.warm
  by_cases keep : r.kept c = true
  · simp [keep, kept_iff.mp keep]
  · simp only [if_neg keep, if_neg (mt kept_iff.mpr keep), Bool.not_eq_true] at keep ⊢
    by_cases clear : r.state = .clear <;> simp [clear, keep]

/-- A record after the beginning of a reset and the stamp of its end. -/
theorem resetRecord_eq (kind : ResetKind) (recs : Vector CondRec 32) (now : Nat) (i : Fin 32) :
    (if i ∈ restampOf kind recs then { (resetConditions kind recs)[i] with last := some now }
      else (resetConditions kind recs)[i]) = (recs[i]).through kind catalogue[i] now := by
  cases kind with
  | cold => simpa [restampOf, resetConditions, through_cold] using freshRecords_getElem i
  | warm =>
    have own : (resetConditions .warm recs)[i] = (recs[i]).warm catalogue[i] := by
      simp [resetConditions]
    have stamped : i ∈ restampOf .warm recs ↔ (recs[i]).state ≠ .clear ∧ (recs[i]).kept catalogue[i] = false := by
      simp [restampOf, allRecords]
    rw [own, ← warm_stamped]
    simp only [stamped]

/-- A record through a reset is CLEAR or LATCHED, with its cause absent and no timer. -/
theorem through_settled (kind : ResetKind) (c : CondSpec) (now : Nat) (r : CondRec) :
    (r.through kind c now).present = false ∧
      ((r.through kind c now).state = .clear ∨ (r.through kind c now).state = .latched) := by
  cases kind with
  | cold => exact ⟨rfl, .inl rfl⟩
  | warm =>
    unfold CondRec.through
    simp only
    split
    · next latched => exact ⟨rfl, .inr latched.1⟩
    · exact ⟨rfl, .inl rfl⟩

/-- The report of a present cause at a record that a reset left (R158). -/
theorem arrive_settled {o : OnsetArgs} {r : CondRec} (absent : r.present = false)
    (state : r.state = .clear ∨ r.state = .latched) : (r.arrive o).1 = r.meetsCause o := by
  unfold CondRec.arrive CondRec.meetsCause
  rw [if_neg (by simp [absent])]
  rcases state with clear | latched
  · simp only [clear]
    by_cases now : r.delay = 0
    · simp [now, CondRec.activate, CondRec.enter, CondRec.onset, CondRec.newBurst]
    · simp [now, CondRec.enter]
  · simp only [latched]
    by_cases now : r.delay = 0
    · simp [now, CondRec.activate, CondRec.enter, CondRec.onset, CondRec.newBurst]
    · simp [now]

theorem depart_absent {now : Nat} {r : CondRec} (absent : r.present = false) : r.depart now = r := by
  simp [CondRec.depart, absent]

/-! ### The revisions of a comparison (R5) -/

theorem bumpTable_getElem? (i : Nat) (b a : List (List Int)) (r : List Nat) {x y : List Int} (hb : b[i]? = some x)
    (ha : a[i]? = some y) : (bumpTable b a r)[i]? = r[i]?.map (bumpRevision x y) := by
  induction b generalizing a r i with
  | nil => cases hb
  | cons b bs ih =>
    cases a with
    | nil => cases ha
    | cons a as =>
      cases r with
      | nil => rfl
      | cons r rs =>
        cases i with
        | zero =>
          obtain rfl : b = x := Option.some.inj hb
          obtain rfl : a = y := Option.some.inj ha
          rfl
        | succ i => exact ih i as rs hb ha

theorem bumpAll_getElem? (i : Nat) (b a : Snapshot) (r : RevTable) {x y : List (List Int)} (hb : b[i]? = some x)
    (ha : a[i]? = some y) : (bumpAll b a r)[i]? = r[i]?.map (bumpTable x y) := by
  induction b generalizing a r i with
  | nil => cases hb
  | cons b bs ih =>
    cases a with
    | nil => cases ha
    | cons a as =>
      cases r with
      | nil => rfl
      | cons r rs =>
        cases i with
        | zero =>
          obtain rfl : b = x := Option.some.inj hb
          obtain rfl : a = y := Option.some.inj ha
          rfl
        | succ i => exact ih i as rs hb ha

theorem bumpAll_lengths (b a : Snapshot) (r : RevTable) : (bumpAll b a r).map List.length = r.map List.length := by
  induction b generalizing a r with
  | nil => rfl
  | cons b bs ih =>
    cases a with
    | nil => rfl
    | cons a as =>
      cases r with
      | nil => rfl
      | cons r rs => simp [bumpAll, bumpTable_length, ih]

theorem snapshot_getElem? {table : Nat} (s : State) (h : table < 11) :
    s.snapshot[table]? = some ((List.range (tableCount table)).map (s.heldOf table)) := by
  simp [State.snapshot, List.getElem?_range h]

/-- A record's revision after a comparison of two states. -/
theorem bumpAll_revision {revs : RevTable} (shape : revs.map List.length = (List.range 11).map tableCount) (s t : State)
    {table index : Nat} (ht : table < 11) (hi : index < tableCount table) :
    ((bumpAll s.snapshot t.snapshot revs).getD table []).getD index 0 =
      bumpRevision (s.heldOf table index) (t.heldOf table index) ((revs.getD table []).getD index 0) := by
  have width : (revs.getD table []).length = tableCount table := by
    have h : (revs.map List.length)[table]? = ((List.range 11).map tableCount)[table]? := by rw [shape]
    rw [List.getElem?_map, List.getElem?_map, List.getElem?_range ht] at h
    rw [List.getD_eq_getElem?_getD]
    cases e : revs[table]? with
    | none => rw [e] at h; cases h
    | some row => rw [e] at h; exact Option.some.inj h
  have row : (bumpAll s.snapshot t.snapshot revs).getD table [] =
      bumpTable ((List.range (tableCount table)).map (s.heldOf table))
        ((List.range (tableCount table)).map (t.heldOf table)) (revs.getD table []) := by
    rw [List.getD_eq_getElem?_getD, List.getD_eq_getElem?_getD,
      bumpAll_getElem? table _ _ _ (snapshot_getElem? s ht) (snapshot_getElem? t ht)]
    cases e : revs[table]? with
    | none => rw [List.getD_eq_getElem?_getD, e] at width; simp at width; omega
    | some row => rfl
  have there : index < (revs.getD table []).length := by rw [width]; exact hi
  generalize revs.getD table [] = r at row there ⊢
  rw [row, List.getD_eq_getElem?_getD,
    bumpTable_getElem? index _ _ _ (x := s.heldOf table index) (y := t.heldOf table index)
      (by simp [List.getElem?_range hi]) (by simp [List.getElem?_range hi]),
    List.getD_eq_getElem?_getD, List.getElem?_eq_getElem there]
  rfl

theorem zeroRevs_shape : zeroRevs.map List.length = (List.range 11).map tableCount := by decide

theorem revision_zeroRevs (table index : Nat) : (zeroRevs.getD table []).getD index 0 = 0 := by
  have zeros : ∀ row ∈ zeroRevs, ∀ r ∈ row, r = 0 := by decide +kernel
  rw [List.getD_eq_getElem?_getD, List.getD_eq_getElem?_getD]
  cases hrow : zeroRevs[table]? with
  | none => rfl
  | some row =>
    cases hr : row[index]? with
    | none => simp [hr]
    | some r => simpa [hr] using zeros row (List.mem_of_getElem? hrow) r (List.mem_of_getElem? hr)

theorem tableCount_pos {table index : Nat} (hi : index < tableCount table) : table < 11 := by
  by_contra h
  rw [tableCount, List.getD_eq_default _ _ (by simpa using h)] at hi
  exact absurd hi (Nat.not_lt_zero _)

/-- Past the last record of a table there is no revision. -/
theorem revision_of_ge {revs : RevTable} (shape : revs.map List.length = (List.range 11).map tableCount)
    {table index : Nat} (hi : tableCount table ≤ index) : (revs.getD table []).getD index 0 = 0 := by
  have h : (revs.map List.length)[table]? = ((List.range 11).map tableCount)[table]? := by rw [shape]
  rw [List.getElem?_map, List.getElem?_map] at h
  rw [List.getD_eq_getElem?_getD, List.getD_eq_getElem?_getD]
  cases e : revs[table]? with
  | none => rfl
  | some row =>
    by_cases ht : table < 11
    · rw [e, List.getElem?_range ht] at h
      have width : row.length = tableCount table := Option.some.inj h
      simp [List.getElem?_eq_none (show row.length ≤ index by omega)]
    · rw [e, List.getElem?_eq_none (by simpa using ht)] at h
      cases h

/-! ### The reports of the end of a reset -/

/-- A group of reports on different records: each record takes its own report. -/
theorem takeReports_eq (g : Group) (s : State) (nodup : (g.map Prod.fst).Nodup) :
    ∃ recs onsets,
      s.takeReports g = { s with cond := { s.cond with recs := recs }, ev := { s.ev with onsets := onsets } } ∧
        (∀ p ∈ g, recs[p.1] = ((s.cond.recs[p.1]).take catalogue[p.1].kind p.2 s.onsetArgs).1) ∧
        ∀ i, i ∉ g.map Prod.fst → recs[i] = s.cond.recs[i] := by
  induction g generalizing s with
  | nil => exact ⟨s.cond.recs, s.ev.onsets, rfl, fun _ h => absurd h List.not_mem_nil, fun _ _ => rfl⟩
  | cons q g ih =>
    obtain ⟨fresh, nodup⟩ := List.nodup_cons.mp nodup
    obtain ⟨l, ev⟩ := putRec_ev s q.1 ((s.cond.recs[q.1]).take catalogue[q.1].kind q.2 s.onsetArgs)
    have first : s.takeReport q.1 q.2 =
        { s.setRec q.1 ((s.cond.recs[q.1]).take catalogue[q.1].kind q.2 s.onsetArgs).1 with
          ev := { s.ev with onsets := l } } := by
      unfold State.takeReport
      unfold State.putRec at ev ⊢
      split
      · next c => rw [if_pos c] at ev; rw [← ev]
      · next c => rw [if_neg c] at ev; rw [← ev]
    obtain ⟨recs, onsets, e, own, other⟩ := ih (s.takeReport q.1 q.2) nodup
    refine ⟨recs, onsets, ?_, ?_, ?_⟩
    · rw [show s.takeReports (q :: g) = (s.takeReport q.1 q.2).takeReports g from rfl, e, first]
      rfl
    · intro p mem
      rcases List.mem_cons.mp mem with rfl | mem
      · rw [other p.1 fresh, first]
        exact setRec_recs_self s p.1 _
      · have ne : p.1 ≠ q.1 := fun h => fresh (h ▸ List.mem_map_of_mem mem)
        rw [own p mem, first]
        exact congrArg (fun r => (CondRec.take _ _ _ r).1) (setRec_recs_other s _ ne)
    · intro i absent
      obtain ⟨ne, rest⟩ := not_or.mp (fun h => absent (List.mem_cons.mpr h))
      rw [other i rest, first]
      exact setRec_recs_other s _ ne

end Sys2Proof.Machine
end

section
/-!
The end of a reset (R19, R20, R168, R169): every block is left as `ResetLeaves` lists, and the revisions move with the
records that the reports of the end of the reset meet.
-/
namespace Sys2Proof.Machine

/-! ### Telling the consequences to blocks at rest -/

/-- The blocks that act on a consequence hold their reset values, and CLAIM_SHED is absent. -/
structure State.AtRest (s : State) : Prop where
  app : s.app = Apportioner.initial
  conv : s.conv.state = .discharging
  running : s.runningRoute = none
  absent : (s.cond.recs[Cond.claimShed]).present = false

theorem setRec_same (s : State) (i : Fin 32) : s.setRec i s.cond.recs[i] = s := by
  have same : s.cond.recs.set i s.cond.recs[i] = s.cond.recs := by simp
  unfold State.setRec
  rw [same]

/-- CLAIM_SHED is a cause of a level condition: where it is absent, the report that it is absent has no effect. -/
theorem takeReport_claimShed_absent {s : State} (absent : (s.cond.recs[Cond.claimShed]).present = false) :
    s.takeReport Cond.claimShed .goes = s := by
  have stays : (s.cond.recs[Cond.claimShed]).take catalogue[Cond.claimShed].kind .goes s.onsetArgs =
      (s.cond.recs[Cond.claimShed], false) := congrArg (·, false) (depart_absent absent)
  rw [State.takeReport, stays]
  exact setRec_same s Cond.claimShed

theorem shedService_atRest {s : State} (r : s.AtRest) : ∃ e, s.shedService = { s with ev := e } := by
  have none : ∀ prio n, Apportioner.initial.serviceShed prio n = Apportioner.initial := fun _ _ => rfl
  have same : ∀ prio n, s.apportion (Apportioner.serviceShed prio n) = s := fun prio n => by
    have kept : { s with app := s.app.serviceShed prio n } = s := by rw [r.app, none, ← r.app]
    have report : causeIs (!s.app.shedStack.isEmpty) = .goes := by rw [r.app]; rfl
    unfold State.apportion
    rw [kept]
    simp only [report]
    exact takeReport_claimShed_absent r.absent
  unfold State.shedService State.apportionStarting
  rw [same]
  exact ⟨_, rfl⟩

theorem tell_atRest {s : State} (r : s.AtRest) (now : Consequences) :
    ∃ e, s.tell Consequences.none now = { s with ev := e } := by
  have trip : s.tripConverter = s := by simp [State.tripConverter, r.conv, ConverterState.energised]
  have hold : s.holdConverter = s := by simp [State.holdConverter, r.conv, ConverterState.delivering]
  have stop : s.stopRunning .inhibited = s := by simp [State.stopRunning, r.running]
  have unchanged : s.tell Consequences.none now = if now.shedService then s.shedService else s := by
    simp [State.tell, Consequences.none, trip, hold, stop]
  rw [unchanged]
  split
  · exact shedService_atRest r
  · exact ⟨s.ev, rfl⟩

theorem judge_atRest {s : State} (r : s.AtRest) (told : s.cond.told = Consequences.none) :
    ∃ e, s.judge = { s with cond := { s.cond with told := s.cond.inForce }, ev := e } := by
  have rest : { s with cond := { s.cond with told := s.cond.inForce } }.AtRest := ⟨r.app, r.conv, r.running, r.absent⟩
  rw [State.judge, told]
  exact tell_atRest rest _

/-! ### The state that the reports of the end of a reset meet -/

/-- The part as the reset lets go of it, before the reports. -/
def State.awake (h : ResetHold) (s : State) : State := { s.startAfterReset.restamp h.restamp with hold := none }

theorem endReset_of_hold {s : State} {h : ResetHold} (held : s.hold = some h) :
    s.endReset =
      { ((s.awake h).report (s.awake h).resetReports).drive with
        revs := h.revisions (s.awake h).snapshot ((s.awake h).report (s.awake h).resetReports).drive.snapshot
          ((s.awake h).report (s.awake h).resetReports).drive.revs } := by
  unfold State.endReset
  rw [held]
  rfl

/-- A report of the end of a reset, on a record that the reset has left CLEAR or LATCHED. -/
theorem take_settled {c : CondSpec} {o : OnsetArgs} {r : CondRec} (level : c.kind = .level) (absent : r.present = false)
    (state : r.state = .clear ∨ r.state = .latched) (present : Bool) :
    (r.take c.kind (causeIs present) o).1 = if present then r.meetsCause o else r := by
  rw [level]
  cases present with
  | true => exact arrive_settled absent state
  | false => exact depart_absent absent

/-- The records that the end of a reset reports on. -/
def resetRecs : List (Fin 32) :=
  [Cond.meterStale, Cond.gateFault, 11, 12, 13, 14, 15, Cond.twistUnknown, Cond.twistLimit]

/-- Each report of the end of a reset says whether `causeAfterReset` holds. -/
theorem resetReports_eq (s : State) :
    s.resetReports = resetRecs.map fun i => (i, causeIs (s.causeAfterReset i)) := by
  have gateFault : s.causeAfterReset Cond.gateFault = s.level .gateFault := by
    simp [State.causeAfterReset, Cond.meterStale, Cond.gateFault, Cond.twistUnknown, Cond.twistLimit]
  have unknown : s.causeAfterReset Cond.twistUnknown = !s.yaw.known := by
    simp [State.causeAfterReset, Cond.meterStale, Cond.gateFault, Cond.twistUnknown, Cond.twistLimit]
  have limit : s.causeAfterReset Cond.twistLimit =
      (s.yaw.known && decide (s.setting Setting.twistHardLimit ≤ s.yaw.twist.natAbs)) := by
    simp [State.causeAfterReset, Cond.meterStale, Cond.gateFault, Cond.twistUnknown, Cond.twistLimit]
  simp only [resetRecs, List.map_cons, List.map_nil, gateFault, unknown, limit]
  rfl

theorem causeAfterReset_of_not_mem {s : State} {i : Fin 32} (h : i ∉ resetRecs) : s.causeAfterReset i = false := by
  have others : ∀ i : Fin 32, i ∉ resetRecs → i ≠ Cond.meterStale ∧ i ≠ Cond.gateFault ∧ ¬(11 ≤ i.val ∧ i.val ≤ 15) ∧
      i ≠ Cond.twistUnknown ∧ i ≠ Cond.twistLimit := by decide
  obtain ⟨stale, fault, hot, unknown, limit⟩ := others i h
  simp [State.causeAfterReset, stale, fault, hot, unknown, limit]

theorem resetRecs_level : ∀ i ∈ resetRecs, catalogue[i].kind = .level := by decide

/-- The records after the reports of the end of a reset. -/
theorem report_resetReports {s : State} (r : s.AtRest) (told : s.cond.told = Consequences.none)
    (absent : ∀ i : Fin 32, (s.cond.recs[i]).present = false)
    (state : ∀ i : Fin 32, (s.cond.recs[i]).state = .clear ∨ (s.cond.recs[i]).state = .latched) :
    ∃ recs e,
      s.report s.resetReports =
          { s with cond := ⟨recs, (⟨recs, Consequences.none⟩ : Conditions).inForce⟩, ev := e } ∧
        ∀ i, recs[i] = if s.causeAfterReset i then (s.cond.recs[i]).meetsCause s.onsetArgs else s.cond.recs[i] := by
  have records : s.resetReports.map Prod.fst = resetRecs := by rw [resetReports_eq]; simp [Function.comp_def]
  obtain ⟨recs, onsets, e, own, other⟩ := takeReports_eq s.resetReports s (by rw [records]; decide)
  have after : ∀ i, recs[i] = if s.causeAfterReset i then (s.cond.recs[i]).meetsCause s.onsetArgs else s.cond.recs[i] := by
    intro i
    by_cases mem : i ∈ resetRecs
    · have taken : (i, causeIs (s.causeAfterReset i)) ∈ s.resetReports := by
        rw [resetReports_eq]
        exact List.mem_map_of_mem mem
      rw [own _ taken]
      exact take_settled (resetRecs_level i mem) (absent i) (state i) _
    · rw [other i (records ▸ mem), causeAfterReset_of_not_mem mem]
      rfl
  have rest : (s.takeReports s.resetReports).AtRest := by
    have shed : recs[Cond.claimShed] = s.cond.recs[Cond.claimShed] :=
      other Cond.claimShed (by rw [records]; decide)
    rw [e]
    exact ⟨r.app, r.conv, r.running, (congrArg CondRec.present shed).trans r.absent⟩
  obtain ⟨ev, judged⟩ := judge_atRest rest (by rw [e]; exact told)
  refine ⟨recs, ev, ?_, after⟩
  rw [State.report, judged, e]
  rfl

/-! ### A reset, begun and held (R19) -/

/-- A reset of a state, begun, with RESETn at a level since. -/
def State.inReset (kind : ResetKind) (cause : ResetCause) (resetn : Bool) (s : State) : State :=
  { s.beginReset kind cause with inputs := { (s.beginReset kind cause).inputs with resetn := resetn } }

/-- What a reset keeps in mind until its end. -/
def State.resetHold (kind : ResetKind) (cause : ResetCause) (s : State) : ResetHold :=
  ⟨kind, cause, s.snapshot, restampOf kind s.cond.recs⟩

/-- The part at the end of a reset, before the reports. -/
def State.woken (kind : ResetKind) (cause : ResetCause) (resetn : Bool) (s : State) : State :=
  (s.inReset kind cause resetn).awake (s.resetHold kind cause)

theorem woken_eq (kind : ResetKind) (cause : ResetCause) (resetn : Bool) (s : State) :
    ∃ recs,
      s.woken kind cause resetn =
          { (s.inReset kind cause resetn).startAfterReset with cond := ⟨recs, Consequences.none⟩, hold := none } ∧
        ∀ i : Fin 32, recs[i] = (s.cond.recs[i]).through kind catalogue[i] (s.store.reset kind cause).partTime := by
  obtain ⟨recs, e, own⟩ := restamp_eq (restampOf kind s.cond.recs) (s.inReset kind cause resetn).startAfterReset
  refine ⟨recs, ?_, fun i => ?_⟩
  · unfold State.woken State.awake
    rw [show (s.resetHold kind cause).restamp = restampOf kind s.cond.recs from rfl, e]
    rfl
  · rw [own i]
    exact resetRecord_eq kind s.cond.recs _ i

/-- The end of a reset: the reports change the records alone. -/
theorem endReset_inReset (kind : ResetKind) (cause : ResetCause) (resetn : Bool) (s : State) :
    ∃ recs ev revs,
      (s.inReset kind cause resetn).endReset =
          { { s.woken kind cause resetn with
                cond := ⟨recs, (⟨recs, Consequences.none⟩ : Conditions).inForce⟩, ev := ev }.drive with
            revs := revs } ∧
        (∀ i : Fin 32, recs[i] =
          if (s.woken kind cause resetn).causeAfterReset i then
            ((s.cond.recs[i]).through kind catalogue[i] (s.store.reset kind cause).partTime).meetsCause
              (s.woken kind cause resetn).onsetArgs
          else (s.cond.recs[i]).through kind catalogue[i] (s.store.reset kind cause).partTime) ∧
        revs = (s.resetHold kind cause).revisions (s.woken kind cause resetn).snapshot
          (s.inReset kind cause resetn).endReset.snapshot s.revs := by
  obtain ⟨recs₀, e₀, through⟩ := woken_eq kind cause resetn s
  have settled (i : Fin 32) := through_settled kind catalogue[i] (s.store.reset kind cause).partTime s.cond.recs[i]
  have rest : (s.woken kind cause resetn).AtRest := by
    rw [e₀]
    exact ⟨rfl, rfl, rfl, (congrArg CondRec.present (through _)).trans (settled _).1⟩
  have was (i : Fin 32) : (s.woken kind cause resetn).cond.recs[i] =
      (s.cond.recs[i]).through kind catalogue[i] (s.store.reset kind cause).partTime := by rw [e₀]; exact through i
  obtain ⟨recs, ev, e, after⟩ := report_resetReports rest (by rw [e₀])
    (fun i => was i ▸ (settled i).1) (fun i => was i ▸ (settled i).2)
  have ended := endReset_of_hold (s := s.inReset kind cause resetn) (h := s.resetHold kind cause) rfl
  rw [show (s.inReset kind cause resetn).awake (s.resetHold kind cause) = s.woken kind cause resetn from rfl, e] at ended
  refine ⟨recs, ev, _, ended, fun i => ?_, ?_⟩
  · rw [after i, was i]
  · rw [ended, e₀]
    rfl

/-! ### The revisions after a cold reset (R6; log 9) -/

theorem pulsePermit_of_discharging {s : State} (off : s.conv.state = .discharging) : s.pulsePermit = false := by
  rw [State.pulsePermit, off]
  rfl

/-- The records of every other table show nothing of the condition records, while PULSE_PERMIT is off. -/
theorem heldOf_cond {s : State} (off : s.conv.state = .discharging) (c : Conditions) (e : Scratch) (o : Outputs)
    (r : RevTable) {table : Nat} (other : table ≠ 10) (index : Nat) :
    ({ s with cond := c, ev := e, out := o, revs := r } : State).heldOf table index = s.heldOf table index := by
  have permit : ({ s with cond := c, ev := e, out := o, revs := r } : State).pulsePermit = s.pulsePermit :=
    (pulsePermit_of_discharging (s := { s with cond := c, ev := e, out := o, revs := r }) off).trans
      (pulsePermit_of_discharging off).symm
  unfold State.heldOf
  refine List.map_congr_left fun f _ => ?_
  unfold State.ownField
  split <;> try rfl
  · unfold State.converterField
    split
    case h_6 => exact congrArg bit permit
    all_goals rfl
  · exact absurd rfl other

theorem CondState.eq_clear_of_code {x : CondState} (h : x.code = 0) : x = .clear := by
  match x, h with
  | .clear, _ => rfl

/-- A cause that meets a CLEAR record changes its state. -/
theorem meetsCause_moves {r : CondRec} (o : OnsetArgs) (clear : r.state = .clear) : (r.meetsCause o).state ≠ .clear := by
  unfold CondRec.meetsCause
  split
  · simp
  · simp [clear]

theorem heldOf_condition_congr {s t : State} {i : Fin 32} (same : t.cond.recs[i] = s.cond.recs[i]) :
    t.heldOf 10 i.val = s.heldOf 10 i.val := by
  unfold State.heldOf
  refine List.map_congr_left fun f _ => ?_
  simp only [State.ownField, i.isLt, dite_true, State.condField, same]

theorem heldOf_condition_state {s t : State} {i : Fin 32} (same : t.heldOf 10 i.val = s.heldOf 10 i.val) :
    (t.cond.recs[i]).state.code = (s.cond.recs[i]).state.code := by
  have field : t.ownField 10 i.val 6 = s.ownField 10 i.val 6 := by
    have six : ∀ u : State, u.ownField 10 i.val 6 = (u.heldOf 10 i.val)[5]! := fun _ => rfl
    rw [six, six, same]
  simpa [State.ownField, State.condField] using field

theorem bumpRevision_self (fields : List Int) (rev : Nat) : bumpRevision fields fields rev = rev := if_pos rfl

/-- After a cold reset a revision is 1 for the records that the reports of its end meet, and 0 for every other (log 9). -/
theorem revision_coldReset (cause : ResetCause) (resetn : Bool) (s : State) :
    (∀ table index, table ≠ 10 → (s.inReset .cold cause resetn).endReset.revision table index = 0) ∧
      ∀ i : Fin 32, (s.inReset .cold cause resetn).endReset.revision 10 i.val =
        if (s.inReset .cold cause resetn).endReset.causeAfterReset i then 1 else 0 := by
  obtain ⟨recs₀, e₀, through⟩ := woken_eq .cold cause resetn s
  obtain ⟨recs, ev, revs, e, after, hrevs⟩ := endReset_inReset .cold cause resetn s
  replace hrevs : revs =
      bumpAll (s.woken .cold cause resetn).snapshot (s.inReset .cold cause resetn).endReset.snapshot zeroRevs := hrevs
  have discharging : (s.woken .cold cause resetn).conv.state = .discharging := by rw [e₀]; rfl
  have bumped {table index : Nat} (hi : index < tableCount table) :
      (s.inReset .cold cause resetn).endReset.revision table index =
        bumpRevision ((s.woken .cold cause resetn).heldOf table index)
          ((s.inReset .cold cause resetn).endReset.heldOf table index) 0 := by
    rw [← revision_zeroRevs table index, ← bumpAll_revision zeroRevs_shape _ _ (tableCount_pos hi) hi, ← hrevs, e]
    rfl
  have causes (i : Fin 32) : (s.inReset .cold cause resetn).endReset.causeAfterReset i =
      (s.woken .cold cause resetn).causeAfterReset i := by rw [e]; rfl
  have ended (i : Fin 32) : (s.inReset .cold cause resetn).endReset.cond.recs[i] = recs[i] := by rw [e]; rfl
  have began (i : Fin 32) : (s.woken .cold cause resetn).cond.recs[i] = CondRec.fresh catalogue[i] := by
    rw [e₀]
    exact through i
  constructor
  · intro table index other
    by_cases hi : index < tableCount table
    · have same : (s.inReset .cold cause resetn).endReset.heldOf table index =
          (s.woken .cold cause resetn).heldOf table index := by
        rw [e]
        exact heldOf_cond discharging _ _ _ _ other index
      rw [bumped hi, same, bumpRevision_self]
    · have shape : (s.inReset .cold cause resetn).endReset.revs.map List.length = (List.range 11).map tableCount := by
        rw [e]
        exact hrevs ▸ (bumpAll_lengths _ _ _).trans zeroRevs_shape
      exact revision_of_ge shape (not_lt.mp hi)
  · intro i
    rw [bumped i.isLt, causes i]
    have now := after i
    split
    · next present =>
      rw [if_pos present] at now
      have moved : (s.woken .cold cause resetn).heldOf 10 i.val ≠
          (s.inReset .cold cause resetn).endReset.heldOf 10 i.val := fun same => by
        have code := heldOf_condition_state same
        rw [ended i, began i, now] at code
        exact meetsCause_moves _ rfl (CondState.eq_clear_of_code code.symm)
      exact if_neg moved
    · next absent =>
      rw [if_neg absent] at now
      rw [heldOf_condition_congr (s := s.woken .cold cause resetn) (i := i)
        ((ended i).trans (now.trans (began i).symm)), bumpRevision_self]

/-- Every block at the end of a reset (R6, R19, R20; log 8, 17, 25). -/
theorem resetLeaves_inReset (kind : ResetKind) (cause : ResetCause) (resetn : Bool) (s : State) :
    ResetLeaves kind cause s (s.inReset kind cause resetn).endReset := by
  obtain ⟨recs₀, e₀, -⟩ := woken_eq kind cause resetn s
  obtain ⟨recs, ev, revs, e, after, -⟩ := endReset_inReset kind cause resetn s
  have revisions : kind = .cold →
      (∀ (table : Fin 11) (index : Fin 86), table ≠ 10 →
          (s.inReset kind cause resetn).endReset.revision table.val index.val = 0) ∧
        ∀ i : Fin 32, (s.inReset kind cause resetn).endReset.revision 10 i.val =
          if (s.inReset kind cause resetn).endReset.causeAfterReset i then 1 else 0 := by
    rintro rfl
    obtain ⟨others, conditions⟩ := revision_coldReset cause resetn s
    exact ⟨fun table index other => others _ _ (fun h => other (Fin.ext h)), conditions⟩
  have store : (s.inReset kind cause resetn).endReset.store = s.store.reset kind cause := by rw [e, e₀]; rfl
  have records (i : Fin 32) : (s.inReset kind cause resetn).endReset.cond.recs[i] =
      if (s.inReset kind cause resetn).endReset.causeAfterReset i then
        ((s.cond.recs[i]).through kind catalogue[i] (s.inReset kind cause resetn).endReset.store.partTime).meetsCause
          (s.inReset kind cause resetn).endReset.onsetArgs
      else (s.cond.recs[i]).through kind catalogue[i] (s.inReset kind cause resetn).endReset.store.partTime := by
    rw [store, e]
    exact after i
  generalize (s.inReset kind cause resetn).endReset = t at *
  refine ⟨?_, ?_, ?_, ?_, ?_, ?_, ?_, ?_, ?_, ?_, ?_, ?_, ?_, ?_, ?_, ?_, ?_, ?_, ?_, records, ?_, revisions, ?_, ?_⟩
  case refine_2 => rw [store]; cases kind <;> rfl
  case refine_3 => rintro rfl; rw [store]; exact ⟨rfl, rfl, rfl⟩
  case refine_4 => rintro rfl; rw [store]; exact ⟨rfl, rfl, rfl⟩
  case refine_22 => rw [e, e₀]; exact ⟨rfl, rfl, rfl, rfl, rfl, rfl, rfl, rfl⟩
  all_goals rw [e, e₀]; rfl

/-- What a reset leaves depends on the store, the thresholds, the records, the yaw and the pins it began with. -/
theorem ResetLeaves.of_same {kind : ResetKind} {cause : ResetCause} {s b t : State} (h : ResetLeaves kind cause b t)
    (store : b.store = s.store) (cool : b.cool = s.cool) (cond : b.cond = s.cond) (yaw : b.yaw = s.yaw) {resetn : Bool}
    (inputs : b.inputs = { s.inputs with resetn := resetn }) : ResetLeaves kind cause s t := by
  unfold ResetLeaves at h ⊢
  rw [store, cool, cond, yaw, inputs] at h
  exact h

/-- A warm reset compares the revisions with the state it began in (R6). -/
theorem revision_warmReset {s : State} (kept : RevisionsKept s) (cause : ResetCause) (resetn : Bool) {table index : Nat}
    (ht : table < 11) (hi : index < tableCount table) :
    (s.inReset .warm cause resetn).endReset.revision table index =
      bumpRevision (s.heldOf table index) ((s.inReset .warm cause resetn).endReset.heldOf table index)
        (s.revision table index) := by
  obtain ⟨recs, ev, revs, e, -, hrevs⟩ := endReset_inReset .warm cause resetn s
  have own : (s.inReset .warm cause resetn).endReset.revs = revs := by rw [e]
  rw [State.revision, own, hrevs]
  exact bumpAll_revision kept.1 _ _ ht hi

/-! ### Power-up and RESETn (R19) -/

theorem beginReset_resetn (kind : ResetKind) (cause : ResetCause) (resetn : Bool) (s : State) :
    ({ s with inputs := { s.inputs with resetn := resetn } } : State).beginReset kind cause = s.inReset kind cause resetn :=
  rfl

/-- A part in reset holds its lines off, and DISCHARGE_K on (R19). -/
theorem inReset_lines (kind : ResetKind) (cause : ResetCause) (resetn : Bool) (s : State) :
    (s.inReset kind cause resetn).out = (s.inReset kind cause resetn).outputs ∧
      (s.inReset kind cause resetn).out.dischargeK = true ∧ (s.inReset kind cause resetn).out.mainK = false ∧
      (s.inReset kind cause resetn).out.pulsePermit = false ∧ (s.inReset kind cause resetn).out.yawCw = false ∧
      (s.inReset kind cause resetn).out.yawCcw = false ∧ (s.inReset kind cause resetn).out.brakeRelease = false :=
  ⟨rfl, rfl, rfl, rfl, rfl, rfl, rfl⟩

theorem exec_powerUp (resetn : Bool) (s : State) :
    exec (.powerUp resetn) s = .next (s.inReset .cold .coldPower resetn) := rfl

theorem exec_powerUpSequenceComplete (resetn : Bool) (s : State) :
    exec .powerUpSequenceComplete (s.inReset .cold .coldPower resetn) =
      .next (if resetn then s.inReset .cold .coldPower true else (s.inReset .cold .coldPower false).endReset) := by
  cases resetn <;> rfl

theorem exec_resetnRelease (kind : ResetKind) (cause : ResetCause) (s : State) :
    exec .resetnRelease (s.inReset kind cause true) = .next (s.inReset kind cause false).endReset := rfl

theorem exec_resetnAssert {s : State} (free : s.hold = none) (released : s.inputs.resetn = false) :
    exec .resetnAssert s =
      .next (s.inReset (lineReset s.inputs.warmsel).1 (lineReset s.inputs.warmsel).2 true) := by
  show execResetnAssert s = _
  have unheld : s.held = false := by simp [State.held, free]
  simp [execResetnAssert, released, unheld, beginReset_resetn]

theorem exec_resetnAssert_again (kind : ResetKind) (cause : ResetCause) (s : State) :
    exec .resetnAssert (s.inReset kind cause true) = .next (s.inReset kind cause true) := rfl

/-! ### The records after power-up (R168) -/

theorem resetRecords_getElem (i : Fin 32) :
    resetRecords[i] =
      if i ∈ [Cond.meterStale, 11, 12, 13, 14, 15, Cond.twistUnknown] then
        (CondRec.fresh catalogue[i]).meetsCause (State.reset.onsetArgs)
      else CondRec.fresh catalogue[i] := by
  revert i
  decide +kernel

/-- The records after power-up, with GATE_FAULT inactive, are those of the state right after reset (R168). -/
theorem records_powerUp {s u : State} (l : ResetLeaves .cold .coldPower s u) (gate : s.inputs.raw.gateFault = false) :
    u.cond.recs = resetRecords := by
  obtain ⟨-, -, cold, -, -, -, -, -, -, yaw, -, -, -, -, -, -, -, -, -, records, -, -, inputs, -⟩ := l
  obtain ⟨settings, -, now⟩ := cold rfl
  have level : u.level .gateFault = false := by
    rw [State.level, inputs]
    exact gate
  have known : u.yaw.known = false := by rw [yaw]; rfl
  have causes : ∀ i : Fin 32, u.causeAfterReset i =
      decide (i ∈ [Cond.meterStale, 11, 12, 13, 14, 15, Cond.twistUnknown]) := by
    intro i
    have split : ∀ i : Fin 32, (i == Cond.meterStale || decide (11 ≤ i.val ∧ i.val ≤ 15) || i == Cond.twistUnknown) =
        decide (i ∈ [Cond.meterStale, 11, 12, 13, 14, 15, Cond.twistUnknown]) := by decide
    rw [← split i]
    simp [State.causeAfterReset, level, known]
  have args : u.onsetArgs = State.reset.onsetArgs := by
    simp only [State.onsetArgs, State.setting, settings, now]
    rfl
  ext i hi : 1
  have own := records ⟨i, hi⟩
  have reset := resetRecords_getElem ⟨i, hi⟩
  rw [causes, args, through_cold] at own
  simp only [decide_eq_true_eq] at own
  exact own.trans reset.symm

theorem inForce_resetRecords {u : State} (h : u.cond.recs = resetRecords) :
    u.tripInForce = true ∧ u.inhibitInForce = true ∧ u.suppressInForce = true ∧ u.holdInForce = false ∧
      u.shedServiceInForce = false := by
  have carried (carries : Consequences → Bool) :
      u.cond.inForceBy carries = State.reset.cond.inForceBy carries := by
    unfold Conditions.inForceBy
    rw [h]
    rfl
  simp only [State.tripInForce, State.inhibitInForce, State.suppressInForce, State.holdInForce,
    State.shedServiceInForce, carried]
  decide +kernel

theorem ResetLeaves.judged {kind : ResetKind} {cause : ResetCause} {s t : State} (h : ResetLeaves kind cause s t) :
    Judged t := by
  obtain ⟨-, -, -, -, -, -, -, -, -, -, -, -, -, -, -, -, -, -, -, -, told, -⟩ := h
  exact told

/-- Settles O60: each reset is begun as `State.inReset`, whose end leaves every block by `resetLeaves_inReset`. -/
theorem resetsLeave : Obligations.ResetsLeave := by
  intro s table index
  refine ⟨⟨?_, ?_⟩, ?_⟩
  · have leaves := resetLeaves_inReset .cold .coldPower false s
    refine ⟨_, exec_powerUp false s, rfl, rfl, _, exec_powerUpSequenceComplete false s, leaves,
      (revision_coldReset .coldPower false s).1 table index, fun gate => ?_⟩
    have records := records_powerUp leaves gate
    exact ⟨records, leaves.judged, inForce_resetRecords records⟩
  · exact ⟨_, exec_powerUp true s, exec_powerUpSequenceComplete true s, _, exec_resetnRelease _ _ s,
      resetLeaves_inReset .cold .coldPower false s⟩
  · intro free released
    obtain ⟨lines, dischargeK, mainK, pulse, cw, ccw, brake⟩ :=
      inReset_lines (lineReset s.inputs.warmsel).1 (lineReset s.inputs.warmsel).2 true s
    refine ⟨_, exec_resetnAssert free released, rfl, lines, dischargeK, mainK, pulse, cw, ccw, brake,
      exec_resetnAssert_again _ _ s, _, exec_resetnRelease _ _ s, fun low => ?_, fun high => ⟨?_, fun kept ht hi => ?_⟩⟩
    · rw [low]
      exact resetLeaves_inReset .cold .coldLine false s
    · rw [high]
      exact resetLeaves_inReset .warm .warmLine false s
    · rw [high]
      exact revision_warmReset kept .warmLine false ht hi

end Sys2Proof.Machine
end

section
/-!
What every arrival and expiry keeps of the Record Store, the yaw's place and the thresholds within its event.
-/
namespace Sys2Proof.Machine

/-- An operation that keeps the store, the yaw's place and the thresholds, whatever it does to records and zones. -/
abbrev Calm (s t : State) : Prop := Keeps allRecords allZones s t

theorem calm_report (s : State) (g : Group) : Calm s (s.report g) := (keeps_report s g).all

/-! ### The Supply Monitor -/

theorem calm_supply (s : State) (u : Supply) : Calm s { s with supply := u } := .of_changes (changes_supply s u).mono

theorem calm_handSupply (s : State) (a b : SupplyState) : Calm s (State.handSupply a b s) := by
  unfold State.handSupply
  split
  · exact keeps_conv s _
  · exact keeps_conv s _
  · exact (keeps_enterTripped s).all
  · exact Keeps.refl _ _ s

theorem calm_changeSupply (s : State) (n : SupplyState) (k : Option Nat) : Calm s (State.changeSupply n k s) := by
  unfold State.changeSupply
  exact ((calm_supply s _).trans (keeps_rebudget _ _).all).trans (calm_handSupply _ _ _)

theorem calm_compareBackup (s : State) : Calm s s.compareBackup := by
  unfold State.compareBackup
  split
  · exact calm_changeSupply s _ _
  · exact calm_changeSupply s _ _
  · exact Keeps.refl _ _ s

theorem calm_judgeSupply (s : State) (v : Nat) : Calm s (State.judgeSupply v s) := by
  unfold State.judgeSupply
  have count : Calm s (State.countBelow v s) := calm_supply s _
  split
  · exact Keeps.onlyIf count (calm_changeSupply _ _ _)
  · simp only
    split
    · exact count.trans (calm_changeSupply _ _ _)
    · exact count.trans (calm_supply _ _)
  · exact (calm_compareBackup s).trans (calm_supply _ _)
  · exact (calm_compareBackup s).trans (calm_supply _ _)

theorem calm_supplyFrame (s : State) (f : Fast) : Calm s (State.supplyFrame f s) :=
  (calm_judgeSupply s _).trans (calm_report _ _)

theorem calm_supplyMoved {s : State} {f : State → State} (h : Calm s (f s)) : Calm s (State.supplyMoved f s) :=
  h.trans (calm_report _ _)

/-! ### The Converter Sequencer -/

theorem calm_sequenceFrame (s : State) (v : Nat) : Calm s (State.sequenceFrame v s) := by
  unfold State.sequenceFrame
  split
  · exact Keeps.ite (keeps_conv s _) (Keeps.refl _ _ s)
  · exact Keeps.ite ((keeps_conv s _).trans (keeps_offChanged _)) (Keeps.refl _ _ s)
  · exact Keeps.refl _ _ s

theorem calm_converterFrame (s : State) (f : Fast) : Calm s (State.converterFrame f s) :=
  ((keeps_conv s _).trans (calm_sequenceFrame _ _)).trans (calm_report _ _)

theorem calm_decay (s : State) : Calm s s.decay := (keeps_conv s _).trans (calm_report _ _)

theorem calm_prechargeExpired (s : State) : Calm s s.prechargeExpired := Keeps.ite (calm_report s _) (Keeps.refl _ _ s)

theorem calm_breakerExpired (s : State) : Calm s s.breakerExpired := Keeps.ite (calm_report s _) (Keeps.refl _ _ s)

theorem calm_dischargeExpired (s : State) : Calm s s.dischargeExpired :=
  Keeps.ite ((keeps_enterTripped s).all.trans (calm_report _ _)) (Keeps.refl _ _ s)

theorem calm_mainChanged (s : State) (b : Bool) : Calm s (State.mainChanged b s) :=
  Keeps.ite (Keeps.ite (keeps_conv s _) (Keeps.refl _ _ s)) (Keeps.ite (calm_report s _) (Keeps.refl _ _ s))

/-! ### The yaw timers and the brake line -/

theorem calm_judgeUntwist (s : State) : Calm s s.judgeUntwist := (keeps_judgeUntwist s).all

theorem calm_judgeTurn (s : State) : Calm s s.judgeTurn := by
  unfold State.judgeTurn
  split
  · have idle : Calm s { s with yaw := { s.yaw with idleLeft := some (s.setting Setting.encoderIdleLimit) } } :=
      keeps_yaw s _ ⟨rfl, rfl, rfl⟩
    exact Keeps.ite ((idle.trans (keeps_completeTurn _).all).trans (keeps_enterSettling _).all)
      (Keeps.ite ((idle.trans (keeps_endRoute _ _).all).trans (keeps_enterSettling _).all) idle)
  · exact Keeps.refl _ _ s

theorem calm_claimWaitExpired (s : State) : Calm s s.claimWaitExpired :=
  Keeps.ite ((keeps_endRoute s _).all.trans (keeps_park _).all) (Keeps.refl _ _ s)

theorem calm_releaseExpired (s : State) : Calm s s.releaseExpired :=
  Keeps.ite (((keeps_endRoute s _).all.trans (keeps_enterBraking _).all).trans (calm_report _ _)) (Keeps.refl _ _ s)

theorem calm_stalled (s : State) : Calm s s.stalled :=
  Keeps.ite (((keeps_endRoute s _).all.trans (keeps_enterSettling _).all).trans (calm_report _ _)) (Keeps.refl _ _ s)

theorem calm_settleExpired (s : State) : Calm s s.settleExpired :=
  Keeps.ite (keeps_enterBraking s).all (Keeps.refl _ _ s)

theorem calm_applyExpired (s : State) : Calm s s.applyExpired :=
  Keeps.ite ((calm_report s _).trans (keeps_leaveBraking _).all) (Keeps.refl _ _ s)

theorem calm_dwellExpired (s : State) : Calm s s.dwellExpired :=
  Keeps.ite ((keeps_advance s).all.trans (keeps_enterReleasing _).all) (Keeps.refl _ _ s)

theorem calm_brakeRises (s : State) : Calm s s.brakeRises := by
  unfold State.brakeRises
  split
  · exact (keeps_startSegment s).all
  · exact calm_report s _
  · exact calm_report s _
  · exact calm_report s _
  · exact Keeps.ite (calm_report s _) (Keeps.refl _ _ s)
  · exact Keeps.refl _ _ s
  · exact Keeps.refl _ _ s

theorem calm_brakeFalls (s : State) : Calm s s.brakeFalls := by
  unfold State.brakeFalls
  split
  · exact (keeps_enterSettling s).all.trans (calm_report _ _)
  · exact Keeps.ite (calm_report s _) (Keeps.refl _ _ s)
  · exact (keeps_leaveBraking s).all
  · exact Keeps.refl _ _ s
  · exact Keeps.refl _ _ s
  · exact Keeps.refl _ _ s
  · exact Keeps.refl _ _ s

/-! ### The Alignment Unit -/

theorem calm_windows (s : State) (f : Window → Window) : Calm s (State.windows f s) := keeps_align s _

theorem calm_windDirection (s : State) (v : Int) : Calm s (State.windDirection v s) :=
  Keeps.ite (calm_windows s _) (Keeps.refl _ _ s)

theorem calm_motionIndex (s : State) (v : Int) : Calm s (State.motionIndex v s) := by
  unfold State.motionIndex
  exact (Keeps.ite ((keeps_align s _).trans (calm_windows _ _)) (keeps_align s _)).trans (calm_report _ _)

theorem calm_runAlignment (s : State) (r : Fin 6) (k : Fin 24) (g : Trigger) (d : TargetKind) (v : Int)
    (e : SegDirection) (w : Speed) : Calm s (State.runAlignment r k g d v e w s) := by
  unfold State.runAlignment
  refine Keeps.trans ?_ (keeps_admitRoute _ r).all
  refine Keeps.trans ?_ (keeps_align _ _)
  exact (Keeps.of_changes (changes_setSegment s _ _).mono).trans (keeps_setRoute _ _ _).all

theorem calm_autoTrigger (s : State) (m : Option Int) (n : Nat) (b : Bool) : Calm s (State.autoTrigger m n b s) := by
  unfold State.autoTrigger
  split
  · exact Keeps.refl _ _ s
  · exact Keeps.ite (calm_runAlignment _ _ _ _ _ _ _ _) (Keeps.refl _ _ s)

theorem calm_closeShort (s : State) (w : Window) : Calm s (State.closeShort w s) :=
  (keeps_align s _).trans (calm_autoTrigger _ _ _ _)

theorem calm_deferUntwist (s : State) : Calm s s.deferUntwist := (keeps_align s _).trans (calm_report _ _)

theorem calm_closeLong (s : State) (w : Window) : Calm s (State.closeLong w s) := by
  unfold State.closeLong
  simp only
  have closed : Calm s { s with align := { s.align with
      lastLong := w.mean, long := some (Window.fresh (1000 * s.setting Setting.longWindow)) } } := keeps_align s _
  exact Keeps.ite
    (Keeps.ite (closed.trans (calm_runAlignment _ _ _ _ _ _ _ _))
      ((closed.trans (calm_deferUntwist _)).trans (calm_autoTrigger _ _ _ _)))
    (closed.trans (calm_autoTrigger _ _ _ _))

/-! ### The Meter Receiver and the lines -/

theorem calm_meter (s : State) (m : Meter) : Calm s { s with meter := m } := .of_changes (changes_meter s m).mono

theorem calm_slowValue (s : State) (c : Fin 8) (v : Int) : Calm s (State.slowValue c v s) := by
  unfold State.slowValue
  split
  · exact keeps_freshReading s _
  · exact Keeps.ite (calm_windDirection s _) (Keeps.ite (calm_motionIndex s _) (Keeps.refl _ _ s))

theorem calm_acceptFrame (s : State) (bytes : List Byte) : Calm s (State.acceptFrame bytes s) := by
  unfold State.acceptFrame
  refine Keeps.trans ?_ (calm_slowValue _ _ _)
  refine Keeps.trans ?_ (calm_converterFrame _ _)
  refine Keeps.trans ?_ (calm_supplyFrame _ _)
  exact Keeps.ite (calm_meter s _) ((calm_meter s _).trans (calm_report _ _))

theorem calm_streamStale (s : State) : Calm s s.streamStale := by
  unfold State.streamStale
  refine Keeps.trans ?_ (calm_windows _ _)
  refine Keeps.trans ?_ (keeps_evaluateZones _ _).all
  refine Keeps.trans ?_ (keeps_conv _ _)
  refine Keeps.trans ?_ (calm_supply _ _)
  exact (calm_meter s _).trans (calm_report _ _)

theorem calm_channelStale (s : State) (c : Fin 8) : Calm s (State.channelStale c s) := by
  unfold State.channelStale
  simp only
  split
  · exact (calm_meter s _).trans (keeps_evaluateZones _ _).all
  · exact Keeps.ite ((calm_meter s _).trans (calm_windows _ _)) (calm_meter s _)

theorem calm_inputs (s : State) (i : Inputs) : Calm s { s with inputs := i } := .of_changes (changes_inputs s i).mono

theorem calm_lineChanged (s : State) (l : Line) (b : Bool) : Calm s (State.lineChanged l b s) := by
  unfold State.lineChanged
  split
  · exact Keeps.ite (calm_brakeRises s) (calm_brakeFalls s)
  · exact calm_mainChanged s _
  · exact calm_report s _
  · exact Keeps.onlyIf (keeps_flowChanged s _ _) (.of_changes (changes_proveFlow _).mono)
  · exact keeps_flowChanged s _ _
  · exact Keeps.ite (calm_supplyMoved (calm_compareBackup s)) (Keeps.refl _ _ s)

theorem calm_filterExpired (s : State) (l : Line) : Calm s (State.filterExpired l s) :=
  (calm_inputs s _).trans (calm_lineChanged _ _ _)

/-! ### Claims, cooling and conditions -/

theorem calm_claimRequest (s : State) (f : Apportioner → Apportioner) : Calm s (s.claimRequest f) :=
  (keeps_claimRequest s f).all

theorem calm_firstEvaluation (s : State) : Calm s s.firstEvaluation := by
  refine Keeps.trans ?_ (keeps_evaluateZones _ _).all
  exact Keeps.of_pieces rfl ⟨rfl, rfl, rfl⟩ rfl rfl rfl rfl

theorem calm_setRec (s : State) (i : Fin 32) (r : CondRec) : Calm s (s.setRec i r) :=
  (keeps_putRec s i (r, false)).all

end Sys2Proof.Machine
end

section
/-!
The ranges that every step keeps (R3, R5, R10, R15, R18, R137), through the end of an event, a millisecond and a reset.
-/
namespace Sys2Proof.Machine

/-- The ranges of `Carried`, which hold within an event too. -/
structure State.InRange (s : State) : Prop where
  partTime : s.store.partTime ≤ 2147483647
  table : s.port.table < 11
  heading : s.yaw.heading < 36000
  settings : ∀ k : Fin 86, settingSpecs[k].lo ≤ s.setting k ∧ s.setting k ≤ settingSpecs[k].hi
  ordered : ∀ z ∈ allZones, (s.cool.zones.get z).limits.ordered = true
  revs : RevisionsKept s

theorem carried_iff (s : State) : Carried s ↔ s.InRange ∧ s.ev = Scratch.empty := by
  constructor
  · rintro ⟨partTime, table, heading, settings, ordered, revs, ev⟩
    exact ⟨⟨partTime, table, heading, settings, ordered, revs⟩, ev⟩
  · rintro ⟨⟨partTime, table, heading, settings, ordered, revs⟩, ev⟩
    exact ⟨partTime, table, heading, settings, ordered, revs, ev⟩

theorem State.InRange.of_stays {is : List (Fin 32)} {zs : List Zone} {s t : State} (h : s.InRange) (k : Stays is zs s t)
    (table : t.port.table < 11) (revs : RevisionsKept t) : t.InRange :=
  ⟨by rw [k.store]; exact h.partTime, table, by rw [k.heading]; exact h.heading,
    fun i => by rw [k.setting]; exact h.settings i, fun z hz => by rw [k.limits]; exact h.ordered z hz, revs⟩

/-! ### The revisions (R5) -/

theorem bumpTable_lt {b a : List (List Int)} {revs : List Nat} (h : ∀ r ∈ revs, r < 256) :
    ∀ r ∈ bumpTable b a revs, r < 256 := by
  induction b generalizing a revs with
  | nil => exact h
  | cons b bs ih =>
    cases a with
    | nil => exact h
    | cons a as =>
      cases revs with
      | nil => exact h
      | cons r rs =>
        obtain ⟨first, rest⟩ := List.forall_mem_cons.mp h
        exact List.forall_mem_cons.mpr ⟨bumpRevision_lt b a first, ih rest⟩

theorem bumpAll_lt {b a : Snapshot} {revs : RevTable} (h : ∀ row ∈ revs, ∀ r ∈ row, r < 256) :
    ∀ row ∈ bumpAll b a revs, ∀ r ∈ row, r < 256 := by
  induction b generalizing a revs with
  | nil => exact h
  | cons b bs ih =>
    cases a with
    | nil => exact h
    | cons a as =>
      cases revs with
      | nil => exact h
      | cons r rs =>
        obtain ⟨first, rest⟩ := List.forall_mem_cons.mp h
        exact List.forall_mem_cons.mpr ⟨bumpTable_lt first, ih rest⟩

/-- Revisions compared are revisions kept. -/
theorem revisionsKept_bumpAll {s t : State} (b a : Snapshot) (h : RevisionsKept s) (e : t.revs = bumpAll b a s.revs) :
    RevisionsKept t := by
  unfold RevisionsKept
  rw [e]
  exact ⟨(bumpAll_lengths b a s.revs).trans h.1, bumpAll_lt h.2⟩

theorem revisionsKept_of_eq {s t : State} (h : RevisionsKept s) (e : t.revs = s.revs) : RevisionsKept t := by
  unfold RevisionsKept
  rw [e]
  exact h

/-! ### The end of an event -/

theorem closeEvent_revs (before s : State) :
    (closeEvent before s).revs = bumpAll before.snapshot (closeEvent before s).snapshot s.revs :=
  congrArg (bumpAll before.snapshot (closeEvent before s).snapshot) (changes_settle s .revs (by decide))

theorem inRange_closeEvent {s : State} (h : s.InRange) (before : State) : (closeEvent before s).InRange := by
  have port : (closeEvent before s).port = s.port := changes_closeEvent before s .port (by decide)
  exact h.of_stays (stays_closeEvent before s) (by rw [port]; exact h.table)
    (revisionsKept_bumpAll _ _ h.revs (closeEvent_revs before s))

/-- An operation of the blocks within an event. -/
theorem State.InRange.of_calm {s t : State} (h : s.InRange) (k : Calm s t) (c : Changes ownerPieces s t) : t.InRange := by
  have port : t.port = s.port := c .port (by decide)
  exact h.of_stays k.toStays (by rw [port]; exact h.table) (revisionsKept_of_eq h.revs (c .revs (by decide)))

theorem inRange_finishEvent {s : State} (h : s.InRange) (before : State) : (finishEvent before s).InRange := by
  refine finishEvent_induct (P := State.InRange) (inRange_closeEvent h before) (fun u z p => ?_) (fun u p => ?_)
  · exact inRange_closeEvent (p.of_calm (keeps_holdExpired u z).all (changes_holdExpired u z)) u
  · have changes := changes_staggerExpired u
    have port : u.staggerExpired.port = u.port := changes .port (by decide)
    exact inRange_closeEvent (p.of_stays (stays_staggerExpired u) (by rw [port]; exact p.table)
      (revisionsKept_of_eq p.revs (changes .revs (by decide)))) u

/-! ### A millisecond and a second -/

theorem inRange_tick {s : State} (h : s.InRange) : s.tick.InRange where
  partTime := h.partTime
  table := h.table
  heading := h.heading
  settings := h.settings
  ordered z hz := by
    have same : (s.tick.cool.zones.get z).limits = (s.cool.zones.get z).limits := by cases z <;> rfl
    rw [same]
    exact h.ordered z hz
  revs := h.revs

theorem inRange_second {s : State} (h : s.InRange) : ({ s with store := s.store.second } : State).InRange :=
  ⟨Nat.le_of_lt_succ (Nat.mod_lt _ (by decide)), h.table, h.heading, h.settings, h.ordered, h.revs⟩

/-! ### Resets -/

theorem settingDefaults_inBounds (k : Fin 86) :
    settingSpecs[k].lo ≤ settingDefaults[k] ∧ settingDefaults[k] ≤ settingSpecs[k].hi := by
  revert k
  decide +kernel

theorem limits_initial (floor : Nat) (limits : PerZone Thresholds) (z : Zone) :
    ((Cooling.initial floor limits).zones.get z).limits = limits.get z := by
  cases z <;> rfl

theorem inRange_beginReset {s : State} (h : s.InRange) (kind : ResetKind) (cause : ResetCause) :
    (s.beginReset kind cause).InRange := by
  have limits (z : Zone) (hz : z ∈ allZones) :
      ((s.beginReset kind cause).cool.zones.get z).limits.ordered = true := by
    have set : ((s.beginReset kind cause).cool.zones.get z).limits =
        (match kind with
          | .cold => zoneLimitDefaults
          | .warm => s.cool.limits).get z := limits_initial _ _ z
    rw [set]
    cases kind with
    | cold =>
      have defaults : ∀ z ∈ allZones, (zoneLimitDefaults.get z).ordered = true := by decide
      exact defaults z hz
    | warm =>
      have own : s.cool.limits.get z = (s.cool.zones.get z).limits := by cases z <;> rfl
      rw [own]
      exact h.ordered z hz
  have zero : (s.beginReset kind cause).port.table < 11 := Nat.zero_lt_succ _
  cases kind with
  | cold => exact ⟨Nat.zero_le _, zero, Nat.zero_lt_succ _, settingDefaults_inBounds, limits, h.revs⟩
  | warm => exact ⟨h.partTime, zero, h.heading, h.settings, limits, h.revs⟩

theorem calm_restamp (s : State) (is : List (Fin 32)) : Calm s (s.restamp is) :=
  Keeps.foldl (fun t i => calm_setRec t i _) is s

theorem calm_awake (s : State) (h : ResetHold) : Calm s (s.awake h) := by
  have started : Calm s s.startAfterReset := by
    unfold State.startAfterReset
    refine Keeps.trans ?_ (calm_windows _ _)
    refine Keeps.trans ?_ (keeps_openWindows _).all
    exact Keeps.of_pieces rfl ⟨rfl, rfl, rfl⟩ rfl rfl rfl rfl
  have stamped := started.trans (calm_restamp s.startAfterReset h.restamp)
  exact stamped.trans (Keeps.of_pieces rfl ⟨rfl, rfl, rfl⟩ rfl rfl rfl rfl)

theorem awake_pieces (s : State) (h : ResetHold) :
    (s.awake h).revs = s.revs ∧ (s.awake h).port.table = s.port.table ∧ (s.awake h).hold = none := by
  obtain ⟨recs, e, -⟩ := restamp_eq h.restamp s.startAfterReset
  unfold State.awake
  rw [e]
  exact ⟨rfl, rfl, rfl⟩

theorem revisionsKept_revisions {s t : State} (hold : ResetHold) (fresh after : Snapshot) (h : RevisionsKept s)
    (e : t.revs = hold.revisions fresh after s.revs) : RevisionsKept t := by
  have zeros : ∀ row ∈ zeroRevs, ∀ r ∈ row, r < 256 := by decide +kernel
  unfold ResetHold.revisions at e
  split at e
  · unfold RevisionsKept
    rw [e]
    exact ⟨(bumpAll_lengths _ _ _).trans zeroRevs_shape, bumpAll_lt zeros⟩
  · exact revisionsKept_bumpAll _ _ h e

theorem inRange_endReset {s : State} (h : s.InRange) : s.endReset.InRange := by
  cases held : s.hold with
  | none =>
    have same : s.endReset = s := by unfold State.endReset; rw [held]
    rw [same]
    exact h
  | some hold =>
    obtain ⟨revs, table, -⟩ := awake_pieces s hold
    have changes := changes_report (s.awake hold) (s.awake hold).resetReports
    have calm : Calm s ((s.awake hold).report (s.awake hold).resetReports) := (calm_awake s hold).trans (calm_report _ _)
    have port : ((s.awake hold).report (s.awake hold).resetReports).port = (s.awake hold).port := changes .port (by decide)
    have moved : ((s.awake hold).report (s.awake hold).resetReports).revs = s.revs :=
      (changes .revs (by decide)).trans revs
    rw [endReset_of_hold held]
    generalize (s.awake hold).report (s.awake hold).resetReports = u at *
    have low : u.port.table < 11 := by rw [port, table]; exact h.table
    refine h.of_stays (is := allRecords) (zs := allZones) ?_ low
      (revisionsKept_revisions (s := u) hold _ _ (revisionsKept_of_eq h.revs moved) rfl)
    exact ⟨calm.store, calm.known, calm.heading, calm.twist, calm.limits, calm.thermal, calm.computed, calm.recs⟩

theorem endReset_ev (s : State) (ev : s.ev = Scratch.empty) : s.endReset.ev = Scratch.empty := by
  unfold State.endReset
  split
  · exact ev
  · rfl

theorem inRange_inputs {s : State} (h : s.InRange) (i : Inputs) : ({ s with inputs := i } : State).InRange :=
  ⟨h.partTime, h.table, h.heading, h.settings, h.ordered, h.revs⟩

end Sys2Proof.Machine
end

section
/-!
What the body of every item and every arrival leaves to the end of its event: the revisions, the reset, the port but for the
current table and the composition, the ranges, and no timer started at 0 where LEVEL_DECREASE_HOLD and STAGGER are at 1 or
more.
-/
namespace Sys2Proof.Machine

/-! ### Operations that keep the store and the yaw's place -/

/-- What the blocks may touch within an event. -/
abbrev blockPieces : List Piece := [.meter, .inputs, .app, .supply, .conv, .cool, .align, .routes, .yaw, .cond, .out, .ev]

/-- A calm operation that leaves the revisions, the reset, and of the port all but the current table and the composition. -/
structure Mild (s u : State) : Prop where
  calm : Calm s u
  revs : u.revs = s.revs
  hold : u.hold = s.hold
  port : ∃ n r, u.port = { s.port with table := n, composing := r } ∧ (s.port.table < 11 → n < 11)

theorem Mild.refl (s : State) : Mild s s := ⟨Keeps.refl _ _ s, rfl, rfl, s.port.table, s.port.composing, rfl, id⟩

theorem Mild.trans {s t u : State} (h : Mild s t) (k : Mild t u) : Mild s u := by
  obtain ⟨n, r, e, low⟩ := h.port
  obtain ⟨m, q, e', low'⟩ := k.port
  rw [e] at e' low'
  exact ⟨h.calm.trans k.calm, k.revs.trans h.revs, k.hold.trans h.hold, m, q, e', fun l => low' (low l)⟩

theorem Mild.ite {s a b : State} {c : Prop} [Decidable c] (ha : Mild s a) (hb : Mild s b) :
    Mild s (if c then a else b) := by
  split <;> assumption

theorem mild_of_changes {s u : State} (k : Calm s u) (c : Changes blockPieces s u) : Mild s u :=
  ⟨k, c .revs (by decide), c .hold (by decide), s.port.table, s.port.composing, c .port (by decide), id⟩

theorem mild_port (s : State) {n : Nat} (r : Option (Fin 6)) (low : s.port.table < 11 → n < 11) :
    Mild s { s with port := { s.port with table := n, composing := r } } :=
  ⟨.of_changes (changes_port s _).mono, rfl, rfl, n, r, rfl, low⟩

theorem mild_resolve (h : Handle) (s : State) : Mild s (resolve h s).1 := by
  obtain ⟨n, e, low⟩ := resolve_fst h s
  rw [e]
  exact mild_port s s.port.composing low

theorem mild_endComposition (s : State) : Mild s s.endComposition := mild_port s none id

theorem mild_report (s : State) (g : Group) : Mild s (s.report g) :=
  mild_of_changes (calm_report s g) (changes_report s g).mono

theorem mild_setRoute (s : State) (i : Fin 6) (r : Route) : Mild s (s.setRoute i r) :=
  mild_of_changes (keeps_setRoute s i r).all (changes_setRoute s i r).mono

theorem mild_setSegment (s : State) (i : Fin 24) (g : Option Segment) : Mild s (s.setSegment i g) :=
  mild_of_changes (.of_changes (changes_setSegment s i g).mono) (changes_setSegment s i g).mono

theorem mild_claimRequest (s : State) (f : Apportioner → Apportioner) : Mild s (s.claimRequest f) :=
  mild_of_changes (calm_claimRequest s f) (changes_claimRequest s f).mono

theorem mild_conv (s : State) (c : Converter) : Mild s { s with conv := c } :=
  mild_of_changes (keeps_conv s c) (changes_conv s c).mono

theorem mild_offChanged (s : State) : Mild s s.offChanged :=
  mild_of_changes (keeps_offChanged s) (changes_offChanged s).mono

theorem mild_setRec (s : State) (i : Fin 32) (r : CondRec) : Mild s (s.setRec i r) :=
  mild_of_changes (calm_setRec s i r) (changes_setRec s i r).mono

theorem mild_judge (s : State) : Mild s s.judge := mild_of_changes (keeps_judge s).all (changes_judge s).mono

theorem Mild.foldl {α : Type} {f : State → α → State} (hf : ∀ t x, Mild t (f t x)) (l : List α) (s : State) :
    Mild s (l.foldl f s) := by
  induction l generalizing s with
  | nil => exact Mild.refl s
  | cons x l ih => exact (hf s x).trans (ih (f s x))

theorem mild_emptyRoute (s : State) (r : Fin 6) : Mild s (s.emptyRoute r) :=
  (Mild.foldl (fun t slot => mild_setSegment t slot none) _ s).trans (mild_setRoute _ _ _)

/-! ### The bodies of the items -/

/-- What holds of a record's body at the record, and of a refusal, holds of the item (R2, R7). -/
theorem withRecord_state {P : State → Prop} {h : Handle} {g : Option Nat} {s : State} {k : State → Nat → Nat → Answer}
    (refused : P (resolve h s).1) (taken : ∀ table index, P (k (resolve h s).1 table index).state) :
    P (withRecord h g s k).state := by
  cases res : (resolve h s).2 with
  | none =>
    rw [withRecord_of_absent res]
    exact refused
  | some p =>
    rw [withRecord_of_resolved res]
    split
    · exact taken _ _
    · exact refused

theorem mild_withRecord {h : Handle} {g : Option Nat} {s : State} {k : State → Nat → Nat → Answer}
    (body : ∀ u table index, Mild u (k u table index).state) : Mild s (withRecord h g s k).state :=
  withRecord_state (P := Mild s) (mild_resolve h s) fun _ _ => (mild_resolve h s).trans (body _ _ _)

theorem mild_withTable {table n : Nat} {h : Handle} {g : Option Nat} {s : State} {k : State → Fin n → Answer}
    (body : ∀ u i, Mild u (k u i).state) : Mild s (withTable table n h g s k).state := by
  refine mild_withRecord fun u t i => ?_
  split
  · split
    · exact body u _
    · exact Mild.refl u
  · exact Mild.refl u

theorem mild_doSelect (n : Nat) (s : State) : Mild s (doSelect n s).state := by
  unfold doSelect
  split
  · next low => exact mild_port s s.port.composing fun _ => low
  · exact Mild.refl s

theorem mild_readRecord (first count : Nat) (s : State) (table index : Nat) :
    Mild s (readRecord first count s table index).state := by
  unfold readRecord
  split
  · exact Mild.refl s
  · split <;> exact Mild.refl s

theorem mild_openConsumer (priority asked tag : Nat) (s : State) (c : Fin 19) :
    Mild s (openConsumer priority asked tag s c).state := by
  unfold openConsumer
  split
  · exact Mild.refl s
  split
  · exact Mild.refl s
  split
  · exact Mild.refl s
  split
  · exact Mild.refl s
  · exact mild_claimRequest s _

theorem mild_amendSlot (asked : Nat) (s : State) (i : Fin 16) : Mild s (amendSlot asked s i).state := by
  unfold amendSlot
  simp only
  split
  · exact Mild.refl s
  split
  · exact Mild.refl s
  split
  · exact Mild.refl s
  split
  · exact Mild.refl s
  · exact mild_claimRequest s _

theorem mild_takeSlot (s : State) (i : Fin 16) : Mild s (takeSlot s i).state := by
  unfold takeSlot
  split
  · exact Mild.refl s
  split
  · exact mild_claimRequest s _
  all_goals exact Mild.refl s

theorem mild_retireSlot (s : State) (i : Fin 16) : Mild s (retireSlot s i).state := by
  unfold retireSlot
  split
  · exact Mild.refl s
  split
  · exact Mild.refl s
  · exact mild_claimRequest s _

theorem mild_beginOn (s : State) (r : Fin 6) : Mild s (beginOn s r).state := by
  unfold beginOn
  simp only
  split
  · exact Mild.refl s
  split
  · exact Mild.refl s
  · exact (mild_setRoute s r _).trans (mild_port _ (some r) id)

theorem mild_doSegment (kind : Nat) (target : Int) (direction speed dwell : Nat) (s : State) :
    Mild s (doSegment kind target direction speed dwell s).state := by
  unfold doSegment
  split
  · exact Mild.refl s
  split
  · exact Mild.refl s
  split
  · exact Mild.refl s
  split
  · exact Mild.refl s
  · exact (mild_setSegment s _ _).trans (mild_setRoute _ _ _)

theorem mild_doEndRoute (s : State) : Mild s (doEndRoute s).state := by
  unfold doEndRoute
  split
  · exact Mild.refl s
  · simp only
    split <;> exact (mild_setRoute s _ _).trans (mild_endComposition _)

theorem mild_doAbandon (s : State) : Mild s (doAbandon s).state := by
  unfold doAbandon
  split
  · exact Mild.refl s
  · exact (mild_emptyRoute s _).trans (mild_endComposition _)

theorem mild_runOn (s : State) (r : Fin 6) : Mild s (runOn s r).state := by
  have admitted : Mild s (match s.admission r with
      | some st => refuse s st
      | none => answerOk (s.admitRoute r)).state := by
    split
    · exact Mild.refl s
    · exact mild_of_changes (keeps_admitRoute s r).all (changes_admitRoute s r).mono
  unfold runOn
  split
  · exact Mild.refl s
  split
  · exact Mild.refl s
  · exact Mild.refl s
  · exact Mild.refl s
  · exact admitted
  · exact admitted

theorem mild_doStopYaw (s : State) : Mild s (doStopYaw s).state :=
  mild_of_changes (keeps_stopRunning s _).all (changes_stopRunning s _).mono

theorem mild_retireOn (s : State) (r : Fin 6) : Mild s (retireOn s r).state := by
  unfold retireOn
  split
  · exact Mild.refl s
  · exact Mild.refl s
  · exact Mild.refl s
  · exact mild_emptyRoute s r
  · exact mild_emptyRoute s r

theorem mild_doCharge (s : State) : Mild s (doCharge s).state := by
  unfold doCharge
  split
  · exact Mild.refl s
  split
  · exact Mild.refl s
  · refine Mild.trans ?_ (mild_offChanged _)
    exact mild_conv s _

theorem mild_doStart (s : State) : Mild s (doStart s).state := by
  unfold doStart
  split
  · exact Mild.refl s
  split
  · exact Mild.refl s
  · exact mild_conv s _

theorem mild_doStop (s : State) : Mild s (doStop s).state := by
  unfold doStop
  split
  · exact mild_conv s _
  · exact Mild.refl s

theorem mild_doDischarge (s : State) : Mild s (doDischarge s).state := by
  unfold doDischarge
  split
  · exact mild_conv s _
  · exact Mild.refl s

theorem mild_doClearTrip (s : State) : Mild s (doClearTrip s).state := by
  unfold doClearTrip
  split
  · exact Mild.refl s
  split
  · exact Mild.refl s
  · exact mild_conv s _

theorem mild_acknowledgeOn (s : State) (i : Fin 32) : Mild s (acknowledgeOn s i).state := by
  unfold acknowledgeOn
  split
  · exact Mild.refl s
  · exact (mild_setRec s i _).trans (mild_judge _)

theorem mild_doAcknowledgeLine (line : Nat) (s : State) : Mild s (doAcknowledgeLine line s).state := by
  have one (t : State) (i : Fin 32) : Mild t (t.ackRecord i) := by
    unfold State.ackRecord
    split
    · exact Mild.refl t
    · exact mild_setRec t i _
  unfold doAcknowledgeLine
  split
  · exact Mild.refl s
  · exact (Mild.foldl one _ s).trans (mild_judge _)

end Sys2Proof.Machine
end

section
/-!
Every item and every arrival within its event: the items by their bodies, with WRITE FIELD, RESTORE YAW, FREEZE and RESTART
apart, which touch the store, the yaw's place or the RESTART due; the encoder, which counts the heading.
-/
namespace Sys2Proof.Machine

/-! ### The relation -/

/-- What an operation leaves to the end of its event. -/
structure Within (s u : State) : Prop where
  revs : u.revs = s.revs
  hold : u.hold = s.hold
  port : ∃ n r d, u.port = { s.port with table := n, composing := r, restartDue := d }
  ranges : s.InRange → u.InRange
  timers : 1 ≤ s.setting Setting.levelDecreaseHold → 1 ≤ s.setting Setting.stagger → s.ev = Scratch.empty →
    u.settle.ev.zeroHolds = [] ∧ u.settle.ev.zeroStagger = false

/-- The direct effect of an operation, before the calm ones that follow from it. -/
structure Begins (s b : State) : Prop where
  revs : b.revs = s.revs
  hold : b.hold = s.hold
  ev : b.ev = s.ev
  decrease : b.setting Setting.levelDecreaseHold = s.setting Setting.levelDecreaseHold
  stagger : b.setting Setting.stagger = s.setting Setting.stagger
  port : b.port = s.port
  ranges : s.InRange → b.InRange

theorem Begins.refl (s : State) : Begins s s := ⟨rfl, rfl, rfl, rfl, rfl, rfl, id⟩

theorem Begins.within {s b u : State} (h : Begins s b) (m : Mild b u) : Within s u := by
  obtain ⟨n, r, e, low⟩ := m.port
  rw [h.port] at e low
  refine ⟨m.revs.trans h.revs, m.hold.trans h.hold, ⟨n, r, s.port.restartDue, e⟩, fun i => ?_, fun one two quiet => ?_⟩
  · exact (h.ranges i).of_stays m.calm.toStays (by rw [e]; exact low i.table) (revisionsKept_of_eq (h.ranges i).revs m.revs)
  · have all : Calm b u.settle := m.calm.trans (keeps_settle u).all
    obtain ⟨l, -, holds, none⟩ := all.holds
    rw [h.ev, quiet] at holds
    refine ⟨?_, ?_⟩
    · rw [holds, none (by rw [h.decrease]; exact one)]
      rfl
    · rw [all.stagger (by rw [h.stagger]; exact two), h.ev, quiet]
      rfl

theorem Begins.before {s b u : State} (h : Begins s b) (w : Within b u) : Within s u := by
  obtain ⟨n, r, d, e⟩ := w.port
  rw [h.port] at e
  exact ⟨w.revs.trans h.revs, w.hold.trans h.hold, ⟨n, r, d, e⟩, fun i => w.ranges (h.ranges i), fun one two quiet =>
    w.timers (by rw [h.decrease]; exact one) (by rw [h.stagger]; exact two) (h.ev.trans quiet)⟩

theorem Mild.within {s u : State} (m : Mild s u) : Within s u := (Begins.refl s).within m

/-- A quiet operation. -/
theorem within_of_quiet {s u : State} (revs : u.revs = s.revs) (hold : u.hold = s.hold)
    (port : ∃ n r d, u.port = { s.port with table := n, composing := r, restartDue := d })
    (ranges : s.InRange → u.InRange) (ev : u.ev = s.ev) : Within s u := by
  refine ⟨revs, hold, port, ranges, fun _ _ quiet => ?_⟩
  have q : u.ev.Quiet := by
    rw [ev, quiet]
    exact Scratch.quiet_empty
  rw [settle_quiet q]
  obtain ⟨-, -, -, holds, stagger⟩ := q
  exact ⟨holds, stagger⟩

/-- An operation after the current table is set by a handle (R3). -/
theorem Within.of_resolved {h : Handle} {s u : State} (w : Within (resolve h s).1 u) : Within s u := by
  obtain ⟨n, e, low⟩ := resolve_fst h s
  rw [e] at w
  obtain ⟨m, r, d, port⟩ := w.port
  exact ⟨w.revs, w.hold, ⟨m, r, d, port⟩,
    fun i => w.ranges ⟨i.partTime, low i.table, i.heading, i.settings, i.ordered, i.revs⟩, w.timers⟩

/-! ### The items that touch the store, the yaw's place or the RESTART due -/

theorem inRange_putSetting {s : State} (h : s.InRange) {k : Fin 86} {v : Nat} (low : settingSpecs[k].lo ≤ v)
    (high : v ≤ settingSpecs[k].hi) : (s.putSetting k v).InRange := by
  refine ⟨h.partTime, h.table, h.heading, fun j => ?_, h.ordered, h.revs⟩
  by_cases same : j = k
  · subst same
    rw [putSetting_setting_self]
    exact ⟨low, high⟩
  · rw [putSetting_setting_other s v same]
    exact h.settings j

/-- The settings that a block acts on at once are neither LEVEL_DECREASE_HOLD nor STAGGER. -/
theorem acted_ne {k : Fin 86} (h : [0, 1, 2, 3, 4, 8, 49, 50].contains k.val = true) :
    Setting.levelDecreaseHold ≠ k ∧ Setting.stagger ≠ k := by
  revert h
  revert k
  decide

theorem within_applySetting {s : State} {k : Fin 86} {v : Nat} (low : settingSpecs[k].lo ≤ v)
    (high : v ≤ settingSpecs[k].hi) : Within s (s.applySetting k v) := by
  cases acted : [0, 1, 2, 3, 4, 8, 49, 50].contains k.val with
  | false =>
    rw [applySetting_plain acted]
    exact within_of_quiet rfl rfl ⟨_, _, _, rfl⟩ (fun h => inRange_putSetting h low high) rfl
  | true =>
    obtain ⟨decrease, stagger⟩ := acted_ne acted
    have changes := changes_applySetting k v s
    have begins : Begins s (s.putSetting k v) :=
      ⟨rfl, rfl, rfl, putSetting_setting_other s v decrease, putSetting_setting_other s v stagger, rfl,
        fun h => inRange_putSetting h low high⟩
    exact begins.within ⟨(keeps_applySetting k v s).all, changes .revs (by decide), changes .hold (by decide),
      s.port.table, s.port.composing, changes .port (by decide), id⟩

theorem inRange_putThreshold {s : State} (h : s.InRange) {z : Zone} {field v : Nat}
    (order : ((s.cool.zones.get z).limits.put field v).ordered = true) : (s.putThreshold z field v).InRange := by
  refine ⟨h.partTime, h.table, h.heading, h.settings, fun w hw => ?_, h.revs⟩
  by_cases same : w = z
  · subst same
    rw [putThreshold_self]
    exact order
  · rw [putThreshold_other same]
    exact h.ordered w hw

theorem within_applyThreshold {s : State} {z : Zone} {field v : Nat}
    (order : ((s.cool.zones.get z).limits.put field v).ordered = true) : Within s (s.applyThreshold z field v) := by
  have begins : Begins s (s.putThreshold z field v) :=
    ⟨rfl, rfl, rfl, rfl, rfl, rfl, fun h => inRange_putThreshold h order⟩
  rw [applyThreshold_eq]
  exact begins.within (mild_of_changes (keeps_evaluateZones _ _).all (changes_evaluateZones _ _).mono)

theorem within_applyWrite {s : State} {w : WriteTarget} {v : Int} (bounds : w.inBounds v = true)
    (cross : s.crossFits w v.toNat = true) : Within s (s.applyWrite w v.toNat) := by
  cases w with
  | setting k =>
    obtain ⟨low, high⟩ := (inBounds_setting k v).mp bounds
    exact within_applySetting (by omega) (by omega)
  | zone z field => exact within_applyThreshold cross
  | condition i field => exact (mild_setRec s i _).within

theorem within_writeRecord (field : Nat) (v : Int) (s : State) (table index : Nat) :
    Within s (writeRecord field v s table index).state := by
  have refused : Within s s := (Mild.refl s).within
  unfold writeRecord
  split
  · exact refused
  split
  · exact refused
  · next w _ =>
    split
    · exact refused
    · next checks =>
      obtain ⟨bounds, cross⟩ : w.inBounds v = true ∧ s.crossFits w v.toNat = true := by simpa using checks
      split
      · exact (mild_report s _).within
      split
      · exact refused
      · exact within_applyWrite bounds cross

theorem within_doWrite (h : Handle) (g : Option Nat) (field : Nat) (v : Int) (s : State) :
    Within s (doWrite h g field v s).state :=
  withRecord_state (P := Within s) (mild_resolve h s).within fun _ _ => (within_writeRecord _ _ _ _ _).of_resolved

theorem within_doRestoreYaw (heading : Nat) (twist : Int) (s : State) :
    Within s (doRestoreYaw heading twist s).state := by
  unfold doRestoreYaw
  split
  · exact (Mild.refl s).within
  split
  · exact (Mild.refl s).within
  · next inRange =>
    have low : heading < 36000 := by
      simp only [restoreInRange, Bool.not_eq_true', decide_eq_false_iff_not, not_not] at inRange
      omega
    have begins : Begins s { s with yaw := { s.yaw with known := true, heading := heading, twist := twist } } :=
      ⟨rfl, rfl, rfl, rfl, rfl, rfl, fun h => ⟨h.partTime, h.table, low, h.settings, h.ordered, h.revs⟩⟩
    exact begins.within (mild_report _ _)

theorem within_doFreeze (s : State) : Within s (doFreeze s).state :=
  within_of_quiet rfl rfl ⟨_, _, _, rfl⟩
    (fun h => ⟨h.partTime, h.table, h.heading, h.settings, h.ordered, h.revs⟩) rfl

theorem within_doRestart (s : State) : Within s (doRestart s).state :=
  within_of_quiet rfl rfl ⟨s.port.table, s.port.composing, true, rfl⟩
    (fun h => ⟨h.partTime, h.table, h.heading, h.settings, h.ordered, h.revs⟩) rfl

/-! ### Every item -/

/-- What an item does at its block (R181). -/
def itemBody (c : Instr) : State → Answer :=
  match c with
  | .selectTable table => doSelect table
  | .readFields h first count => doRead h first count
  | .writeField h g field v => doWrite h g field v
  | .openClaim h priority asked tag => doOpen h priority asked tag
  | .amendClaim h g asked => doAmend h g asked
  | .takeClaim h => doTake h
  | .retireClaim h g => doRetireClaim h g
  | .beginRoute h => doBegin h
  | .segment kind target direction speed dwell => doSegment kind target direction speed dwell
  | .endRoute => doEndRoute
  | .abandonRoute => doAbandon
  | .runRoute h g => doRun h g
  | .stopYaw => doStopYaw
  | .retireRoute h g => doRetireRoute h g
  | .restoreYaw heading twist => doRestoreYaw heading twist
  | .charge => doCharge
  | .start => doStart
  | .stopConverter => doStop
  | .discharge => doDischarge
  | .clearTrip => doClearTrip
  | .acknowledge h g => doAcknowledge h g
  | .acknowledgeLine line => doAcknowledgeLine line
  | .freeze => doFreeze
  | .restart => doRestart
  | _ => doUnknown

theorem exec_item {c : Instr} (item : c.isItem = true) (s : State) : exec c s = runItem c (itemBody c) s := by
  cases c <;> first | rfl | exact nomatch item

/-- The items that touch neither the store, the yaw's place nor the RESTART due. -/
def mildItem (c : Instr) : Bool :=
  match c with
  | .writeField _ _ _ _ | .restoreYaw _ _ | .freeze | .restart => false
  | _ => true

theorem mild_itemBody {c : Instr} (mild : mildItem c = true) (s : State) : Mild s (itemBody c s).state := by
  unfold itemBody
  split
  case h_1 => exact mild_doSelect _ s
  case h_2 => exact mild_withRecord fun u t i => mild_readRecord _ _ u t i
  case h_3 => exact nomatch mild
  case h_4 => exact mild_withTable fun u i => mild_openConsumer _ _ _ u i
  case h_5 => exact mild_withTable fun u i => mild_amendSlot _ u i
  case h_6 => exact mild_withTable fun u i => mild_takeSlot u i
  case h_7 => exact mild_withTable fun u i => mild_retireSlot u i
  case h_8 => exact mild_withTable fun u i => mild_beginOn u i
  case h_9 => exact mild_doSegment _ _ _ _ _ s
  case h_10 => exact mild_doEndRoute s
  case h_11 => exact mild_doAbandon s
  case h_12 => exact mild_withTable fun u i => mild_runOn u i
  case h_13 => exact mild_doStopYaw s
  case h_14 => exact mild_withTable fun u i => mild_retireOn u i
  case h_15 => exact nomatch mild
  case h_16 => exact mild_doCharge s
  case h_17 => exact mild_doStart s
  case h_18 => exact mild_doStop s
  case h_19 => exact mild_doDischarge s
  case h_20 => exact mild_doClearTrip s
  case h_21 => exact mild_withTable fun u i => mild_acknowledgeOn u i
  case h_22 => exact mild_doAcknowledgeLine _ s
  case h_23 => exact nomatch mild
  case h_24 => exact nomatch mild
  case h_25 => exact Mild.refl s

theorem within_itemBody (c : Instr) (s : State) : Within s (itemBody c s).state := by
  cases mild : mildItem c with
  | true => exact (mild_itemBody mild s).within
  | false =>
    match c, mild with
    | .writeField h g field v, _ => exact within_doWrite h g field v s
    | .restoreYaw heading twist, _ => exact within_doRestoreYaw heading twist s
    | .freeze, _ => exact within_doFreeze s
    | .restart, _ => exact within_doRestart s

theorem applyWrite_port (s : State) (w : WriteTarget) (v : Nat) : (s.applyWrite w v).port = s.port := by
  cases w with
  | setting k => exact changes_applySetting k v s .port (by decide)
  | zone z field => exact changes_applyThreshold z field v s .port (by decide)
  | condition i field => rfl

theorem writeRecord_port (field : Nat) (v : Int) (s : State) (table index : Nat) :
    (writeRecord field v s table index).state.port = s.port := by
  unfold writeRecord
  split
  · rfl
  split
  · rfl
  split
  · rfl
  split
  · exact changes_report s _ .port (by decide)
  split
  · rfl
  · exact applyWrite_port s _ _

theorem doRestoreYaw_port (heading : Nat) (twist : Int) (s : State) :
    (doRestoreYaw heading twist s).state.port = s.port := by
  unfold doRestoreYaw
  split
  · rfl
  split
  · rfl
  · exact changes_report _ _ .port (by decide)

theorem doRestoreYaw_store (heading : Nat) (twist : Int) (s : State) :
    (doRestoreYaw heading twist s).state.store = s.store := by
  unfold doRestoreYaw
  split
  · rfl
  split
  · rfl
  · exact changes_report _ _ .store (by decide)

theorem Mild.restartDue {s u : State} (m : Mild s u) : u.port.restartDue = s.port.restartDue := by
  obtain ⟨n, r, e, -⟩ := m.port
  rw [e]

/-- RESTART alone makes a reset due (R183). -/
theorem itemBody_restartDue {c : Instr} (other : c ≠ .restart) (s : State) :
    (itemBody c s).state.port.restartDue = s.port.restartDue := by
  cases mild : mildItem c with
  | true => exact (mild_itemBody mild s).restartDue
  | false =>
    match c, mild with
    | .writeField h g field v, _ =>
      exact withRecord_state (P := fun u => u.port.restartDue = s.port.restartDue) (mild_resolve h s).restartDue
        fun _ _ => (congrArg Port.restartDue (writeRecord_port _ _ _ _ _)).trans (mild_resolve h s).restartDue
    | .restoreYaw heading twist, _ => exact congrArg Port.restartDue (doRestoreYaw_port heading twist s)
    | .freeze, _ => rfl
    | .restart, _ => exact absurd rfl other

/-- WRITE FIELD alone changes the settings (R9). -/
theorem itemBody_settings {c : Instr} (other : ∀ h g f v, c ≠ .writeField h g f v) (s : State) :
    (itemBody c s).state.store.settings = s.store.settings := by
  cases mild : mildItem c with
  | true => rw [(mild_itemBody mild s).calm.store]
  | false =>
    match c, mild with
    | .writeField h g field v, _ => exact absurd rfl (other h g field v)
    | .restoreYaw heading twist, _ =>
      exact congrArg Store.settings (doRestoreYaw_store heading twist s)
    | .freeze, _ => rfl
    | .restart, _ => rfl

/-! ### The encoder (R137) -/

theorem count_heading (cw : Bool) (y : Yaw) : (y.count cw).heading < 36000 := by
  unfold Yaw.count
  split <;> exact Nat.mod_lt _ (by decide)

theorem within_encoderStep (cw : Bool) (s : State) : Within s (State.encoderStep cw s) := by
  have begins : Begins s { s with yaw := s.yaw.count cw } :=
    ⟨rfl, rfl, rfl, rfl, rfl, rfl, fun h => ⟨h.partTime, h.table, count_heading _ _, h.settings, h.ordered, h.revs⟩⟩
  unfold State.encoderStep
  split
  · refine begins.within ?_
    generalize ({ s with yaw := s.yaw.count cw } : State) = b
    have turned : Mild b b.judgeTurn := mild_of_changes (calm_judgeTurn _) (changes_judgeTurn _).mono
    have judged : Mild b.judgeTurn b.judgeTurn.judgeUntwist :=
      mild_of_changes (calm_judgeUntwist _) (changes_judgeUntwist _).mono
    exact (turned.trans judged).trans (mild_report _ _)
  · exact (Mild.refl s).within

theorem within_encoderMoves (a b : Bool) (s : State) : Within s (State.encoderMoves a b s) := by
  have pins : Begins s { s with inputs := { s.inputs with phaseA := a, phaseB := b } } :=
    ⟨rfl, rfl, rfl, rfl, rfl, rfl, fun h => inRange_inputs h _⟩
  unfold State.encoderMoves
  simp only
  split
  · exact pins.within (Mild.refl _)
  · exact pins.before (within_encoderStep _ _)

end Sys2Proof.Machine
end

section
/-!
What a command does, but for the beginning and the end of a reset: nothing but a transfer, a pin or part time; one event; or
an item, whose event is followed by its entry in the response.
-/
namespace Sys2Proof.Machine

/-! ### The relation -/

/-- A change outside any event: no held field and no revision moves. -/
structure Apart (s t : State) : Prop where
  revs : t.revs = s.revs
  settings : t.store.settings = s.store.settings
  ev : t.ev = s.ev
  snapshot : t.snapshot = s.snapshot
  ranges : s.InRange → t.InRange

theorem Apart.refl (s : State) : Apart s s := ⟨rfl, rfl, rfl, rfl, id⟩

theorem apart_port (s : State) {p : Port} (form : p.form = s.port.form) (addr : p.addrHigh = s.port.addrHigh)
    (table : p.table = s.port.table) : Apart s { s with port := p } :=
  ⟨rfl, rfl, rfl, snapshot_port form addr,
    fun h => ⟨h.partTime, table ▸ h.table, h.heading, h.settings, h.ordered, h.revs⟩⟩

theorem apart_inputs (s : State) (i : Inputs) : Apart s { s with inputs := i } :=
  ⟨rfl, rfl, rfl, rfl, fun h => inRange_inputs h i⟩

/-- How a command `c` that begins and ends no reset takes `s` to its next state. -/
inductive Runs (c : Instr) (s : State) : State → Prop
  | apart {t : State} : Apart s t → Runs c s t
  | event {b u : State} : Apart s b → Within b u → Runs c s (finishEvent b u)
  | item {b u : State} (entry : List Byte) : Apart s b → Within b u →
      (c ≠ .restart → u.port.restartDue = s.port.restartDue) → Runs c s ((finishEvent b u).addEntry entry)

/-! ### Events -/

theorem runs_arrival {c : Instr} {s t u : State} {idle : Bool} (m : Mild s u)
    (e : (if idle then .next s else .next (finishEvent s u) : Result) = .next t) : Runs c s t := by
  split at e <;> cases e
  · exact .apart (Apart.refl s)
  · exact .event (Apart.refl s) m.within

theorem mild_lapse (s : State) (i : Fin 16) : Mild s (State.lapse i s) :=
  Mild.ite ((mild_claimRequest s _).trans (mild_report _ _)) (Mild.refl s)

theorem mild_firstEvaluation (s : State) : Mild s s.firstEvaluation := by
  have cool : Changes [.cool] s { s with cool := { s.cool with firstEval := none } } := by
    intro p hp
    cases p <;> first | rfl | exact absurd (by decide) hp
  exact mild_of_changes (calm_firstEvaluation s) (cool.mono.trans (changes_evaluateZones _ _).mono)

theorem mild_shortCloses (s : State) : Mild s s.shortCloses := by
  unfold State.shortCloses
  split
  · exact Mild.refl s
  · exact mild_of_changes (calm_closeShort s _) (changes_closeShort s _).mono

theorem mild_longCloses (s : State) : Mild s s.longCloses := by
  unfold State.longCloses
  split
  · exact Mild.refl s
  · exact mild_of_changes (calm_closeLong s _) (changes_closeLong s _).mono

theorem mild_conditionTimer (s : State) (i : Fin 32) : Mild s (State.conditionTimer i s) := by
  unfold State.conditionTimer
  split
  · exact (mild_of_changes (keeps_putRec s i _).all (changes_putRec s i _).mono).trans (mild_judge _)
  · exact mild_setRec s i _

theorem mild_changeSupply (s : State) (n : SupplyState) (k : Option Nat) :
    Mild s (State.supplyMoved (State.changeSupply n k) s) :=
  mild_of_changes (calm_supplyMoved (calm_changeSupply s n k)) (changes_supplyMoved s _ (changes_changeSupply s n k)).mono

theorem runs_staggerTimerExpiry {c : Instr} {s t : State} (e : execStaggerTimerExpiry s = .next t) : Runs c s t := by
  have idle : Apart s { s with app := { s.app with stagger := none } } :=
    ⟨rfl, rfl, rfl, rfl, fun h => ⟨h.partTime, h.table, h.heading, h.settings, h.ordered, h.revs⟩⟩
  unfold execStaggerTimerExpiry event at e
  split at e
  · cases e
    exact .apart (Apart.refl s)
  split at e <;> cases e
  · exact .apart idle
  · exact .event idle (mild_of_changes (keeps_grantOpportunity _).all (changes_grantOpportunity _).mono).within

theorem runs_meterFrame {c : Instr} {s t : State} {bytes : List Byte} (e : execMeterFrame bytes s = .next t) :
    Runs c s t := by
  unfold execMeterFrame at e
  split at e <;> cases e
  · exact .apart (Apart.refl s)
  · exact .event (Apart.refl s) (mild_of_changes (calm_acceptFrame s bytes) (changes_acceptFrame s bytes).mono).within

theorem runs_encoderTransition {c : Instr} {s t : State} {a b : Bool} (e : execEncoderTransition a b s = .next t) :
    Runs c s t := by
  unfold execEncoderTransition at e
  split at e <;> cases e
  · exact .apart (apart_inputs s _)
  · exact .event (Apart.refl s) (within_encoderMoves a b s)

/-! ### Transfers, pins and part time -/

theorem apart_takeFrame (s : State) (o : FrameOutcome) : Apart s (s.takeFrame o) := by
  cases o with
  | fetch => exact apart_port s rfl rfl rfl
  | refused st => exact apart_port s rfl rfl rfl
  | request items => exact apart_port s rfl rfl rfl

theorem Apart.trans {s t u : State} (h : Apart s t) (k : Apart t u) : Apart s u :=
  ⟨k.revs.trans h.revs, k.settings.trans h.settings, k.ev.trans h.ev, k.snapshot.trans h.snapshot,
    fun i => k.ranges (h.ranges i)⟩

theorem apart_shiftOut (s : State) (bytes : Option (List Byte)) : Apart s (s.shiftOut bytes) := apart_port s rfl rfl rfl

theorem Apart.ite {s a b : State} {c : Prop} [Decidable c] (ha : Apart s a) (hb : Apart s b) :
    Apart s (if c then a else b) := by
  split <;> assumption

theorem apart_shiftOut_takeFrame (s : State) (bytes : Option (List Byte)) (o : FrameOutcome) :
    Apart s ((s.shiftOut bytes).takeFrame o) := (apart_shiftOut s bytes).trans (apart_takeFrame _ o)

theorem apart_select (start : TransferStart) (bytes : List Byte) (part : Bool) (s : State) :
    Apart s (State.select start bytes part s) := by
  cases start with
  | beforeRelease => exact apart_shiftOut s _
  | whileExecuting => exact apart_shiftOut s _
  | fresh => exact .ite (apart_shiftOut s _) (.ite (apart_shiftOut s _) (apart_shiftOut_takeFrame s _ _))

theorem apart_wireWrite (start : TransferStart) (address : Nat) (bytes : List Byte) (s : State) :
    Apart s (State.wireWrite start address bytes s) := by
  refine .ite (apart_shiftOut s _) ?_
  cases start with
  | beforeRelease => exact apart_shiftOut s _
  | whileExecuting => exact apart_shiftOut s _
  | fresh => exact .ite (apart_shiftOut s _) (.ite (apart_shiftOut s _) (apart_shiftOut_takeFrame s _ _))

theorem apart_wireRead (start : TransferStart) (address n : Nat) (s : State) :
    Apart s (State.wireRead start address n s) := by
  refine .ite (apart_shiftOut s _) ?_
  cases start <;> exact apart_shiftOut s _

theorem apart_transfer (x : Transfer) (s : State) : Apart s (State.transfer x s) := by
  unfold State.transfer
  split
  · exact apart_select _ _ _ s
  · exact apart_wireWrite _ _ _ s
  · exact apart_wireRead _ _ _ s
  all_goals exact apart_shiftOut s _

theorem runs_linkFrame {c : Instr} {s t : State} {x : Transfer} (e : execLinkFrame x s = .next t) : Runs c s t := by
  unfold execLinkFrame at e
  split at e <;> cases e
  · exact .apart (apart_shiftOut s _)
  · exact .apart (apart_transfer x s)

theorem apart_heldPin (x : PinChange) (s : State) : Apart s (State.heldPin x s) := by
  cases x <;> exact apart_inputs s _

theorem apart_pinChanges (x : PinChange) (s : State) : Apart s (State.pinChanges x s) := by
  cases x with
  | line l level => exact .ite (Apart.refl s) (apart_inputs s _)
  | linksel f => exact apart_inputs s _
  | addr high => exact apart_inputs s _
  | warmsel high => exact apart_inputs s _

theorem runs_rawLineChange {c : Instr} {s t : State} {x : PinChange} (e : execRawLineChange x s = .next t) :
    Runs c s t := by
  unfold execRawLineChange at e
  split at e <;> cases e
  · exact .apart (apart_heldPin x s)
  · exact .apart (apart_pinChanges x s)

theorem runs_partTimeTick {c : Instr} {s t : State} (e : execPartTimeTick s = .next t) : Runs c s t := by
  have second : Apart s { s with store := s.store.second } := ⟨rfl, rfl, rfl, rfl, inRange_second⟩
  unfold execPartTimeTick at e
  split at e <;> cases e
  · exact .apart (Apart.refl s)
  · exact .apart second

/-! ### Items -/

theorem within_answerItem (c : Instr) (s : State) : Within s (answerItem c (itemBody c) s).state := by
  unfold answerItem
  split
  · exact (Mild.refl s).within
  · exact within_itemBody c s

theorem answerItem_restartDue {c : Instr} (other : c ≠ .restart) (s : State) :
    (answerItem c (itemBody c) s).state.port.restartDue = s.port.restartDue := by
  unfold answerItem
  split
  · rfl
  · exact itemBody_restartDue other s

theorem runs_item {c : Instr} {s t : State} (item : c.isItem = true) (e : exec c s = .next t) : Runs c s t := by
  have executed {b : State} (a : Apart s b) (due : b.port.restartDue = s.port.restartDue) :
      Runs c s (b.executeItem c (itemBody c)) :=
    .item _ a (within_answerItem c b) fun other => (answerItem_restartDue other b).trans due
  rw [exec_item item] at e
  unfold runItem at e
  split at e
  · cases e
    exact .apart (Apart.refl s)
  split at e
  · split at e
    · cases e
      exact .apart (Apart.refl s)
    · split at e <;> cases e
      · exact executed (apart_port s rfl rfl rfl) rfl
      · exact .apart (Apart.refl s)
  · cases e
    exact executed (apart_port s rfl rfl rfl) rfl

/-- Every command that begins and ends no reset. -/
theorem exec_runs {c : Instr} {s t : State} (free : c.resets = false ∨ c = .restart) (e : exec c s = .next t) :
    Runs c s t := by
  cases item : c.isItem with
  | true => exact runs_item item e
  | false =>
    cases c
    case linkFrame => exact runs_linkFrame e
    case meterFrame => exact runs_meterFrame e
    case rawLineChange => exact runs_rawLineChange e
    case encoderTransition => exact runs_encoderTransition e
    case partTimeTick => exact runs_partTimeTick e
    case staggerTimerExpiry => exact runs_staggerTimerExpiry e
    case staleTimerExpiry => exact runs_arrival (mild_of_changes (calm_streamStale s) (changes_streamStale s).mono) e
    case slowChannelAgeExpiry c =>
      exact runs_arrival (mild_of_changes (calm_channelStale s c) (changes_channelStale s c).mono) e
    case filterTimerExpiry l =>
      exact runs_arrival (mild_of_changes (calm_filterExpired s l) (changes_filterExpired s l).mono) e
    case collectionDeadlineExpiry i => exact runs_arrival (mild_lapse s i) e
    case recoveryHoldExpiry => exact runs_arrival (mild_changeSupply s _ _) e
    case reconnectionHoldExpiry => exact runs_arrival (mild_changeSupply s _ _) e
    case prechargeTimerExpiry =>
      exact runs_arrival (mild_of_changes (calm_prechargeExpired s) (changes_prechargeExpired s).mono) e
    case breakerTimerExpiry =>
      exact runs_arrival (mild_of_changes (calm_breakerExpired s) (changes_breakerExpired s).mono) e
    case dischargeTimerExpiry =>
      exact runs_arrival (mild_of_changes (calm_dischargeExpired s) (changes_dischargeExpired s).mono) e
    case chopperDecayExpiry => exact runs_arrival (mild_of_changes (calm_decay s) (changes_decay s).mono) e
    case firstEvaluationTimerExpiry => exact runs_arrival (mild_firstEvaluation s) e
    case decreaseHoldExpiry z =>
      exact runs_arrival (mild_of_changes (keeps_holdExpired s z).all (changes_holdExpired s z).mono) e
    case flowWindowExpiry p => exact runs_arrival (mild_of_changes (keeps_flowLost s p) (changes_flowLost s p).mono) e
    case flowLossTimerExpiry p =>
      exact runs_arrival (mild_of_changes (keeps_flowLost s p) (changes_flowLost s p).mono) e
    case shortWindowClose => exact runs_arrival (mild_shortCloses s) e
    case longWindowClose => exact runs_arrival (mild_longCloses s) e
    case claimWaitExpiry =>
      exact runs_arrival (mild_of_changes (calm_claimWaitExpired s) (changes_claimWaitExpired s).mono) e
    case releaseTimerExpiry =>
      exact runs_arrival (mild_of_changes (calm_releaseExpired s) (changes_releaseExpired s).mono) e
    case idleTimerExpiry => exact runs_arrival (mild_of_changes (calm_stalled s) (changes_stalled s).mono) e
    case budgetTimerExpiry => exact runs_arrival (mild_of_changes (calm_stalled s) (changes_stalled s).mono) e
    case settleTimerExpiry =>
      exact runs_arrival (mild_of_changes (calm_settleExpired s) (changes_settleExpired s).mono) e
    case applyTimerExpiry => exact runs_arrival (mild_of_changes (calm_applyExpired s) (changes_applyExpired s).mono) e
    case dwellTimerExpiry => exact runs_arrival (mild_of_changes (calm_dwellExpired s) (changes_dwellExpired s).mono) e
    case onsetDelayExpiry i => exact runs_arrival (mild_conditionTimer s i) e
    case repeatIntervalExpiry i => exact runs_arrival (mild_conditionTimer s i) e
    case powerUp => simp [Instr.resets] at free
    case powerUpSequenceComplete => simp [Instr.resets] at free
    case resetnAssert => simp [Instr.resets] at free
    case resetnRelease => simp [Instr.resets] at free
    all_goals exact nomatch item

end Sys2Proof.Machine
end

section
/-!
The laws that every step keeps, of the ranges and of the revisions (R5).
-/
namespace Sys2Proof.Machine

/-! ### The entry of an item (R180, R183) -/

/-- The port once the last entry of a frame is added. -/
def Port.ended (entry : List Byte) (p : Port) : Port :=
  { p with
    prepared := responseFrame p.itemCount (p.entries ++ entry), executing := false, entries := [], itemCount := 0 }

theorem addEntry_of_more {s : State} (more : s.port.items.isEmpty = false) (entry : List Byte) :
    s.addEntry entry = { s with port := { s.port with entries := s.port.entries ++ entry } } := by
  simp [State.addEntry, more]

theorem addEntry_of_end {s : State} (last : s.port.items.isEmpty = true) (entry : List Byte) :
    s.addEntry entry =
      if s.port.restartDue then ({ s with port := s.port.ended entry } : State).warmRestart
      else { s with port := s.port.ended entry } := by
  simp [State.addEntry, last, State.endFrame, Port.ended]

theorem inRange_warmRestart {s : State} (h : s.InRange) : s.warmRestart.InRange :=
  inRange_endReset (inRange_beginReset h .warm .warmLink)

theorem warmRestart_ev (s : State) : s.warmRestart.ev = Scratch.empty := endReset_ev _ rfl

theorem apart_ended (s : State) (entry : List Byte) : Apart s { s with port := s.port.ended entry } :=
  apart_port s rfl rfl rfl

theorem apart_entries (s : State) (entries : List Byte) : Apart s { s with port := { s.port with entries := entries } } :=
  apart_port s rfl rfl rfl

theorem carried_addEntry {s : State} (h : Carried s) (entry : List Byte) : Carried (s.addEntry entry) := by
  obtain ⟨inRange, ev⟩ := (carried_iff s).mp h
  cases last : s.port.items.isEmpty with
  | false =>
    rw [addEntry_of_more last, carried_iff]
    exact ⟨(apart_entries s _).ranges inRange, ev⟩
  | true =>
    have ended := (apart_ended s entry).ranges inRange
    rw [addEntry_of_end last, carried_iff]
    split
    · exact ⟨inRange_warmRestart ended, warmRestart_ev _⟩
    · exact ⟨ended, ev⟩

/-! ### Every step keeps the ranges -/

theorem carried_finishEvent {s : State} (h : s.InRange) (before : State) : Carried (finishEvent before s) :=
  (carried_iff _).mpr ⟨inRange_finishEvent h before, finishEvent_ev before s⟩

theorem Runs.carried {c : Instr} {s t : State} (r : Runs c s t) (h : Carried s) : Carried t := by
  obtain ⟨inRange, ev⟩ := (carried_iff s).mp h
  cases r with
  | apart a => exact (carried_iff t).mpr ⟨a.ranges inRange, a.ev.trans ev⟩
  | event a w => exact carried_finishEvent (w.ranges (a.ranges inRange)) _
  | item entry a w _ => exact carried_addEntry (carried_finishEvent (w.ranges (a.ranges inRange)) _) entry

theorem carried_inputs {s : State} (h : Carried s) (i : Inputs) : Carried { s with inputs := i } := by
  obtain ⟨inRange, ev⟩ := (carried_iff s).mp h
  exact (carried_iff _).mpr ⟨inRange_inputs inRange i, ev⟩

theorem carried_beginReset {s : State} (h : Carried s) (kind : ResetKind) (cause : ResetCause) :
    Carried (s.beginReset kind cause) :=
  (carried_iff _).mpr ⟨inRange_beginReset ((carried_iff s).mp h).1 kind cause, rfl⟩

theorem carried_endReset {s : State} (h : Carried s) : Carried s.endReset := by
  obtain ⟨inRange, ev⟩ := (carried_iff s).mp h
  exact (carried_iff _).mpr ⟨inRange_endReset inRange, endReset_ev s ev⟩

/-- The commands that begin or end a reset (R19). -/
theorem carried_reset_command {c : Instr} {s t : State} (resets : c.resets = true) (other : c ≠ .restart)
    (h : Carried s) (e : exec c s = .next t) : Carried t := by
  match c, resets with
  | .restart, _ => exact absurd rfl other
  | .powerUp _, _ =>
    cases e
    exact carried_beginReset (carried_inputs h _) _ _
  | .powerUpSequenceComplete, _ =>
    change execPowerUpSequenceComplete s = .next t at e
    unfold execPowerUpSequenceComplete at e
    split at e <;> cases e
    · exact carried_endReset h
    · exact h
  | .resetnAssert, _ =>
    change execResetnAssert s = .next t at e
    unfold execResetnAssert at e
    simp only at e
    split at e
    · cases e
      exact h
    split at e <;> cases e
    · exact carried_inputs h _
    · exact carried_beginReset (carried_inputs h _) _ _
  | .resetnRelease, _ =>
    change execResetnRelease s = .next t at e
    unfold execResetnRelease at e
    split at e <;> cases e
    · exact carried_endReset (carried_inputs h _)
    · exact h

theorem carried_exec {c : Instr} {s t : State} (h : Carried s) (e : exec c s = .next t) : Carried t := by
  by_cases restart : c = .restart
  · exact (exec_runs (.inr restart) e).carried h
  · cases resets : c.resets with
    | true => exact carried_reset_command resets restart h e
    | false => exact (exec_runs (.inl resets) e).carried h

theorem carried_tick {s : State} (h : Carried s) : Carried s.tick := by
  obtain ⟨inRange, ev⟩ := (carried_iff s).mp h
  exact (carried_iff _).mpr ⟨inRange_tick inRange, ev⟩

theorem carried_idle {s t : State} (h : Carried s) (e : idle s = .next t) : Carried t := by
  unfold idle at e
  split at e
  · cases e
    exact carried_tick h
  · exact carried_exec h e
  · split at e
    · cases e
      exact h
    · exact carried_exec (s := { s with choices := s.choices + 1 }) h e

/-- Settles O6: the ranges hold at the end of every event (`inRange_finishEvent`), of every reset and of a millisecond. -/
theorem stepKeepsRanges : Obligations.StepKeepsRanges := by
  intro s t h e
  unfold step at e
  split at e
  · next rest _ => exact carried_exec (s := { s with pending := rest }) h e
  · split at e
    · split at e
      · exact carried_exec h e
      · exact carried_idle h e
    · exact carried_idle h e

end Sys2Proof.Machine
end

section
/-!
The revisions follow the held fields (R5): an event compares the state it ends in with the one it began in.
-/
namespace Sys2Proof.Machine

/-! ### Held fields and the snapshot -/

theorem heldOf_of_snapshot {s t : State} (h : t.snapshot = s.snapshot) {table index : Nat}
    (hi : index < tableCount table) : t.heldOf table index = s.heldOf table index := by
  have ht := tableCount_pos hi
  have row : (List.range (tableCount table)).map (t.heldOf table) = (List.range (tableCount table)).map (s.heldOf table) := by
    have same : t.snapshot[table]? = s.snapshot[table]? := by rw [h]
    rw [snapshot_getElem? t ht, snapshot_getElem? s ht] at same
    exact Option.some.inj same
  exact List.map_eq_map_iff.mp row index (List.mem_range.mpr hi)

/-- The law of R5 between two states: the revision moves by one exactly where a held field differs. -/
def RevisionFollows (s t : State) (table index : Nat) : Prop :=
  t.revision table index =
    if s.heldOf table index = t.heldOf table index then s.revision table index
    else (s.revision table index + 1) % 256

theorem Apart.follows {s t : State} (a : Apart s t) {table index : Nat} (hi : index < tableCount table) :
    RevisionFollows s t table index := by
  unfold RevisionFollows
  rw [heldOf_of_snapshot a.snapshot hi, if_pos rfl, State.revision, a.revs]
  rfl

/-- The end of an event. -/
theorem closeEvent_follows {s u : State} (kept : RevisionsKept s) (revs : u.revs = s.revs) {table index : Nat}
    (hi : index < tableCount table) : RevisionFollows s (closeEvent s u) table index := by
  unfold RevisionFollows
  rw [State.revision, closeEvent_revs, revs]
  exact bumpAll_revision kept.1 s _ (tableCount_pos hi) hi

/-- A change outside any event, before or after one, makes no difference to the law. -/
theorem RevisionFollows.of_apart {s b u t : State} {table index : Nat} (h : RevisionFollows b u table index)
    (before : Apart s b) (after : Apart u t) (hi : index < tableCount table) : RevisionFollows s t table index := by
  unfold RevisionFollows at h ⊢
  rw [State.revision, State.revision, before.revs, heldOf_of_snapshot before.snapshot hi] at h
  rw [State.revision, after.revs, heldOf_of_snapshot after.snapshot hi]
  exact h

/-! ### A command -/

theorem Apart.setting {s b : State} (a : Apart s b) (k : Fin 86) : b.setting k = s.setting k := by
  rw [State.setting, State.setting, a.settings]

/-- Where no timer is started at 0, a command is one event. -/
theorem finishEvent_follows {s b u : State} (kept : RevisionsKept s) (decrease : 1 ≤ s.setting Setting.levelDecreaseHold)
    (stagger : 1 ≤ s.setting Setting.stagger) (ev : s.ev = Scratch.empty) (a : Apart s b) (w : Within b u)
    {table index : Nat} (hi : index < tableCount table) : RevisionFollows b (finishEvent b u) table index := by
  obtain ⟨holds, idle⟩ := w.timers (by rw [a.setting]; exact decrease) (by rw [a.setting]; exact stagger) (a.ev.trans ev)
  rw [finishEvent_of_noZeroTimer holds (.inl idle)]
  exact closeEvent_follows (revisionsKept_of_eq kept a.revs) w.revs hi

theorem apart_addEntry {s : State} (due : s.port.restartDue = false) (entry : List Byte) :
    Apart s (s.addEntry entry) := by
  cases last : s.port.items.isEmpty with
  | false =>
    rw [addEntry_of_more last]
    exact apart_entries s _
  | true =>
    rw [addEntry_of_end last, due]
    exact apart_ended s entry

theorem Runs.follows {c : Instr} {s t : State} (r : Runs c s t) (kept : RevisionsKept s) (ev : s.ev = Scratch.empty)
    (due : s.port.restartDue = false) (other : c ≠ .restart) (decrease : 1 ≤ s.setting Setting.levelDecreaseHold)
    (stagger : 1 ≤ s.setting Setting.stagger) {table index : Nat} (hi : index < tableCount table) :
    RevisionFollows s t table index := by
  cases r with
  | apart a => exact a.follows hi
  | event a w => exact (finishEvent_follows kept decrease stagger ev a w hi).of_apart a (Apart.refl _) hi
  | @item b u entry a w keepsDue =>
    have idle : (finishEvent b u).port.restartDue = false := by
      rw [finishEvent_port, keepsDue other]
      exact due
    exact (finishEvent_follows kept decrease stagger ev a w hi).of_apart a (apart_addEntry idle entry) hi

/-! ### A millisecond -/

theorem tick_claim (s : State) (i : Fin 16) :
    s.tick.claim i = { s.claim i with offerLeft := countDown (s.claim i).offerLeft } := by
  simp [State.tick, Apportioner.tick, State.claim]

theorem tick_isHeld (s : State) (i : Fin 16) : s.tick.isHeld i = s.isHeld i := by
  show ((s.tick.claim i).state == _) = _
  rw [tick_claim]
  rfl

theorem tick_record (s : State) (i : Fin 32) :
    s.tick.cond.recs[i] = { s.cond.recs[i] with timer := countDown (s.cond.recs[i]).timer } := by
  simp [State.tick, Conditions.tick]

theorem tick_zone (s : State) (z : Zone) : s.tick.cool.zones.get z = (s.cool.zones.get z).tick := by
  cases z <;> rfl

theorem tick_claims (s : State) :
    s.tick.app.claims = s.app.claims.map fun c => { c with offerLeft := countDown c.offerLeft } := by
  ext i hi : 1
  simp [State.tick, Apportioner.tick]

theorem tick_grantedSum (s : State) : s.tick.app.grantedSum = s.app.grantedSum := by
  unfold Apportioner.grantedSum
  rw [tick_claims, Vector.toList_map, List.filter_map, List.map_map]
  rfl

theorem tick_inForceBy (s : State) (carries : Consequences → Bool) :
    s.tick.cond.inForceBy carries = s.cond.inForceBy carries := by
  have recs : s.tick.cond.recs = s.cond.recs.map fun r => { r with timer := countDown r.timer } := by
    ext i hi : 1
    simp [State.tick, Conditions.tick]
  unfold Conditions.inForceBy
  rw [recs, Vector.toList_map, List.zip_map_right, List.any_map]
  rfl

theorem tick_pulsePermit (s : State) : s.tick.pulsePermit = s.pulsePermit := by
  unfold State.pulsePermit State.tripInForce State.holdInForce
  rw [tick_isHeld, tick_inForceBy, tick_inForceBy]
  rfl

/-! Field by field, all but the timers, the ages and the remaining times of the windows are as they were (R4). -/

theorem claimField_tick (s : State) (i : Fin 16) {f : Nat} (h : f ≠ 9) : s.tick.claimField i f = s.claimField i f := by
  unfold State.claimField
  rw [tick_claim]
  split
  case h_9 => exact absurd rfl h
  all_goals rfl

theorem supplyField_tick (s : State) {f : Nat} (h : f ≠ 13 ∧ f ≠ 14) : s.tick.supplyField f = s.supplyField f := by
  unfold State.supplyField
  split
  case h_4 => exact congrArg _ (tick_grantedSum s)
  case h_13 => exact absurd rfl h.1
  case h_14 => exact absurd rfl h.2
  all_goals rfl

theorem flowState_tick (s : State) (p : Pump) : (s.tick.cool.flow.get p).state = (s.cool.flow.get p).state := by
  cases p <;> rfl

theorem zoneField_tick (s : State) (z : Zone) {f : Nat} (h : f ≠ 1 ∧ f ≠ 2 ∧ f ≠ 7 ∧ f ≠ 18) :
    s.tick.zoneField z f = s.zoneField z f := by
  obtain ⟨reading, age, hold, flow⟩ := h
  unfold State.zoneField
  rw [tick_zone]
  split
  case h_1 => exact absurd rfl reading
  case h_2 => exact absurd rfl age
  case h_7 => exact absurd rfl hold
  case h_17 => simp only [flowState_tick]
  case h_18 => exact absurd rfl flow
  all_goals rfl

theorem yawField_tick (s : State) {f : Nat} (h : f ≠ 11 ∧ f ≠ 12 ∧ f ≠ 13 ∧ f ≠ 14) :
    s.tick.yawField f = s.yawField f := by
  obtain ⟨stage, idle, budget, brake⟩ := h
  unfold State.yawField
  split
  case h_11 => exact absurd rfl stage
  case h_12 => exact absurd rfl idle
  case h_13 => exact absurd rfl budget
  case h_14 => exact absurd rfl brake
  all_goals rfl

/-- Of a window the remaining time alone moves. -/
theorem window_tick {α : Type} {g : Window → α} (same : ∀ w, g w.tick = g w) (w : Option Window) :
    (w.map Window.tick).map g = w.map g := by
  cases w with
  | none => rfl
  | some w => exact congrArg some (same w)

theorem alignField_tick (s : State) {f : Nat} (h : f ≠ 16 ∧ f ≠ 20) : s.tick.align.field f = s.align.field f := by
  obtain ⟨short, long⟩ := h
  unfold Alignment.field
  split
  case h_1 => exact absurd rfl short
  case h_2 => exact congrArg natField (window_tick (fun _ => rfl) s.align.short)
  case h_3 => exact congrArg orAbsent (window_tick (fun _ => rfl) s.align.short)
  case h_4 => exact congrArg orAbsent (window_tick (fun _ => rfl) s.align.short)
  case h_5 => exact absurd rfl long
  case h_6 => exact congrArg natField (window_tick (fun _ => rfl) s.align.long)
  case h_7 => exact congrArg orAbsent (window_tick (fun _ => rfl) s.align.long)
  case h_8 => exact congrArg orAbsent (window_tick (fun _ => rfl) s.align.long)
  all_goals rfl

theorem converterField_tick (s : State) {f : Nat} (h : f ≠ 3 ∧ f ≠ 10 ∧ f ≠ 11) :
    s.tick.converterField f = s.converterField f := by
  obtain ⟨sequence, ceiling, fraction⟩ := h
  unfold State.converterField
  split
  case h_3 => exact absurd rfl sequence
  case h_6 => exact congrArg bit (tick_pulsePermit s)
  case h_10 => exact absurd rfl ceiling
  case h_11 => exact absurd rfl fraction
  all_goals rfl

theorem partField_tick (s : State) (f : Nat) : s.tick.partField f = s.partField f := by
  unfold State.partField
  split <;> rfl

theorem condField_tick (s : State) (i : Fin 32) {f : Nat} (h : f ≠ 9) : s.tick.condField i f = s.condField i f := by
  unfold State.condField
  rw [tick_record]
  split
  case h_9 => exact absurd rfl h
  all_goals rfl

theorem ne_of_held {table f n : Nat} (held : f ∈ heldFields table) (free : n ∉ heldFields table) : f ≠ n :=
  fun h => free (h ▸ held)

/-- A millisecond moves no held field (R5). -/
theorem ownField_tick (s : State) (table index : Nat) {f : Nat} (held : f ∈ heldFields table) :
    s.tick.ownField table index f = s.ownField table index f := by
  have free {n : Nat} (h : n ∉ heldFields table) : f ≠ n := ne_of_held held h
  unfold State.ownField
  split
  case h_1 => exact partField_tick s f
  case h_4 =>
    split
    · exact claimField_tick s _ (free (by decide))
    · rfl
  case h_5 => exact supplyField_tick s ⟨free (by decide), free (by decide)⟩
  case h_6 => exact converterField_tick s ⟨free (by decide), free (by decide), free (by decide)⟩
  case h_7 =>
    split
    · rfl
    · exact zoneField_tick s _ ⟨free (by decide), free (by decide), free (by decide), free (by decide)⟩
  case h_8 =>
    split
    · exact yawField_tick s ⟨free (by decide), free (by decide), free (by decide), free (by decide)⟩
    · exact alignField_tick s ⟨free (by decide), free (by decide)⟩
  case h_11 =>
    split
    · exact condField_tick s _ (free (by decide))
    · rfl
  all_goals rfl

theorem snapshot_tick (s : State) : s.tick.snapshot = s.snapshot := by
  unfold State.snapshot State.heldOf
  exact List.map_congr_left fun table _ => List.map_congr_left fun index _ =>
    List.map_congr_left fun f held => ownField_tick s table index held

/-- Settles O10: a command that begins no reset is one event (`Runs`), which compares every record at its end. -/
theorem revisionsFollowHeldFields : Obligations.RevisionsFollowHeldFields := by
  intro s t u c table index kept _ hi
  refine ⟨fun between due resets decrease stagger e => ?_, fun revs => closeEvent_follows kept revs hi,
    heldOf_of_snapshot (snapshot_tick s) hi, rfl⟩
  have other : c ≠ .restart := by
    rintro rfl
    cases resets
  exact (exec_runs (.inl resets) e).follows kept between.2 due other decrease stagger hi

end Sys2Proof.Machine
end

section
/-!
RESTART: a warm reset at the end of its frame (R183).
-/
namespace Sys2Proof.Machine

/-! ### The warm reset of a RESTART -/

theorem resetLeaves_warmRestart (s : State) : ResetLeaves .warm .warmLink s s.warmRestart :=
  resetLeaves_inReset .warm .warmLink s.inputs.resetn s

/-- The last item of a frame with a reset due is followed by the reset (R183). -/
theorem executeItem_restarts {c : Instr} {b : State} (last : b.port.items = [])
    (due : (answerItem c (itemBody c) b).state.port.restartDue = true) :
    ∃ p, b.executeItem c (itemBody c) =
      ({ finishEvent b (answerItem c (itemBody c) b).state with port := p } : State).warmRestart := by
  obtain ⟨n, r, d, port⟩ := (within_answerItem c b).port
  unfold State.executeItem
  generalize answerItem c (itemBody c) b = a at *
  have ends : (finishEvent b a.state).port.items.isEmpty = true := by
    rw [finishEvent_port, port, last]
    rfl
  have dueAtEnd : (finishEvent b a.state).port.restartDue = true := by rw [finishEvent_port]; exact due
  exact ⟨_, (addEntry_of_end ends _).trans (if_pos dueAtEnd)⟩

theorem answerItem_restart {s : State} (lock : s.port.composing = none) :
    answerItem .restart (itemBody .restart) s = doRestart s := by
  rw [answerItem, lock]
  rfl

/-- RESTART in a frame of its own: the reset begins in the state that the item found, but for the port. -/
theorem exec_restart_alone {s : State} (r : Ready s) :
    ∃ w : State, exec .restart s = .next w.warmRestart ∧ w.store = s.store ∧ w.cool = s.cool ∧ w.cond = s.cond ∧
      w.yaw = s.yaw ∧ w.inputs = s.inputs := by
  obtain ⟨⟨between, idle, -⟩, lock⟩ := r
  have answer : answerItem .restart (itemBody .restart) s.entered = doRestart s.entered := answerItem_restart lock
  obtain ⟨p, e⟩ := executeItem_restarts (c := .restart) (b := s.entered) rfl (by rw [answer]; rfl)
  rw [answer] at e
  have same := changes_finishEvent_quiet (before := s.entered) (s := (doRestart s.entered).state) (quiet_of_between between)
  refine ⟨{ finishEvent s.entered (doRestart s.entered).state with port := p }, ?_, ?_⟩
  · rw [exec_item rfl, runItem_of_idle between.1 idle]
    exact congrArg _ e
  · generalize finishEvent s.entered (doRestart s.entered).state = u at same
    exact ⟨same .store (by decide), same .cool (by decide), same .cond (by decide), same .yaw (by decide),
      same .inputs (by decide)⟩

/-- RESTART with items after it: answered OK, the reset due. -/
theorem executeItem_restart_before {b : State} (lock : b.port.composing = none) (more : b.port.items.isEmpty = false) :
    b.executeItem .restart (itemBody .restart) =
      { finishEvent b (doRestart b).state with
        port := { b.port with restartDue := true, entries := b.port.entries ++ [0#8, 0#8] } } := by
  have entry (t : State) : t.entry .ok (.bytes []) = [0#8, 0#8] := entry_bytes fun _ => rfl
  have port := finishEvent_port b (doRestart b).state
  unfold State.executeItem
  rw [answerItem_restart lock]
  change (finishEvent b (doRestart b).state).addEntry ((closeEvent b (doRestart b).state).entry .ok (.bytes [])) = _
  rw [entry, addEntry_of_more (by rw [port]; exact more), port]
  rfl

theorem exec_restart_before {s : State} {rest : List Instr} (between : Between s) (lock : s.port.composing = none)
    (executing : s.port.executing = true) (items : s.port.items = .restart :: rest) (more : rest ≠ []) :
    ∃ t, exec .restart s = .next t ∧
      Changes [.revs]
        { s.drive with
          port := { s.port with items := rest, restartDue := true, entries := s.port.entries ++ [0#8, 0#8] } } t := by
  have quiet := changes_finishEvent_quiet (before := { s with port := { s.port with items := rest } })
    (s := (doRestart { s with port := { s.port with items := rest } }).state) (quiet_of_between between)
  refine ⟨_, (exec_item rfl s).trans ((runItem_of_next between.1 executing items).trans
    (congrArg _ (executeItem_restart_before lock (by simpa using more)))), fun p hp => ?_⟩
  have piece := quiet p hp
  cases p
  case port => rfl
  all_goals exact piece

/-- A record that the end of the reset makes no report on. -/
theorem record_unreported {s t : State} (leaves : ResetLeaves .warm .warmLink s t) {i : Fin 32} (free : i ∉ resetRecs) :
    t.cond.recs[i] = (s.cond.recs[i]).through .warm catalogue[i] s.store.partTime := by
  obtain ⟨-, -, -, warm, -, -, -, -, -, -, -, -, -, -, -, -, -, -, -, records, -⟩ := leaves
  obtain ⟨-, -, now⟩ := warm rfl
  rw [records i, causeAfterReset_of_not_mem free, now]
  rfl

/-- The last item of a frame with RESTART due, whatever it does (R183). -/
theorem exec_last_restarts {s : State} {c : Instr} (between : Between s) (executing : s.port.executing = true)
    (due : s.port.restartDue = true) (item : c.isItem = true) (items : s.port.items = [c]) :
    ∃ w : State, exec c s = .next w.warmRestart ∧
      ((∀ h g f v, c ≠ .writeField h g f v) → w.store.settings = s.store.settings) := by
  have still : (answerItem c (itemBody c) { s with port := { s.port with items := [] } }).state.port.restartDue = true := by
    by_cases restart : c = .restart
    · subst restart
      unfold answerItem
      split
      · exact due
      · rfl
    · exact (answerItem_restartDue restart _).trans due
  obtain ⟨p, e⟩ := executeItem_restarts (c := c) (b := { s with port := { s.port with items := [] } }) rfl still
  refine ⟨_, (exec_item item s).trans ((runItem_of_next between.1 executing items).trans (congrArg _ e)), fun other => ?_⟩
  have settings : (answerItem c (itemBody c) { s with port := { s.port with items := [] } }).state.store.settings =
      s.store.settings := by
    unfold answerItem
    split
    · rfl
    · exact itemBody_settings other _
  have store := changes_finishEvent { s with port := { s.port with items := [] } }
    (answerItem c (itemBody c) { s with port := { s.port with items := [] } }).state .store (by decide)
  exact (congrArg Store.settings store).trans settings

/-! ### The clauses that hold -/

/-- RESTART alone in its frame ends in a warm reset. -/
theorem restart_alone_leaves {s : State} (r : Ready s) :
    ∃ t, exec .restart s = .next t ∧ ResetLeaves .warm .warmLink s t := by
  obtain ⟨w, e, store, cool, cond, yaw, inputs⟩ := exec_restart_alone r
  exact ⟨_, e, (resetLeaves_warmRestart w).of_same store cool cond yaw (resetn := s.inputs.resetn) inputs⟩

/-- The records that the end of that reset makes no report on (R169). -/
theorem restart_alone_records {s : State} (r : Ready s) {i : Fin 32} (free : i ∉ resetRecs) :
    ∃ t, exec .restart s = .next t ∧
      t.cond.recs[i] = (s.cond.recs[i]).through .warm catalogue[i] s.store.partTime := by
  obtain ⟨t, e, leaves⟩ := restart_alone_leaves r
  exact ⟨t, e, record_unreported leaves free⟩

/-- The last item of a frame with RESTART due: the reset follows, and the settings stay unless the item is a WRITE FIELD,
whose value the warm reset keeps (R20). -/
theorem last_item_restarts {s : State} {c : Instr} (between : Between s) (executing : s.port.executing = true)
    (due : s.port.restartDue = true) (item : c.isItem = true) (items : s.port.items = [c]) :
    ∃ t, exec c s = .next t ∧
      ((∀ h g f v, c ≠ .writeField h g f v) → t.store.settings = s.store.settings) ∧
      t.hold = none ∧ t.store.resetCause = .warmLink ∧ t.app = Apportioner.initial ∧ t.supply = Supply.initial ∧
      t.routes = RouteStore.initial ∧ t.meter = Meter.silent ∧ t.conv.state = .discharging ∧ t.yaw.engine = .parked ∧
      t.port.prepared = noResponse ∧ t.port.executing = false ∧ t.port.restartDue = false ∧ t.out = t.outputs := by
  obtain ⟨w, e, settings⟩ := exec_last_restarts between executing due item items
  obtain ⟨hold, cause, -, warm, meter, app, supply, conv, routes, yaw, -, -, -, -, -, -, -, -, -, -, -, -, -, -, -,
    -, -, prepared, idle, ended, out⟩ := resetLeaves_warmRestart w
  exact ⟨_, e, fun other => (warm rfl).1.trans (settings other), hold, cause, app, supply, routes, meter,
    conv ▸ rfl, yaw ▸ rfl, prepared, idle, ended, out⟩

/-! ### The clause that fails -/

/-- LEVEL_DECREASE_HOLD is written to 40, where 30 is the default. -/
def holdWrite : Instr := .writeField (.long 1 45) none 1 40

/-- The part right after reset, at the last item of a frame with RESTART due: that write. -/
def writingBeforeRestart : State :=
  { State.reset with
    port := { State.reset.port with executing := true, items := [holdWrite], itemCount := 1, restartDue := true } }

/-- The setting that a command leaves in place. -/
def settingAfter (k : Fin 86) (c : Instr) (s : State) : Nat :=
  match exec c s with
  | .next t => t.setting k
  | .fault _ => 0
  | .refused _ => 0

theorem settingAfter_holdWrite : settingAfter Setting.levelDecreaseHold holdWrite writingBeforeRestart = 40 := by
  decide +kernel

/-- Refutes O27: its last clause gives the settings of the state before the item for every WRITE FIELD that differs from the
item, so for every item, a WRITE FIELD too; and the write of a setting as the last item, accepted, is kept by the warm reset
that follows. Every other clause holds (`restart_alone_leaves`, `restart_alone_records`, `exec_restart_before`), and so does
the last with the settings said for an item that is no WRITE FIELD (`last_item_restarts`). -/
theorem not_restartIsWarmReset : ¬ Obligations.RestartIsWarmReset := by
  intro h
  obtain ⟨-, -, -, last⟩ := h writingBeforeRestart 0 [] holdWrite
  obtain ⟨t, e, -, -, settings, -⟩ := last ⟨rfl, rfl⟩ rfl rfl rfl rfl
  have kept : t.store.settings = State.reset.store.settings :=
    settings (.long 1 45) none 1 41 (by decide)
  have written : t.setting Setting.levelDecreaseHold = 40 := by
    have after := settingAfter_holdWrite
    unfold settingAfter at after
    rw [e] at after
    exact after
  rw [State.setting, kept] at written
  exact absurd written (by decide +kernel)

end Sys2Proof.Machine
end

section
/-!
The Load Apportioner's operations over its slots and collections (R22 to R52): what each leaves of the other slots, what it
makes of its own, and what that is to the granted sum and to the agreement of claims and collections.
-/
namespace Sys2Proof.Machine

/-! ### The granted sum (R29) -/

/-- What a claim counts for in the granted sum. -/
def Claim.share (c : Claim) : Nat := if c.standing then c.granted else 0

theorem grantedSum_eq (a : Apportioner) : a.grantedSum = ∑ i : Fin 16, (a.claims[i]).share := by
  have counted : ∀ l : List Claim, ((l.filter Claim.standing).map (·.granted)).sum = (l.map Claim.share).sum := by
    intro l
    induction l with
    | nil => rfl
    | cons c l ih => by_cases h : c.standing = true <;> simp [Claim.share, h, ih]
  have slots : a.claims.toList = List.ofFn fun i : Fin 16 => a.claims[i] := by
    exact List.ext_getElem (by simp) fun n _ _ => by simp only [List.getElem_ofFn, Vector.getElem_toList]; rfl
  rw [Apportioner.grantedSum, counted, slots, List.map_ofFn, List.sum_ofFn]
  rfl

theorem share_of_standing {c : Claim} (h : c.state = .held ∨ c.state = .offered) : c.share = c.granted := by
  rcases h with h | h <;> simp [Claim.share, Claim.standing, h]

theorem share_of_not_standing {c : Claim} (held : c.state ≠ .held) (offered : c.state ≠ .offered) : c.share = 0 := by
  simp [Claim.share, Claim.standing, held, offered]

/-! ### What an operation leaves of the other slots -/

/-- The claim without its sequence numbers, which a renumbering may change (R28). -/
def Claim.plain (c : Claim) : Claim := { c with grantSeq := none, shedSeq := none }

/-- Outside the slots listed, every claim is the same but for its sequence numbers, and is in the same collections. -/
structure Apportioner.SameOff (l : List (Fin 16)) (a b : Apportioner) : Prop where
  plain : ∀ j ∉ l, (b.claims[j]).plain = (a.claims[j]).plain
  standing : ∀ j ∉ l, (j ∈ b.standing ↔ j ∈ a.standing)
  shedStack : ∀ j ∉ l, (j ∈ b.shedStack ↔ j ∈ a.shedStack)
  waiting : ∀ j ∉ l, (j ∈ b.waiting ↔ j ∈ a.waiting)

section
variable {a b c : Apportioner} {l m : List (Fin 16)} {i j : Fin 16}

theorem Apportioner.SameOff.refl (l : List (Fin 16)) (a : Apportioner) : a.SameOff l a :=
  ⟨fun _ _ => rfl, fun _ _ => Iff.rfl, fun _ _ => Iff.rfl, fun _ _ => Iff.rfl⟩

theorem Apportioner.SameOff.trans (h : a.SameOff l b) (k : b.SameOff l c) : a.SameOff l c :=
  ⟨fun j hj => (k.plain j hj).trans (h.plain j hj), fun j hj => (k.standing j hj).trans (h.standing j hj),
    fun j hj => (k.shedStack j hj).trans (h.shedStack j hj), fun j hj => (k.waiting j hj).trans (h.waiting j hj)⟩

theorem Apportioner.SameOff.mono (h : a.SameOff l b) (sub : l ⊆ m) : a.SameOff m b :=
  ⟨fun j hj => h.plain j fun x => hj (sub x), fun j hj => h.standing j fun x => hj (sub x),
    fun j hj => h.shedStack j fun x => hj (sub x), fun j hj => h.waiting j fun x => hj (sub x)⟩

theorem Apportioner.SameOff.state (h : a.SameOff l b) (hj : j ∉ l) : (b.claims[j]).state = (a.claims[j]).state :=
  (congrArg Claim.state (h.plain j hj) :)

theorem Apportioner.SameOff.granted (h : a.SameOff l b) (hj : j ∉ l) :
    (b.claims[j]).granted = (a.claims[j]).granted := (congrArg Claim.granted (h.plain j hj) :)

theorem Apportioner.SameOff.asked (h : a.SameOff l b) (hj : j ∉ l) : (b.claims[j]).asked = (a.claims[j]).asked :=
  (congrArg Claim.asked (h.plain j hj) :)

theorem Apportioner.SameOff.priority (h : a.SameOff l b) (hj : j ∉ l) :
    (b.claims[j]).priority = (a.claims[j]).priority := (congrArg Claim.priority (h.plain j hj) :)

theorem share_plain (c : Claim) : c.plain.share = c.share := rfl

theorem Apportioner.SameOff.share (h : a.SameOff l b) (hj : j ∉ l) : (b.claims[j]).share = (a.claims[j]).share := by
  rw [← share_plain, h.plain j hj, share_plain]

/-- The granted sum moves by what the one slot counts for. -/
theorem Apportioner.SameOff.grantedSum (h : a.SameOff [i] b) :
    b.grantedSum + (a.claims[i]).share = a.grantedSum + (b.claims[i]).share := by
  rw [grantedSum_eq, grantedSum_eq, ← Finset.add_sum_erase _ _ (Finset.mem_univ i),
    ← Finset.add_sum_erase Finset.univ (fun j : Fin 16 => (a.claims[j]).share) (Finset.mem_univ i)]
  have rest : ∑ j ∈ Finset.univ.erase i, (b.claims[j]).share = ∑ j ∈ Finset.univ.erase i, (a.claims[j]).share :=
    Finset.sum_congr rfl fun j hj => h.share (by simpa using Finset.ne_of_mem_erase hj)
  rw [rest]
  omega

end

/-! ### The agreement of a slot with the collections (R23, R24) -/

/-- The claim of the slot agrees with the collections. -/
def Apportioner.Agrees (a : Apportioner) (i : Fin 16) : Prop :=
  (i ∈ a.standing ↔ ((a.claims[i]).state = .held ∨ (a.claims[i]).state = .offered)) ∧
    (i ∈ a.shedStack ↔ (a.claims[i]).state = .shed) ∧
    (i ∈ a.waiting ↔
      (a.claims[i]).state = .waiting ∨ ((a.claims[i]).state = .held ∧ (a.claims[i]).granted < (a.claims[i]).asked)) ∧
    ((a.claims[i]).state ≠ .held → (a.claims[i]).state ≠ .offered → (a.claims[i]).granted = 0) ∧
    (a.claims[i]).granted ≤ (a.claims[i]).asked ∧
    ((a.claims[i]).state = .offered → (a.claims[i]).granted = (a.claims[i]).asked)

/-- Each collection holds a slot at most once. -/
structure Apportioner.Once (a : Apportioner) : Prop where
  standing : a.standing.Nodup
  shedStack : a.shedStack.Nodup
  waiting : a.waiting.Nodup

theorem consistent_iff (a : Apportioner) : a.Consistent ↔ a.Once ∧ ∀ i, a.Agrees i :=
  ⟨fun ⟨s, h, w, k⟩ => ⟨⟨s, h, w⟩, k⟩, fun ⟨⟨s, h, w⟩, k⟩ => ⟨s, h, w, k⟩⟩

section
variable {a b : Apportioner} {l : List (Fin 16)} {i j : Fin 16}

theorem Apportioner.Consistent.once (h : a.Consistent) : a.Once := ((consistent_iff a).mp h).1

theorem Apportioner.Consistent.agrees (h : a.Consistent) (i : Fin 16) : a.Agrees i := ((consistent_iff a).mp h).2 i

theorem Apportioner.SameOff.agrees (h : a.SameOff l b) (hj : j ∉ l) (k : a.Agrees j) : b.Agrees j := by
  unfold Apportioner.Agrees
  rw [h.state hj, h.granted hj, h.asked hj, h.standing j hj, h.shedStack j hj, h.waiting j hj]
  exact k

/-- Agreement after an operation on one slot. -/
theorem Apportioner.Consistent.update (h : a.Consistent) (same : a.SameOff [i] b) (once : b.Once) (self : b.Agrees i) :
    b.Consistent := by
  refine (consistent_iff b).mpr ⟨once, fun j => ?_⟩
  by_cases e : j = i
  · rw [e]; exact self
  · exact same.agrees (by simpa using e) (h.agrees j)

theorem Apportioner.Consistent.mem_standing (h : a.Consistent) (i : Fin 16) :
    i ∈ a.standing ↔ ((a.claims[i]).state = .held ∨ (a.claims[i]).state = .offered) := (h.agrees i).1

theorem Apportioner.Consistent.mem_shedStack (h : a.Consistent) (i : Fin 16) :
    i ∈ a.shedStack ↔ (a.claims[i]).state = .shed := (h.agrees i).2.1

theorem Apportioner.Consistent.mem_waiting (h : a.Consistent) (i : Fin 16) :
    i ∈ a.waiting ↔
      (a.claims[i]).state = .waiting ∨ ((a.claims[i]).state = .held ∧ (a.claims[i]).granted < (a.claims[i]).asked) :=
  (h.agrees i).2.2.1

theorem Apportioner.Consistent.granted_zero (h : a.Consistent) (held : (a.claims[i]).state ≠ .held)
    (offered : (a.claims[i]).state ≠ .offered) : (a.claims[i]).granted = 0 := by
  obtain ⟨-, -, -, none, -⟩ := h.agrees i
  exact none held offered

theorem Apportioner.Consistent.granted_le (h : a.Consistent) (i : Fin 16) :
    (a.claims[i]).granted ≤ (a.claims[i]).asked := by
  obtain ⟨-, -, -, -, le, -⟩ := h.agrees i
  exact le

theorem Apportioner.Consistent.granted_offered (h : a.Consistent) (offered : (a.claims[i]).state = .offered) :
    (a.claims[i]).granted = (a.claims[i]).asked := by
  obtain ⟨-, -, -, -, -, all⟩ := h.agrees i
  exact all offered

/-- Where claims and collections agree, a claim counts for its granted in every state. -/
theorem Apportioner.Consistent.share (h : a.Consistent) (i : Fin 16) : (a.claims[i]).share = (a.claims[i]).granted := by
  by_cases held : (a.claims[i]).state = .held
  · exact share_of_standing (.inl held)
  · by_cases offered : (a.claims[i]).state = .offered
    · exact share_of_standing (.inr offered)
    · rw [share_of_not_standing held offered, h.granted_zero held offered]

/-- Where claims and collections agree, the granted sum is that of the standing list. -/
theorem Apportioner.Consistent.grantedSum (h : a.Consistent) :
    a.grantedSum = (a.standing.map fun j => (a.claims[j]).granted).sum := by
  rw [grantedSum_eq, ← List.sum_toFinset _ h.once.standing]
  refine (Finset.sum_subset (Finset.subset_univ a.standing.toFinset) fun i _ hi => ?_).symm.trans ?_
  · rw [List.mem_toFinset, h.mem_standing, not_or] at hi
    exact share_of_not_standing hi.1 hi.2
  · exact Finset.sum_congr rfl fun i _ => h.share i

end

/-! ### Updates of one slot and one collection -/

section
variable (a : Apportioner) (i : Fin 16)

theorem sameOff_setClaim (c : Claim) : a.SameOff [i] (a.setClaim i c) :=
  ⟨fun j hj => by rw [setClaim_claims_other a c (by simpa using hj)], fun _ _ => Iff.rfl, fun _ _ => Iff.rfl,
    fun _ _ => Iff.rfl⟩

theorem mem_filter_ne {l : List (Fin 16)} {i j : Fin 16} : j ∈ l.filter (· != i) ↔ j ∈ l ∧ j ≠ i := by
  simp

theorem sameOff_leaveStanding : a.SameOff [i] (a.leaveStanding i) :=
  ⟨fun _ _ => rfl, fun j hj => mem_filter_ne.trans (and_iff_left (by simpa using hj)), fun _ _ => Iff.rfl,
    fun _ _ => Iff.rfl⟩

theorem sameOff_leaveStack : a.SameOff [i] (a.leaveStack i) :=
  ⟨fun _ _ => rfl, fun _ _ => Iff.rfl, fun j hj => mem_filter_ne.trans (and_iff_left (by simpa using hj)),
    fun _ _ => Iff.rfl⟩

theorem sameOff_leaveQueue : a.SameOff [i] (a.leaveQueue i) :=
  ⟨fun _ _ => rfl, fun _ _ => Iff.rfl, fun _ _ => Iff.rfl,
    fun j hj => mem_filter_ne.trans (and_iff_left (by simpa using hj))⟩

theorem sameOff_pushStack : a.SameOff [i] { a with shedStack := i :: a.shedStack } :=
  ⟨fun _ _ => rfl, fun _ _ => Iff.rfl, fun j hj => by
    rw [List.mem_cons, or_iff_right (by simpa using hj)], fun _ _ => Iff.rfl⟩

/-- Joining the queue appends the slot, or changes nothing where it has its place (R27). -/
theorem joinQueue_eq :
    a.joinQueue i = { a with waiting := if a.waiting.contains i then a.waiting else a.waiting ++ [i] } := by
  unfold Apportioner.joinQueue
  split <;> rfl

theorem mem_joinQueue (j : Fin 16) : j ∈ (a.joinQueue i).waiting ↔ j ∈ a.waiting ∨ j = i := by
  rw [joinQueue_eq]
  simp only
  split
  · next h =>
    have mem : i ∈ a.waiting := by simpa using h
    exact ⟨.inl, fun k => k.elim id fun e => e ▸ mem⟩
  · simp

theorem sameOff_joinQueue : a.SameOff [i] (a.joinQueue i) := by
  refine ⟨fun j _ => by rw [joinQueue_eq], fun j _ => by rw [joinQueue_eq], fun j _ => by rw [joinQueue_eq],
    fun j hj => ?_⟩
  rw [mem_joinQueue, or_iff_left (by simpa using hj)]

/-- The place in the standing list is between what stands ahead and the rest (R25). -/
theorem joinStanding_perm : (a.joinStanding i).standing.Perm (i :: a.standing) := by
  unfold Apportioner.joinStanding
  simp only
  exact List.perm_middle.trans (by rw [List.takeWhile_append_dropWhile])

theorem sameOff_joinStanding : a.SameOff [i] (a.joinStanding i) :=
  ⟨fun _ _ => rfl, fun j hj => by
    rw [(joinStanding_perm a i).mem_iff, List.mem_cons, or_iff_right (by simpa using hj)], fun _ _ => Iff.rfl,
    fun _ _ => Iff.rfl⟩

theorem sameOff_startStagger (l : List (Fin 16)) (n : Nat) : a.SameOff l (a.startStagger n) :=
  ⟨fun _ _ => rfl, fun _ _ => Iff.rfl, fun _ _ => Iff.rfl, fun _ _ => Iff.rfl⟩

/-- What a step of a sequence counter changes: sequence numbers and counters alone (R28). -/
structure Apportioner.Renumbers (a b : Apportioner) : Prop where
  plain : ∀ j : Fin 16, (b.claims[j]).plain = (a.claims[j]).plain
  standing : b.standing = a.standing
  shedStack : b.shedStack = a.shedStack
  waiting : b.waiting = a.waiting

theorem Apportioner.Renumbers.trans {a b c : Apportioner} (h : a.Renumbers b) (k : b.Renumbers c) : a.Renumbers c :=
  ⟨fun j => (k.plain j).trans (h.plain j), k.standing.trans h.standing, k.shedStack.trans h.shedStack,
    k.waiting.trans h.waiting⟩

theorem renumberGrants_renumbers : a.Renumbers a.renumberGrants := by
  unfold Apportioner.renumberGrants
  refine ⟨fun j => ?_, rfl, rfl, rfl⟩
  simp only [Fin.getElem_fin, Vector.getElem_ofFn]
  split <;> rfl

theorem renumberSheds_renumbers : a.Renumbers a.renumberSheds := by
  unfold Apportioner.renumberSheds
  refine ⟨fun j => ?_, rfl, rfl, rfl⟩
  simp only [Fin.getElem_fin, Vector.getElem_ofFn]
  split <;> rfl

theorem nextGrant_renumbers : a.Renumbers a.nextGrant := by
  have counted : ∀ b : Apportioner, b.Renumbers { b with grantCounter := b.grantCounter + 1 } :=
    fun _ => ⟨fun _ => rfl, rfl, rfl, rfl⟩
  unfold Apportioner.nextGrant
  split
  · exact (renumberGrants_renumbers a).trans (counted _)
  · exact counted a

theorem nextShed_renumbers : a.Renumbers a.nextShed := by
  have counted : ∀ b : Apportioner, b.Renumbers { b with shedCounter := b.shedCounter + 1 } :=
    fun _ => ⟨fun _ => rfl, rfl, rfl, rfl⟩
  unfold Apportioner.nextShed
  split
  · exact (renumberSheds_renumbers a).trans (counted _)
  · exact counted a

theorem Apportioner.Renumbers.sameOff {a b : Apportioner} (h : a.Renumbers b) (l : List (Fin 16)) : a.SameOff l b :=
  ⟨fun j _ => h.plain j, fun j _ => by rw [h.standing], fun j _ => by rw [h.shedStack], fun j _ => by rw [h.waiting]⟩

end

end Sys2Proof.Machine
end

section
/-!
Shedding, withdrawing, granting, opening, amending, collecting and freeing a claim (R30, R31, R38, R40 to R46): what each
makes of its own slot, and that claims and collections go on agreeing.
-/
namespace Sys2Proof.Machine

section
variable {a b : Apportioner} {i : Fin 16}

/-- The claim is of the collections that its state puts it in (R23, R24). -/
def Claim.Belongs (c : Claim) (standing shed waiting : Prop) : Prop :=
  (standing ↔ (c.state = .held ∨ c.state = .offered)) ∧ (shed ↔ c.state = .shed) ∧
    (waiting ↔ c.state = .waiting ∨ (c.state = .held ∧ c.granted < c.asked)) ∧
    (c.state ≠ .held → c.state ≠ .offered → c.granted = 0) ∧ c.granted ≤ c.asked ∧
    (c.state = .offered → c.granted = c.asked)

theorem belongs_held {c : Claim} (state : c.state = .held) (le : c.granted ≤ c.asked) :
    c.Belongs True False (c.granted < c.asked) := by
  simp [Claim.Belongs, state, le]

theorem belongs_full {c : Claim} (state : c.state = .held) (all : c.granted = c.asked) :
    c.Belongs True False False := by
  simp [Claim.Belongs, state, all]

theorem belongs_offered {c : Claim} (state : c.state = .offered) (all : c.granted = c.asked) :
    c.Belongs True False False := by
  simp [Claim.Belongs, state, all]

theorem belongs_shed {c : Claim} (state : c.state = .shed) (none : c.granted = 0) : c.Belongs False True False := by
  simp [Claim.Belongs, state, none]

theorem belongs_waiting {c : Claim} (state : c.state = .waiting) (none : c.granted = 0) :
    c.Belongs False False True := by
  simp [Claim.Belongs, state, none]

theorem belongs_free {c : Claim} (state : c.state = .free) (none : c.granted = 0) :
    c.Belongs False False False := by
  simp [Claim.Belongs, state, none]

theorem agrees_of_belongs {c : Claim} {standing shed waiting : Prop} (claim : (b.claims[i]).plain = c)
    (hs : i ∈ b.standing ↔ standing) (hd : i ∈ b.shedStack ↔ shed) (hw : i ∈ b.waiting ↔ waiting)
    (belongs : c.Belongs standing shed waiting) : b.Agrees i := by
  subst claim
  obtain ⟨s, d, w, rest⟩ := belongs
  exact ⟨hs.trans s, hd.trans d, hw.trans w, rest⟩

theorem not_mem_filter_self (l : List (Fin 16)) (i : Fin 16) : i ∉ l.filter (· != i) := by simp

theorem nodup_filter_ne {l : List (Fin 16)} (h : l.Nodup) (i : Fin 16) : (l.filter (· != i)).Nodup := h.filter _

theorem nodup_append_self {l : List (Fin 16)} (h : l.Nodup) {i : Fin 16} (new : i ∉ l) : (l ++ [i]).Nodup :=
  h.append (List.nodup_singleton i) (List.disjoint_singleton.2 new)

theorem nodup_joinQueue (h : a.waiting.Nodup) (i : Fin 16) : (a.joinQueue i).waiting.Nodup := by
  rw [joinQueue_eq]
  simp only
  split
  · exact h
  · next new => exact nodup_append_self h (by simpa using new)

/-! ### Shed (R30) -/

section
variable (a : Apportioner) (i : Fin 16)

theorem sameOff_shed : a.SameOff [i] (a.shed i) :=
  ((((sameOff_leaveStanding a i).trans (sameOff_leaveQueue _ i)).trans ((nextShed_renumbers _).sameOff [i])).trans
    (sameOff_setClaim _ i _)).trans (sameOff_pushStack _ i)

theorem shed_claim :
    ((a.shed i).claims[i]).plain = { (a.claims[i]).plain with state := .shed, granted := 0, offerLeft := none } := by
  have c := (nextShed_renumbers ((a.leaveStanding i).leaveQueue i)).plain i
  have own : ∀ d : Apportioner, ({ d with shedStack := i :: d.shedStack } : Apportioner).claims[i] = d.claims[i] :=
    fun _ => rfl
  unfold Apportioner.shed
  simp only [own, setClaim_claims_self]
  exact congrArg (fun d : Claim => { d with state := .shed, granted := 0, offerLeft := none }) c

theorem shed_standing : (a.shed i).standing = a.standing.filter (· != i) :=
  (nextShed_renumbers ((a.leaveStanding i).leaveQueue i)).standing

theorem shed_shedStack : (a.shed i).shedStack = i :: a.shedStack :=
  congrArg (i :: ·) (nextShed_renumbers ((a.leaveStanding i).leaveQueue i)).shedStack

theorem shed_waiting : (a.shed i).waiting = a.waiting.filter (· != i) :=
  (nextShed_renumbers ((a.leaveStanding i).leaveQueue i)).waiting

end

theorem Apportioner.Consistent.shed (h : a.Consistent) (fresh : (a.claims[i]).state ≠ .shed) :
    (a.shed i).Consistent := by
  have off : i ∉ a.shedStack := fun m => fresh ((h.mem_shedStack i).mp m)
  refine h.update (sameOff_shed a i) ⟨?_, ?_, ?_⟩ ?_
  · rw [shed_standing]; exact nodup_filter_ne h.once.standing i
  · rw [shed_shedStack]; exact List.nodup_cons.2 ⟨off, h.once.shedStack⟩
  · rw [shed_waiting]; exact nodup_filter_ne h.once.waiting i
  · refine agrees_of_belongs (shed_claim a i) ?_ ?_ ?_ (belongs_shed rfl rfl)
    · simp [shed_standing]
    · simp [shed_shedStack]
    · simp [shed_waiting]

theorem shed_grantedSum (h : a.Consistent) (i : Fin 16) :
    (a.shed i).grantedSum + (a.claims[i]).granted = a.grantedSum := by
  have moved := (sameOff_shed a i).grantedSum
  have none : ((a.shed i).claims[i]).share = 0 := by
    rw [← share_plain, shed_claim]
    exact share_of_not_standing (by simp) (by simp)
  rw [h.share, none] at moved
  exact moved

/-! ### Withdraw (R31) -/

section
variable (a : Apportioner) (i : Fin 16)

theorem sameOff_withdraw : a.SameOff [i] (a.withdraw i) :=
  ((sameOff_leaveStanding a i).trans (sameOff_setClaim _ i _)).trans (sameOff_joinQueue _ i)

theorem joinQueue_claims : (a.joinQueue i).claims = a.claims := by rw [joinQueue_eq]

theorem joinQueue_standing : (a.joinQueue i).standing = a.standing := by rw [joinQueue_eq]

theorem joinQueue_shedStack : (a.joinQueue i).shedStack = a.shedStack := by rw [joinQueue_eq]

theorem withdraw_claim :
    (a.withdraw i).claims[i] =
      { a.claims[i] with state := .waiting, granted := 0, grantSeq := none, offerLeft := none } := by
  unfold Apportioner.withdraw
  simp only [joinQueue_claims, setClaim_claims_self]
  rfl

theorem withdraw_standing : (a.withdraw i).standing = a.standing.filter (· != i) := joinQueue_standing _ i

theorem withdraw_shedStack : (a.withdraw i).shedStack = a.shedStack := joinQueue_shedStack _ i

theorem mem_withdraw_waiting : i ∈ (a.withdraw i).waiting := (mem_joinQueue _ i i).mpr (.inr rfl)

end

theorem Apportioner.Consistent.withdraw (h : a.Consistent) (fresh : (a.claims[i]).state ≠ .shed) :
    (a.withdraw i).Consistent := by
  have off : i ∉ a.shedStack := fun m => fresh ((h.mem_shedStack i).mp m)
  refine h.update (sameOff_withdraw a i) ⟨?_, ?_, ?_⟩ ?_
  · rw [withdraw_standing]; exact nodup_filter_ne h.once.standing i
  · rw [withdraw_shedStack]; exact h.once.shedStack
  · exact nodup_joinQueue (by exact h.once.waiting) i
  · refine agrees_of_belongs (congrArg Claim.plain (withdraw_claim a i)) ?_ ?_ ?_ (belongs_waiting rfl rfl)
    · simp [withdraw_standing]
    · simp [withdraw_shedStack, off]
    · simp [mem_withdraw_waiting]

theorem withdraw_grantedSum (h : a.Consistent) (i : Fin 16) :
    (a.withdraw i).grantedSum + (a.claims[i]).granted = a.grantedSum := by
  have moved := (sameOff_withdraw a i).grantedSum
  have none : ((a.withdraw i).claims[i]).share = 0 := by
    rw [withdraw_claim]
    exact share_of_not_standing (by simp) (by simp)
  rw [h.share, none] at moved
  exact moved

/-! ### Grant (R38) -/

section
variable (g : GrantArgs) (a : Apportioner) (i : Fin 16)

theorem sameOff_grant : a.SameOff [i] (a.grant g i) := by
  unfold Apportioner.grant
  simp only
  split
  · exact ((sameOff_setClaim a i _).trans (sameOff_leaveQueue _ i)).trans (sameOff_startStagger _ _ _)
  · exact (((((sameOff_leaveStack a i).trans (sameOff_leaveQueue _ i)).trans ((nextGrant_renumbers _).sameOff [i])).trans
      (sameOff_setClaim _ i _)).trans (sameOff_joinStanding _ i)).trans (sameOff_startStagger _ _ _)

theorem grant_waiting : (a.grant g i).waiting = a.waiting.filter (· != i) := by
  unfold Apportioner.grant
  simp only
  split
  · rfl
  · exact (nextGrant_renumbers ((a.leaveStack i).leaveQueue i)).waiting

variable {a i}

/-- A grant to a claim HELD with a shortfall (R38). -/
theorem grant_held (h : (a.claims[i]).state = .held) :
    a.grant g i =
      ((a.setClaim i { a.claims[i] with granted := (a.claims[i]).asked }).leaveQueue i).startStagger g.stagger :=
  if_pos h

theorem grant_held_claim (h : (a.claims[i]).state = .held) :
    (a.grant g i).claims[i] = { a.claims[i] with granted := (a.claims[i]).asked } := by
  rw [grant_held g h]
  exact setClaim_claims_self a i _

/-- A grant to another claim: an offer to a link owner, a HELD claim for an engine (R38). -/
theorem grant_other (h : (a.claims[i]).state ≠ .held) :
    ∃ n : Nat, (a.grant g i).claims[i] =
      { a.claims[i] with
        state := if 6 ≤ i.val then .offered else .held, granted := (a.claims[i]).asked, grantSeq := some n,
        shedSeq := none, offerLeft := if 6 ≤ i.val then some g.window else none } := by
  have c := (nextGrant_renumbers ((a.leaveStack i).leaveQueue i)).plain i
  refine ⟨((a.leaveStack i).leaveQueue i).nextGrant.grantCounter, ?_⟩
  have own : ∀ (d : Apportioner) (n : Nat), ((d.joinStanding i).startStagger n).claims[i] = d.claims[i] := fun _ _ => rfl
  unfold Apportioner.grant
  simp only [if_neg h, own, setClaim_claims_self, decide_eq_true_eq]
  exact (congrArg (fun d : Claim => { d with
    state := if 6 ≤ i.val then .offered else .held, granted := d.asked,
    grantSeq := some ((a.leaveStack i).leaveQueue i).nextGrant.grantCounter,
    shedSeq := none, offerLeft := if 6 ≤ i.val then some g.window else none }) c :)

theorem grant_shedStack :
    (a.grant g i).shedStack =
      if (a.claims[i]).state = .held then a.shedStack else a.shedStack.filter (· != i) := by
  unfold Apportioner.grant
  simp only
  split
  · rfl
  · exact (nextGrant_renumbers ((a.leaveStack i).leaveQueue i)).shedStack

theorem grant_standing_held (h : (a.claims[i]).state = .held) : (a.grant g i).standing = a.standing := by
  rw [grant_held g h]
  rfl

theorem grant_standing_other (h : (a.claims[i]).state ≠ .held) : (a.grant g i).standing.Perm (i :: a.standing) := by
  unfold Apportioner.grant
  simp only [if_neg h]
  refine (joinStanding_perm _ i).trans ?_
  exact .of_eq (congrArg (i :: ·) (nextGrant_renumbers ((a.leaveStack i).leaveQueue i)).standing)

theorem grant_state : ((a.grant g i).claims[i]).state = .held ∨ ((a.grant g i).claims[i]).state = .offered := by
  by_cases h : (a.claims[i]).state = .held
  · rw [grant_held_claim g h]; exact .inl h
  · obtain ⟨n, e⟩ := grant_other g h
    rw [e]
    by_cases link : 6 ≤ i.val <;> simp [link]

theorem grant_granted : ((a.grant g i).claims[i]).granted = (a.claims[i]).asked := by
  by_cases h : (a.claims[i]).state = .held
  · rw [grant_held_claim g h]
  · obtain ⟨n, e⟩ := grant_other g h
    rw [e]

theorem grant_asked : ((a.grant g i).claims[i]).asked = (a.claims[i]).asked := by
  by_cases h : (a.claims[i]).state = .held
  · rw [grant_held_claim g h]
  · obtain ⟨n, e⟩ := grant_other g h
    rw [e]

theorem Apportioner.Consistent.grant (h : a.Consistent) (fresh : (a.claims[i]).state ≠ .offered) :
    (a.grant g i).Consistent := by
  by_cases held : (a.claims[i]).state = .held
  · have stack := grant_shedStack g (a := a) (i := i)
    rw [if_pos held] at stack
    have off : i ∉ a.shedStack := fun m => by rw [(h.mem_shedStack i).mp m] at held; cases held
    have on : i ∈ a.standing := (h.mem_standing i).mpr (.inl held)
    refine h.update (sameOff_grant g a i) ⟨?_, ?_, ?_⟩ ?_
    · rw [grant_standing_held g held]; exact h.once.standing
    · rw [stack]; exact h.once.shedStack
    · rw [grant_waiting]; exact nodup_filter_ne h.once.waiting i
    · refine agrees_of_belongs (congrArg Claim.plain (grant_held_claim g held)) ?_ ?_ ?_ (belongs_full held rfl)
      · simp [grant_standing_held g held, on]
      · simp [stack, off]
      · simp [grant_waiting]
  · have stack := grant_shedStack g (a := a) (i := i)
    rw [if_neg held] at stack
    have perm := grant_standing_other g held
    have off : i ∉ a.standing := fun m => ((h.mem_standing i).mp m).elim held fresh
    obtain ⟨n, e⟩ := grant_other g held
    refine h.update (sameOff_grant g a i) ⟨?_, ?_, ?_⟩ ?_
    · exact perm.nodup_iff.mpr (List.nodup_cons.2 ⟨off, h.once.standing⟩)
    · rw [stack]; exact nodup_filter_ne h.once.shedStack i
    · rw [grant_waiting]; exact nodup_filter_ne h.once.waiting i
    · refine agrees_of_belongs (congrArg Claim.plain e) (standing := True) (shed := False) (waiting := False)
        ?_ ?_ ?_ ?_
      · simp [perm.mem_iff]
      · simp [stack]
      · simp [grant_waiting]
      · by_cases link : 6 ≤ i.val
        · exact belongs_offered (if_pos link) rfl
        · exact belongs_full (if_neg link) rfl

/-- A grant adds the increase to the granted sum (R35). -/
theorem grant_grantedSum (h : a.Consistent) : (a.grant g i).grantedSum = a.grantedSum + a.increase i := by
  have moved := (sameOff_grant g a i).grantedSum
  rw [h.share, share_of_standing (grant_state g), grant_granted] at moved
  have le := h.granted_le i
  unfold Apportioner.increase
  omega

end

/-! ### Open, amend, collect, release (R40 to R46) -/

section
variable (a : Apportioner) (i : Fin 16)

theorem sameOff_openSlot (consumer priority asked tag : Nat) :
    a.SameOff [i] (a.openSlot i consumer priority asked tag) := (sameOff_setClaim a i _).trans (sameOff_joinQueue _ i)

theorem openSlot_claim (consumer priority asked tag : Nat) :
    (a.openSlot i consumer priority asked tag).claims[i] =
      ⟨.waiting, consumer, priority, asked, 0, tag, none, none, none⟩ := by
  unfold Apportioner.openSlot
  rw [joinQueue_claims, setClaim_claims_self]

theorem sameOff_release : a.SameOff [i] (a.release i) :=
  (((sameOff_leaveStanding a i).trans (sameOff_leaveStack _ i)).trans (sameOff_leaveQueue _ i)).trans
    (sameOff_setClaim _ i _)

theorem release_claim : (a.release i).claims[i] = Claim.free := setClaim_claims_self _ i _

theorem sameOff_collect : a.SameOff [i] (a.collect i) := sameOff_setClaim a i _

theorem collect_claim : (a.collect i).claims[i] = { a.claims[i] with state := .held, offerLeft := none } :=
  setClaim_claims_self _ i _

theorem sameOff_amend (asked : Nat) : a.SameOff [i] (a.amend i asked) := by
  have set := sameOff_setClaim a i
  unfold Apportioner.amend
  simp only
  split
  · exact .refl _ a
  · exact set _
  · exact set _
  · split
    · exact set _
    · exact .refl _ a
  · split
    · exact (set _).trans (sameOff_leaveQueue _ i)
    · exact (set _).trans (sameOff_joinQueue _ i)

end

/-! Which collections a slot is in, by its state (R23, R24). -/

theorem Apportioner.Consistent.free_iff (h : a.Consistent) (state : (a.claims[i]).state = .free) :
    (i ∈ a.standing ↔ False) ∧ (i ∈ a.shedStack ↔ False) ∧ (i ∈ a.waiting ↔ False) := by
  rw [h.mem_standing, h.mem_shedStack, h.mem_waiting, state]
  simp

theorem Apportioner.Consistent.waiting_iff (h : a.Consistent) (state : (a.claims[i]).state = .waiting) :
    (i ∈ a.standing ↔ False) ∧ (i ∈ a.shedStack ↔ False) ∧ (i ∈ a.waiting ↔ True) := by
  rw [h.mem_standing, h.mem_shedStack, h.mem_waiting, state]
  simp

theorem Apportioner.Consistent.shed_iff (h : a.Consistent) (state : (a.claims[i]).state = .shed) :
    (i ∈ a.standing ↔ False) ∧ (i ∈ a.shedStack ↔ True) ∧ (i ∈ a.waiting ↔ False) := by
  rw [h.mem_standing, h.mem_shedStack, h.mem_waiting, state]
  simp

theorem Apportioner.Consistent.offered_iff (h : a.Consistent) (state : (a.claims[i]).state = .offered) :
    (i ∈ a.standing ↔ True) ∧ (i ∈ a.shedStack ↔ False) ∧ (i ∈ a.waiting ↔ False) := by
  rw [h.mem_standing, h.mem_shedStack, h.mem_waiting, state]
  simp

theorem Apportioner.Consistent.held_iff (h : a.Consistent) (state : (a.claims[i]).state = .held) :
    (i ∈ a.standing ↔ True) ∧ (i ∈ a.shedStack ↔ False) ∧
      (i ∈ a.waiting ↔ (a.claims[i]).granted < (a.claims[i]).asked) := by
  rw [h.mem_standing, h.mem_shedStack, h.mem_waiting, state]
  simp

theorem Apportioner.Consistent.openSlot (h : a.Consistent) (free : (a.claims[i]).state = .free)
    (consumer priority asked tag : Nat) : (a.openSlot i consumer priority asked tag).Consistent := by
  obtain ⟨off, unshed, -⟩ := h.free_iff free
  refine h.update (sameOff_openSlot a i ..) ⟨?_, ?_, ?_⟩ ?_
  · exact (joinQueue_standing _ i).symm ▸ h.once.standing
  · exact (joinQueue_shedStack _ i).symm ▸ h.once.shedStack
  · exact nodup_joinQueue (by exact h.once.waiting) i
  · refine agrees_of_belongs (congrArg Claim.plain (openSlot_claim a i ..)) ?_ ?_ ?_ (belongs_waiting rfl rfl)
    · rw [Apportioner.openSlot, joinQueue_standing]; exact off
    · rw [Apportioner.openSlot, joinQueue_shedStack]; exact unshed
    · rw [Apportioner.openSlot, mem_joinQueue]; simp

theorem Apportioner.Consistent.release (h : a.Consistent) (i : Fin 16) : (a.release i).Consistent := by
  refine h.update (sameOff_release a i) ⟨nodup_filter_ne h.once.standing i, nodup_filter_ne h.once.shedStack i,
    nodup_filter_ne h.once.waiting i⟩ ?_
  exact agrees_of_belongs (congrArg Claim.plain (release_claim a i)) (iff_of_false (not_mem_filter_self _ i) id)
    (iff_of_false (not_mem_filter_self _ i) id) (iff_of_false (not_mem_filter_self _ i) id) (belongs_free rfl rfl)

theorem Apportioner.Consistent.collect (h : a.Consistent) (offered : (a.claims[i]).state = .offered) :
    (a.collect i).Consistent := by
  have granted := h.granted_offered offered
  obtain ⟨standing, shed, waiting⟩ := h.offered_iff offered
  refine h.update (sameOff_collect a i) ⟨h.once.standing, h.once.shedStack, h.once.waiting⟩ ?_
  exact agrees_of_belongs (congrArg Claim.plain (collect_claim a i)) standing shed
    (waiting.trans (iff_of_false id granted.not_lt)) (belongs_held rfl granted.le)

theorem Apportioner.Consistent.amend (h : a.Consistent) (i : Fin 16) (asked : Nat) : (a.amend i asked).Consistent := by
  have own := setClaim_claims_self a i
  have set {c : Claim} {standing shed waiting : Prop} (hs : i ∈ a.standing ↔ standing) (hd : i ∈ a.shedStack ↔ shed)
      (hw : i ∈ a.waiting ↔ waiting) (belongs : c.plain.Belongs standing shed waiting) :
      (a.setClaim i c).Consistent :=
    h.update (sameOff_setClaim a i _) ⟨h.once.standing, h.once.shedStack, h.once.waiting⟩
      (agrees_of_belongs (congrArg Claim.plain (own c)) hs hd hw belongs)
  unfold Apportioner.amend
  simp only
  split
  case h_1 => exact h
  case h_2 state =>
    obtain ⟨standing, shed, waiting⟩ := h.waiting_iff state
    have none := h.granted_zero (i := i) (by rw [state]; decide) (by rw [state]; decide)
    exact set standing shed waiting (belongs_waiting state none)
  case h_3 state =>
    obtain ⟨standing, shed, waiting⟩ := h.shed_iff state
    have none := h.granted_zero (i := i) (by rw [state]; decide) (by rw [state]; decide)
    exact set standing shed waiting (belongs_shed state none)
  case h_4 state =>
    obtain ⟨standing, shed, waiting⟩ := h.offered_iff state
    split
    · exact set standing shed waiting (belongs_offered state rfl)
    · exact h
  case h_5 state =>
    obtain ⟨standing, shed, -⟩ := h.held_iff state
    split
    · refine h.update ((sameOff_setClaim a i _).trans (sameOff_leaveQueue _ i))
        ⟨h.once.standing, h.once.shedStack, nodup_filter_ne h.once.waiting i⟩ ?_
      exact agrees_of_belongs (congrArg Claim.plain (own _)) standing shed
        (iff_of_false (not_mem_filter_self _ i) (lt_irrefl _)) (belongs_held state le_rfl)
    · next more =>
      refine h.update ((sameOff_setClaim a i _).trans (sameOff_joinQueue _ i))
        ⟨(joinQueue_standing _ i).symm ▸ h.once.standing, (joinQueue_shedStack _ i).symm ▸ h.once.shedStack,
          nodup_joinQueue (by exact h.once.waiting) i⟩ ?_
      have less := Nat.lt_of_not_le more
      refine agrees_of_belongs (c := Claim.plain { a.claims[i] with asked := asked })
        (by rw [joinQueue_claims]; exact congrArg Claim.plain (own _))
        (by rw [joinQueue_standing]; exact standing) (by rw [joinQueue_shedStack]; exact shed) ?_
        (belongs_held state less.le)
      rw [mem_joinQueue]
      exact iff_of_true (.inr rfl) less

end

end Sys2Proof.Machine
end

section
/-!
Taking power back, granting it, and the order of the candidates (R25, R32, R35 to R37, R43 to R49): each keeps claims and
collections in agreement, and what it is to the granted sum.
-/
namespace Sys2Proof.Machine

/-! ### Operations that add nothing to the granted sum -/

section
variable {a b : Apportioner} {i : Fin 16}

theorem Apportioner.SameOff.grantedSum_le (h : a.SameOff [i] b) (le : (b.claims[i]).share ≤ (a.claims[i]).share) :
    b.grantedSum ≤ a.grantedSum := by
  have moved := h.grantedSum
  omega

theorem release_grantedSum_le (a : Apportioner) (i : Fin 16) : (a.release i).grantedSum ≤ a.grantedSum := by
  refine (sameOff_release a i).grantedSum_le ?_
  rw [release_claim]
  exact Nat.zero_le _

theorem openSlot_grantedSum_le (a : Apportioner) (i : Fin 16) (consumer priority asked tag : Nat) :
    (a.openSlot i consumer priority asked tag).grantedSum ≤ a.grantedSum := by
  refine (sameOff_openSlot a i ..).grantedSum_le ?_
  rw [openSlot_claim]
  exact Nat.zero_le _

theorem collect_grantedSum_le (offered : (a.claims[i]).state = .offered) :
    (a.collect i).grantedSum ≤ a.grantedSum := by
  refine (sameOff_collect a i).grantedSum_le ?_
  rw [collect_claim, share_of_standing (.inl rfl), share_of_standing (.inr offered)]

theorem share_of_same {c d : Claim} (state : d.state = c.state) (granted : d.granted ≤ c.granted) :
    d.share ≤ c.share := by
  unfold Claim.share Claim.standing
  rw [state]
  split
  · exact granted
  · exact le_rfl

theorem amend_grantedSum_le (h : a.Consistent) (i : Fin 16) (asked : Nat) :
    (a.amend i asked).grantedSum ≤ a.grantedSum := by
  have own := setClaim_claims_self a i
  refine (sameOff_amend a i asked).grantedSum_le ?_
  unfold Apportioner.amend
  simp only
  split
  case h_1 => exact le_rfl
  case h_2 => rw [own]; exact share_of_same rfl le_rfl
  case h_3 => rw [own]; exact share_of_same rfl le_rfl
  case h_4 state =>
    split
    · next le =>
      rw [own]
      exact share_of_same rfl (by rw [h.granted_offered state]; exact le)
    · exact le_rfl
  case h_5 =>
    split
    · next le =>
      change ((a.setClaim i _).claims[i]).share ≤ _
      rw [own]
      exact share_of_same rfl le
    · simp only [joinQueue_claims, own]
      exact share_of_same rfl le_rfl

/-- An engine's request keeps claims and collections in agreement and adds nothing to the granted sum (R45, R46). -/
theorem engineAsk_keeps (h : a.Consistent) (i : Fin 16) (priority asked : Nat) :
    (a.engineAsk i priority asked).Consistent ∧ (a.engineAsk i priority asked).grantedSum ≤ a.grantedSum := by
  unfold Apportioner.engineAsk
  simp only
  split
  · next free =>
    split
    · exact ⟨h, le_rfl⟩
    · exact ⟨h.openSlot free .., openSlot_grantedSum_le ..⟩
  · split
    · exact ⟨h.release i, release_grantedSum_le a i⟩
    · exact ⟨h.amend i _, amend_grantedSum_le h i _⟩

end

/-! ### Taking claims back one after another (R32, R36) -/

/-- Every claim listed is taken back. -/
def Apportioner.takeAll (l : List (Fin 16)) (a : Apportioner) : Apportioner := l.foldl (fun b i => b.takeFrom i) a

/-- What taking back the claims listed comes to. -/
structure Apportioner.TakenBack (l : List (Fin 16)) (a b : Apportioner) : Prop where
  consistent : b.Consistent
  same : a.SameOff l b
  standing : b.standing = a.standing.filter fun j => !l.contains j
  sum : b.grantedSum + (l.map fun j => (a.claims[j]).granted).sum = a.grantedSum
  granted : ∀ i ∈ l, (b.claims[i]).granted = 0
  held : ∀ i ∈ l, (a.claims[i]).state = .held → (b.claims[i]).state = .shed
  offered : ∀ i ∈ l, (a.claims[i]).state = .offered → (b.claims[i]).state = .waiting

section
variable {a b c : Apportioner} {i : Fin 16} {l : List (Fin 16)}

theorem takenBack_nil (h : a.Consistent) : a.TakenBack [] a where
  consistent := h
  same := .refl _ a
  standing := by simp
  sum := by simp
  granted := by simp
  held := by simp
  offered := by simp

theorem filter_contains_singleton (l : List (Fin 16)) (i : Fin 16) :
    (l.filter fun j => !([i].contains j)) = l.filter (· != i) :=
  List.filter_congr fun j _ => by simp [bne, Bool.beq_eq_decide_eq]

/-- One claim of the standing list: shed if HELD, withdrawn if OFFERED (R32). -/
theorem takenBack_takeFrom (h : a.Consistent) (on : i ∈ a.standing) : a.TakenBack [i] (a.takeFrom i) := by
  rcases (h.mem_standing i).mp on with state | state
  · have fresh : (a.claims[i]).state ≠ .shed := by rw [state]; decide
    have own : ((a.shed i).claims[i]).plain = _ := shed_claim a i
    have taken : a.takeFrom i = a.shed i := by rw [Apportioner.takeFrom, state]
    rw [taken]
    refine ⟨h.shed fresh, sameOff_shed a i, ?_, ?_, ?_, ?_, ?_⟩
    · rw [shed_standing, filter_contains_singleton]
    · simpa using shed_grantedSum h i
    · exact List.forall_mem_singleton.2 (congrArg Claim.granted own :)
    · exact List.forall_mem_singleton.2 fun _ => (congrArg Claim.state own :)
    · exact List.forall_mem_singleton.2 fun offered => by rw [state] at offered; cases offered
  · have fresh : (a.claims[i]).state ≠ .shed := by rw [state]; decide
    have taken : a.takeFrom i = a.withdraw i := by rw [Apportioner.takeFrom, state]
    rw [taken]
    refine ⟨h.withdraw fresh, sameOff_withdraw a i, ?_, ?_, ?_, ?_, ?_⟩
    · rw [withdraw_standing, filter_contains_singleton]
    · simpa using withdraw_grantedSum h i
    · exact List.forall_mem_singleton.2 (by rw [withdraw_claim])
    · exact List.forall_mem_singleton.2 fun held => by rw [state] at held; cases held
    · exact List.forall_mem_singleton.2 fun _ => by rw [withdraw_claim]

theorem Apportioner.TakenBack.cons (first : a.TakenBack [i] b) (rest : b.TakenBack l c) (new : i ∉ l) :
    a.TakenBack (i :: l) c := by
  have others : ∀ j ∈ l, j ∉ [i] := fun j hj e => new (List.mem_singleton.1 e ▸ hj)
  have own : (c.claims[i]).plain = (b.claims[i]).plain := rest.same.plain i new
  refine ⟨rest.consistent, (first.same.mono (by simp)).trans (rest.same.mono (List.subset_cons_self i l)), ?_, ?_, ?_,
    ?_, ?_⟩
  · rw [rest.standing, first.standing, List.filter_filter]
    exact List.filter_congr fun j _ => by simp [Bool.and_comm]
  · have same : (l.map fun j => (b.claims[j]).granted) = l.map fun j => (a.claims[j]).granted :=
      List.map_congr_left fun j hj => first.same.granted (others j hj)
    have one := first.sum
    have all := rest.sum
    rw [same] at all
    simp only [List.map_cons, List.map_nil, List.sum_cons, List.sum_nil] at one ⊢
    omega
  · refine List.forall_mem_cons.2 ⟨?_, rest.granted⟩
    exact (congrArg Claim.granted own :).trans (first.granted i (List.mem_singleton_self i))
  · refine List.forall_mem_cons.2 ⟨fun held => ?_, fun j hj held => ?_⟩
    · exact (congrArg Claim.state own :).trans (first.held i (List.mem_singleton_self i) held)
    · exact rest.held j hj ((first.same.state (others j hj)).trans held)
  · refine List.forall_mem_cons.2 ⟨fun offered => ?_, fun j hj offered => ?_⟩
    · exact (congrArg Claim.state own :).trans (first.offered i (List.mem_singleton_self i) offered)
    · exact rest.offered j hj ((first.same.state (others j hj)).trans offered)

/-- Claims of the standing list, each taken back once. -/
theorem takenBack_takeAll (h : a.Consistent) (nodup : l.Nodup) (on : ∀ i ∈ l, i ∈ a.standing) :
    a.TakenBack l (a.takeAll l) := by
  induction l generalizing a with
  | nil => exact takenBack_nil h
  | cons i l ih =>
    obtain ⟨new, nodup⟩ := List.nodup_cons.1 nodup
    obtain ⟨first, others⟩ := List.forall_mem_cons.1 on
    have one := takenBack_takeFrom h first
    refine one.cons (ih one.consistent nodup fun j hj => ?_) new
    rw [one.standing, filter_contains_singleton, mem_filter_ne]
    exact ⟨others j hj, fun e => new (e ▸ hj)⟩

/-- Taking back stops at the first point where the granted sum is within the limit. -/
theorem takeBack_eq (limit : Nat) (l : List (Fin 16)) (a : Apportioner) :
    ∃ n ≤ l.length, a.takeBack limit l = a.takeAll (l.take n) ∧
      (∀ m < n, limit < (a.takeAll (l.take m)).grantedSum) ∧
      (n = l.length ∨ (a.takeAll (l.take n)).grantedSum ≤ limit) := by
  induction l generalizing a with
  | nil => exact ⟨0, le_rfl, rfl, fun m hm => absurd hm (Nat.not_lt_zero m), .inl rfl⟩
  | cons i l ih =>
    by_cases fits : a.grantedSum ≤ limit
    · refine ⟨0, Nat.zero_le _, ?_, fun m hm => absurd hm (Nat.not_lt_zero m), .inr fits⟩
      rw [Apportioner.takeBack, if_pos fits]
      rfl
    · obtain ⟨n, le, eq, minimal, stop⟩ := ih (a.takeFrom i)
      refine ⟨n + 1, Nat.succ_le_succ le, ?_, fun m hm => ?_, stop.imp (congrArg (· + 1)) id⟩
      · rw [Apportioner.takeBack, if_neg fits, eq]
        rfl
      · cases m with
        | zero => exact Nat.lt_of_not_le fits
        | succ m => exact minimal m (Nat.lt_of_succ_lt_succ hm)

/-- Taking back from claims of the standing list comes to taking back the first few of them, as many as it takes. -/
theorem takenBack_takeBack (h : a.Consistent) (nodup : l.Nodup) (on : ∀ i ∈ l, i ∈ a.standing) (limit : Nat) :
    ∃ n ≤ l.length, a.TakenBack (l.take n) (a.takeBack limit l) ∧
      (∀ m < n, a.TakenBack (l.take m) (a.takeAll (l.take m)) ∧ limit < (a.takeAll (l.take m)).grantedSum) ∧
      (n = l.length ∨ (a.takeBack limit l).grantedSum ≤ limit) := by
  have taken : ∀ m, a.TakenBack (l.take m) (a.takeAll (l.take m)) := fun m =>
    takenBack_takeAll h (nodup.sublist (List.take_sublist m l)) fun i hi => on i (List.mem_of_mem_take hi)
  obtain ⟨n, le, eq, minimal, stop⟩ := takeBack_eq limit l a
  rw [eq]
  exact ⟨n, le, taken n, fun m hm => ⟨taken m, minimal m hm⟩, stop⟩

end

/-! ### The shed walk of a budget drop (R25, R32) -/

/-- What the walk leaves standing: the list without its end. -/
theorem filter_not_contains_take_reverse {l : List (Fin 16)} (nodup : l.Nodup) (n : Nat) :
    (l.filter fun j => !(l.reverse.take n).contains j) = l.take (l.length - n) := by
  have ends : ∀ j, (l.reverse.take n).contains j = true ↔ j ∈ l.drop (l.length - n) := fun j => by
    rw [List.contains_iff_mem, List.take_reverse, List.mem_reverse]
  have apart := List.disjoint_take_drop nodup (le_refl (l.length - n))
  have cut := List.filter_append (p := fun j => !(l.reverse.take n).contains j) (l.take (l.length - n))
    (l.drop (l.length - n))
  rw [List.take_append_drop] at cut
  rw [cut, List.filter_eq_self.2, List.filter_eq_nil_iff.2, List.append_nil]
  · intro j hj
    simpa using (ends j).mpr hj
  · intro j hj
    have out : ¬(l.reverse.take n).contains j = true := fun c => apart hj ((ends j).mp c)
    simpa using out

section
variable {a : Apportioner}

/-- The shed walk where the granted sum is above the budget: the end of the standing list taken back. -/
theorem shedWalk_of_excess (h : a.Consistent) {budget : Nat} (stagger : Nat) (excess : budget < a.grantedSum) :
    ∃ n, 0 < n ∧ n ≤ a.standing.length ∧
      ∃ b : Apportioner, a.shedWalk budget stagger = b.startStagger stagger ∧ a.TakenBack (a.walkOrder.take n) b ∧
        b.standing = a.standing.take (a.standing.length - n) ∧ b.grantedSum ≤ budget ∧
        budget < ((a.standing.take (a.standing.length - n + 1)).map fun j => (a.claims[j]).granted).sum := by
  have on : ∀ i ∈ a.walkOrder, i ∈ a.standing := fun i hi => List.mem_reverse.1 hi
  obtain ⟨n, le, taken, minimal, stop⟩ :=
    takenBack_takeBack (l := a.walkOrder) h (List.nodup_reverse.2 h.once.standing) on budget
  have len : a.walkOrder.length = a.standing.length := List.length_reverse
  have standing {m : Nat} {c : Apportioner} (t : a.TakenBack (a.walkOrder.take m) c) :
      c.standing = a.standing.take (a.standing.length - m) :=
    t.standing.trans (filter_not_contains_take_reverse h.once.standing m)
  have some : 0 < n := by
    rcases Nat.eq_zero_or_pos n with rfl | pos
    · have same := taken.sum
      rcases stop with all | fits
      · have none : a.standing = [] := List.length_eq_zero_iff.1 (by rw [← len]; exact all.symm)
        rw [h.grantedSum, none] at excess
        exact absurd excess (Nat.not_lt_zero budget)
      · simp only [List.take_zero, List.map_nil, List.sum_nil] at same
        omega
    · exact pos
  refine ⟨n, some, len ▸ le, _, if_neg (Nat.not_le.2 excess), taken, standing taken, ?_, ?_⟩
  · rcases stop with all | fits
    · have none : (a.takeBack budget a.walkOrder).standing = [] := by rw [standing taken, all, len]; simp
      rw [taken.consistent.grantedSum, none]
      exact Nat.zero_le _
    · exact fits
  · obtain ⟨before, above⟩ := minimal (n - 1) (by omega)
    have left : a.standing.length - (n - 1) = a.standing.length - n + 1 := by omega
    rw [before.consistent.grantedSum, standing before, left] at above
    refine above.trans_eq (congrArg List.sum (List.map_congr_left fun j hj => before.same.granted fun m => ?_))
    have out : j ∈ (a.takeAll (a.walkOrder.take (n - 1))).standing := by rw [standing before, left]; exact hj
    rw [before.standing] at out
    simpa [m] using (List.mem_filter.1 out).2

theorem shedWalk_of_fits {budget : Nat} (stagger : Nat) (fits : a.grantedSum ≤ budget) :
    a.shedWalk budget stagger = a := if_pos fits

/-- The shed walk keeps claims and collections in agreement and brings the granted sum within the budget (R32). -/
theorem shedWalk_keeps (h : a.Consistent) (budget stagger : Nat) :
    (a.shedWalk budget stagger).Consistent ∧ (a.shedWalk budget stagger).grantedSum ≤ budget := by
  by_cases fits : a.grantedSum ≤ budget
  · rw [shedWalk_of_fits stagger fits]
    exact ⟨h, fits⟩
  · obtain ⟨_, _, _, b, eq, taken, _, within, _⟩ := shedWalk_of_excess h stagger (Nat.lt_of_not_le fits)
    rw [eq]
    exact ⟨taken.consistent, within⟩

end

/-- Settles O16: the walk takes back the first claims of the walk order, which is the end of the standing list. -/
theorem shedWalkFits : Obligations.ShedWalkFits := by
  unfold Obligations.ShedWalkFits
  intro a budget stagger i h
  obtain ⟨consistent, within⟩ := shedWalk_keeps h budget stagger
  refine ⟨consistent, within, shedWalk_of_fits stagger, fun excess => ?_, ?_⟩
  · rw [shedWalk_stagger, if_neg (Nat.not_le.2 excess)]
  by_cases fits : a.grantedSum ≤ budget
  · rw [shedWalk_of_fits stagger fits]
    exact ⟨List.prefix_rfl, fun less => absurd less (lt_irrefl _), fun _ => ⟨rfl, rfl, Iff.rfl⟩,
      fun on off => absurd on off⟩
  · obtain ⟨n, some, le, b, eq, taken, standing, -, above⟩ := shedWalk_of_excess h stagger (Nat.lt_of_not_le fits)
    rw [eq]
    have left : (b.startStagger stagger).standing = a.standing.take (a.standing.length - n) := standing
    refine ⟨left ▸ List.take_prefix _ _, fun _ => ?_, fun on => ?_, fun on off => ?_⟩
    · rw [left, List.length_take, Nat.min_eq_left (Nat.sub_le _ _)]
      exact above
    · have out : i ∉ a.walkOrder.take n := fun m => by
        change i ∈ b.standing at on
        rw [taken.standing] at on
        simpa [m] using (List.mem_filter.1 on).2
      exact ⟨taken.same.state out, taken.same.granted out, taken.same.waiting i out⟩
    · have mem : i ∈ a.walkOrder.take n := by
        by_contra out
        exact off ((taken.same.standing i out).mpr on)
      exact ⟨taken.held i mem, taken.offered i mem⟩

/-! ### The candidates (R35) -/

/-- The candidates of a priority. -/
theorem candidates_filter_priority (a : Apportioner) (service : Option Nat) (p q : Nat) :
    ((a.shedStack ++ a.waiting).filter fun i => (a.claims[i]).priority == q && !a.leftOut service i).filter
        (fun i => (a.claims[i]).priority == p) =
      if q = p then
        ((a.shedStack ++ a.waiting).filter fun i => !a.leftOut service i).filter fun i => (a.claims[i]).priority == p
      else [] := by
  rw [List.filter_filter]
  split
  · next e =>
    rw [List.filter_filter, e]
    exact List.filter_congr fun i _ => by rw [← Bool.and_assoc, Bool.and_self]
  · next ne =>
    refine List.filter_eq_nil_iff.2 fun i _ both => ?_
    simp only [Bool.and_eq_true, beq_iff_eq] at both
    exact ne (both.2.1.symm.trans both.1)

/-- Settles O15: the candidates are gathered priority by priority, from the highest. -/
theorem candidatesRanked : Obligations.CandidatesRanked := by
  unfold Obligations.CandidatesRanked
  intro a service p
  have priority {q : Nat} {i : Fin 16} (h : i ∈ (a.shedStack ++ a.waiting).filter fun i =>
      (a.claims[i]).priority == q && !a.leftOut service i) : (a.claims[i]).priority = q := by
    have both := (List.mem_filter.1 h).2
    simp only [Bool.and_eq_true, beq_iff_eq] at both
    exact both.1
  constructor
  · refine List.pairwise_flatMap.2 ⟨fun q _ => ?_, ?_⟩
    · refine List.pairwise_of_forall_mem_list fun i hi j hj => ?_
      rw [priority hi, priority hj]
    · have descending : [7, 6, 5, 4, 3, 2, 1, 0].Pairwise fun q r : Nat => r ≤ q := by decide
      refine descending.imp fun le i hi j hj => ?_
      rw [priority hi, priority hj]
      exact le
  · rw [Apportioner.candidates, List.filter_flatMap]
    simp only [candidates_filter_priority, List.flatMap_cons, List.flatMap_nil]
    have cases : ∀ (x : List (Fin 16)) (p : Fin 8),
        (if 7 = p.val then x else []) ++ ((if 6 = p.val then x else []) ++ ((if 5 = p.val then x else []) ++
          ((if 4 = p.val then x else []) ++ ((if 3 = p.val then x else []) ++ ((if 2 = p.val then x else []) ++
            ((if 1 = p.val then x else []) ++ ((if 0 = p.val then x else []) ++ []))))))) = x := by
      intro x p
      fin_cases p <;> simp
    exact cases _ p

end Sys2Proof.Machine
end

section
/-!
A grant opportunity (R35 to R37) and SHED_SERVICE (R49): the case of a top candidate for which others are shed, the granted
sum, and what a link claim keeps through every operation that is not a request for it.
-/
namespace Sys2Proof.Machine

/-! ### A grant opportunity, case by case (R36, R37) -/

section
variable {a b : Apportioner} {g : GrantArgs} {top i : Fin 16} {rest : List (Fin 16)}

theorem opportunity_of_none (h : a.candidates g.service = []) : a.opportunity g = a := by
  rw [Apportioner.opportunity, h]

theorem opportunity_of_fits (h : a.candidates g.service = top :: rest) (fits : a.fits g.budget top = true) :
    a.opportunity g = a.grant g top := by
  rw [Apportioner.opportunity, h]
  exact if_pos fits

theorem opportunity_of_room (h : a.candidates g.service = top :: rest) (not : a.fits g.budget top = false)
    (room : a.roomByShedding g.budget top = true) :
    a.opportunity g = (a.takeBack (g.budget - a.increase top) (a.lowerHolders top)).grant g top := by
  rw [Apportioner.opportunity, h]
  simp only [not, room, Bool.false_eq_true, if_false, if_true]

theorem opportunity_of_skip (h : a.candidates g.service = top :: rest) (not : a.fits g.budget top = false)
    (room : a.roomByShedding g.budget top = false) :
    (rest.find? (a.fits g.budget) = none → a.opportunity g = a) ∧
      ∀ i : Fin 16, rest.find? (a.fits g.budget) = some i → a.opportunity g = a.grant g i := by
  refine ⟨fun e => ?_, fun i e => ?_⟩
  · rw [Apportioner.opportunity, h]
    simp only [not, room, e, Bool.false_eq_true, if_false]
  · rw [Apportioner.opportunity, h]
    simp only [not, room, e, Bool.false_eq_true, if_false]

theorem mem_of_mem_candidates {service : Option Nat} (h : i ∈ a.candidates service) :
    i ∈ a.shedStack ∨ i ∈ a.waiting := by
  obtain ⟨p, -, mem⟩ := List.mem_flatMap.1 h
  exact List.mem_append.1 (List.mem_of_mem_filter mem)

/-- A candidate is SHED, WAITING or HELD with a shortfall. -/
theorem Apportioner.Consistent.candidate (h : a.Consistent) {service : Option Nat}
    (candidate : i ∈ a.candidates service) : (a.claims[i]).state ≠ .offered := by
  intro offered
  obtain ⟨-, shed, waiting⟩ := h.offered_iff offered
  exact (mem_of_mem_candidates candidate).elim shed.mp waiting.mp

theorem fits_iff (budget : Nat) : a.fits budget i = true ↔ a.grantedSum + a.increase i ≤ budget := by
  simp [Apportioner.fits]

theorem Apportioner.SameOff.increase {l : List (Fin 16)} (h : a.SameOff l b) (out : i ∉ l) :
    b.increase i = a.increase i := by
  unfold Apportioner.increase
  rw [h.asked out, h.granted out]

theorem lowerHolders_lower {j : Fin 16} (h : j ∈ a.lowerHolders top) :
    (a.claims[j]).priority < (a.claims[top]).priority := by
  simpa using (List.mem_filter.1 h).2

/-- Where the top candidate has room by shedding: the first few of the lower claims in walk order are taken back, as many
as it takes to make it fit, and it is granted (R36). -/
theorem opportunity_sheds (h : a.Consistent) (candidates : a.candidates g.service = top :: rest)
    (not : a.fits g.budget top = false) (room : a.roomByShedding g.budget top = true) :
    ∃ n ≤ (a.lowerHolders top).length, ∃ b : Apportioner,
      a.opportunity g = b.grant g top ∧ a.TakenBack ((a.lowerHolders top).take n) b ∧
        b.grantedSum + a.increase top ≤ g.budget ∧
        ∀ m < n, ∃ c : Apportioner, a.TakenBack ((a.lowerHolders top).take m) c ∧
          g.budget < c.grantedSum + a.increase top := by
  have nodup : (a.lowerHolders top).Nodup := (List.nodup_reverse.2 h.once.standing).filter _
  have on : ∀ i ∈ a.lowerHolders top, i ∈ a.standing := fun i hi =>
    List.mem_reverse.1 (List.mem_of_mem_filter hi)
  obtain ⟨n, le, taken, minimal, stop⟩ := takenBack_takeBack h nodup on (g.budget - a.increase top)
  have space : a.grantedSum - ((a.lowerHolders top).map fun j => (a.claims[j]).granted).sum + a.increase top ≤
      g.budget := by simpa [Apportioner.roomByShedding] using room
  refine ⟨n, le, _, opportunity_of_room candidates not room, taken, ?_, fun m hm => ?_⟩
  · rcases stop with all | fits
    · have sum := taken.sum
      rw [all, List.take_length] at sum
      omega
    · omega
  · obtain ⟨before, above⟩ := minimal m hm
    exact ⟨_, before, by omega⟩

/-- A grant opportunity keeps claims and collections in agreement and the granted sum within the budget it reads. -/
theorem opportunity_keeps (h : a.Consistent) (within : a.grantedSum ≤ g.budget) :
    (a.opportunity g).Consistent ∧ (a.opportunity g).grantedSum ≤ g.budget := by
  have granted {i : Fin 16} (candidate : i ∈ a.candidates g.service) (fits : a.fits g.budget i = true) :
      (a.grant g i).Consistent ∧ (a.grant g i).grantedSum ≤ g.budget := by
    refine ⟨h.grant g (h.candidate candidate), ?_⟩
    rw [grant_grantedSum g h]
    exact (fits_iff _).mp fits
  rcases candidates : a.candidates g.service with _ | ⟨top, rest⟩
  · rw [opportunity_of_none candidates]
    exact ⟨h, within⟩
  cases fits : a.fits g.budget top with
  | true =>
    rw [opportunity_of_fits candidates fits]
    exact granted (candidates ▸ List.mem_cons_self) fits
  | false =>
    cases room : a.roomByShedding g.budget top with
    | true =>
      obtain ⟨n, -, b, eq, taken, sum, -⟩ := opportunity_sheds h candidates fits room
      have out : top ∉ (a.lowerHolders top).take n := fun m =>
        lt_irrefl _ (lowerHolders_lower (List.mem_of_mem_take m))
      have fresh : (b.claims[top]).state ≠ .offered := by
        rw [taken.same.state out]
        exact h.candidate (candidates ▸ List.mem_cons_self)
      rw [eq]
      refine ⟨taken.consistent.grant g fresh, ?_⟩
      rw [grant_grantedSum g taken.consistent, taken.same.increase out]
      exact sum
    | false =>
      obtain ⟨none, some⟩ := opportunity_of_skip candidates fits room
      rcases found : rest.find? (a.fits g.budget) with _ | i
      · rw [none found]
        exact ⟨h, within⟩
      · rw [some i found]
        exact granted (candidates ▸ List.mem_cons_of_mem top (List.mem_of_find?_eq_some found))
          (List.find?_some found)

end

/-! ### SHED_SERVICE (R49) -/

section
variable {a : Apportioner}

theorem shedAll_keeps (h : a.Consistent) {l : List (Fin 16)} (nodup : l.Nodup)
    (fresh : ∀ i ∈ l, (a.claims[i]).state ≠ .shed) :
    (l.foldl (fun b i => b.shed i) a).Consistent ∧
      (l.foldl (fun b i => b.shed i) a).grantedSum ≤ a.grantedSum := by
  induction l generalizing a with
  | nil => exact ⟨h, le_rfl⟩
  | cons i l ih =>
    obtain ⟨new, nodup⟩ := List.nodup_cons.1 nodup
    obtain ⟨first, others⟩ := List.forall_mem_cons.1 fresh
    obtain ⟨consistent, sum⟩ := ih (h.shed first) nodup fun j hj => by
      rw [(sameOff_shed a i).state (fun e => new (List.mem_singleton.1 e ▸ hj))]
      exact others j hj
    have one := shed_grantedSum h i
    exact ⟨consistent, by rw [List.foldl_cons]; omega⟩

theorem serviceClaims_nodup (h : a.Consistent) (prio : Nat) : (a.serviceClaims prio).Nodup := by
  refine (List.Nodup.append (List.nodup_reverse.2 h.once.standing) (h.once.waiting.filter _) ?_).filter _
  intro i standing waiting
  have state : (a.claims[i]).state = .waiting := by simpa using (List.mem_filter.1 waiting).2
  exact (h.waiting_iff state).1.mp (List.mem_reverse.1 standing)

theorem serviceClaims_fresh (h : a.Consistent) {prio : Nat} {i : Fin 16} (hi : i ∈ a.serviceClaims prio) :
    (a.claims[i]).state ≠ .shed := by
  intro shed
  obtain ⟨off, -, unqueued⟩ := h.shed_iff shed
  rcases List.mem_append.1 (List.mem_of_mem_filter hi) with standing | waiting
  · exact off.mp (List.mem_reverse.1 standing)
  · exact unqueued.mp (List.mem_of_mem_filter waiting)

theorem serviceShed_keeps (h : a.Consistent) (prio stagger : Nat) :
    (a.serviceShed prio stagger).Consistent ∧ (a.serviceShed prio stagger).grantedSum ≤ a.grantedSum := by
  unfold Apportioner.serviceShed
  split
  · exact ⟨h, le_rfl⟩
  · exact shedAll_keeps h (serviceClaims_nodup h prio) fun _ hi => serviceClaims_fresh h hi

end

/-! ### What a link claim keeps -/

/-- The claim, if there is one, lives on: its slot is not FREE, and consumer, priority, asked and tag are as they were. -/
def Claim.Lives (c d : Claim) : Prop :=
  c.state ≠ .free →
    d.state ≠ .free ∧ d.consumer = c.consumer ∧ d.priority = c.priority ∧ d.asked = c.asked ∧ d.tag = c.tag

theorem Claim.Lives.refl (c : Claim) : c.Lives c := fun h => ⟨h, rfl, rfl, rfl, rfl⟩

theorem Claim.Lives.trans {c d e : Claim} (h : c.Lives d) (k : d.Lives e) : c.Lives e := by
  intro live
  obtain ⟨one, consumer, priority, asked, tag⟩ := h live
  obtain ⟨two, consumer', priority', asked', tag'⟩ := k one
  exact ⟨two, consumer'.trans consumer, priority'.trans priority, asked'.trans asked, tag'.trans tag⟩

theorem Claim.Lives.of_plain {c d : Claim} (h : d.plain = c.plain) : c.Lives d := fun live =>
  ⟨by rw [show d.state = c.state from (congrArg Claim.state h :)]; exact live, (congrArg Claim.consumer h :),
    (congrArg Claim.priority h :), (congrArg Claim.asked h :), (congrArg Claim.tag h :)⟩

/-- Every claim in a link slot lives on. -/
def Apportioner.LinksLive (a b : Apportioner) : Prop := ∀ i : Fin 16, 6 ≤ i.val → (a.claims[i]).Lives (b.claims[i])

section
variable {a b c : Apportioner} {i : Fin 16}

theorem Apportioner.LinksLive.refl (a : Apportioner) : a.LinksLive a := fun _ _ => .refl _

theorem Apportioner.LinksLive.trans (h : a.LinksLive b) (k : b.LinksLive c) : a.LinksLive c :=
  fun i hi => (h i hi).trans (k i hi)

theorem linksLive_of_claims (h : b.claims = a.claims) : a.LinksLive b := fun i _ => by rw [h]; exact .refl _

theorem Apportioner.SameOff.linksLive (h : a.SameOff [i] b) (own : (a.claims[i]).Lives (b.claims[i])) :
    a.LinksLive b := by
  intro j _
  by_cases e : j = i
  · rw [e]; exact own
  · exact .of_plain (h.plain j (by simpa using e))

theorem linksLive_engineAsk (a : Apportioner) (engine : i.val < 6) (priority asked : Nat) :
    a.LinksLive (a.engineAsk i priority asked) := by
  have other : ∀ {b : Apportioner}, a.SameOff [i] b → a.LinksLive b := fun h j hj =>
    .of_plain (h.plain j fun e => by rw [List.mem_singleton.1 e] at hj; omega)
  unfold Apportioner.engineAsk
  simp only
  split
  · split
    · exact .refl a
    · exact other (sameOff_openSlot a i ..)
  · split
    · exact other (sameOff_release a i)
    · exact other (sameOff_amend a i _)

theorem linksLive_shed (a : Apportioner) (i : Fin 16) : a.LinksLive (a.shed i) := by
  refine (sameOff_shed a i).linksLive fun _ => ?_
  have own := shed_claim a i
  have state : ((a.shed i).claims[i]).state = .shed := (congrArg Claim.state own :)
  exact ⟨by rw [state]; decide, (congrArg Claim.consumer own :), (congrArg Claim.priority own :),
    (congrArg Claim.asked own :), (congrArg Claim.tag own :)⟩

theorem linksLive_withdraw (a : Apportioner) (i : Fin 16) : a.LinksLive (a.withdraw i) := by
  refine (sameOff_withdraw a i).linksLive fun _ => ?_
  rw [withdraw_claim]
  exact ⟨by simp, rfl, rfl, rfl, rfl⟩

theorem linksLive_takeFrom (a : Apportioner) (i : Fin 16) : a.LinksLive (a.takeFrom i) := by
  unfold Apportioner.takeFrom
  split
  · exact linksLive_shed a i
  · exact linksLive_withdraw a i
  · exact .refl a
  · exact .refl a
  · exact .refl a

theorem linksLive_takeBack (limit : Nat) (l : List (Fin 16)) (a : Apportioner) : a.LinksLive (a.takeBack limit l) := by
  induction l generalizing a with
  | nil => exact .refl a
  | cons i l ih =>
    unfold Apportioner.takeBack
    split
    · exact .refl a
    · exact (linksLive_takeFrom a i).trans (ih _)

theorem linksLive_shedWalk (budget stagger : Nat) (a : Apportioner) : a.LinksLive (a.shedWalk budget stagger) := by
  unfold Apportioner.shedWalk
  split
  · exact .refl a
  · exact (linksLive_takeBack budget _ a).trans (linksLive_of_claims rfl)

theorem linksLive_grant (g : GrantArgs) (i : Fin 16) (a : Apportioner) : a.LinksLive (a.grant g i) := by
  refine (sameOff_grant g a i).linksLive fun live => ?_
  by_cases held : (a.claims[i]).state = .held
  · rw [grant_held_claim g held]
    exact ⟨live, rfl, rfl, rfl, rfl⟩
  · obtain ⟨n, e⟩ := grant_other g held
    rw [e]
    refine ⟨?_, rfl, rfl, rfl, rfl⟩
    simp only
    split <;> decide

theorem linksLive_opportunity (g : GrantArgs) (a : Apportioner) : a.LinksLive (a.opportunity g) := by
  unfold Apportioner.opportunity
  split
  · exact .refl a
  split
  · exact linksLive_grant g _ a
  split
  · exact (linksLive_takeBack _ _ a).trans (linksLive_grant g _ _)
  split
  · exact .refl a
  · exact linksLive_grant g _ a

theorem linksLive_serviceShed (prio stagger : Nat) (a : Apportioner) : a.LinksLive (a.serviceShed prio stagger) := by
  have all : ∀ (l : List (Fin 16)) (b : Apportioner), b.LinksLive (l.foldl (fun b i => b.shed i) b) := by
    intro l
    induction l with
    | nil => exact .refl
    | cons i l ih => exact fun b => (linksLive_shed b i).trans (ih _)
  unfold Apportioner.serviceShed
  split
  · exact .refl a
  · exact (all _ a).trans (linksLive_of_claims rfl)

end

end Sys2Proof.Machine
end

section
/-!
The acts of the Load Apportioner of its own accord, within whatever the blocks do to each other in an event: an engine's
request, the shed walk of a budget drop, SHED_SERVICE, a grant opportunity. Every operation of the blocks is made of such acts
as far as the claims and the budget go, so that a law of the claims need be shown of the acts alone.
-/
namespace Sys2Proof.Machine

/-! ### The acts -/

/-- One act at the claims, or a change that leaves the claims alone and takes nothing from the apportionable budget. A
budget that drops comes with its shed walk (R32). -/
inductive ClaimStep (s t : State) : Prop
  | still : t.app = s.app → s.apportionable ≤ t.apportionable → ClaimStep s t
  | idle : t.app = { s.app with stagger := none } → t.apportionable = s.apportionable → ClaimStep s t
  | walk (n : Nat) : t.app = s.app.shedWalk t.apportionable n → ClaimStep s t
  | ask (i : Fin 16) (priority asked : Nat) : i.val < 6 → t.app = s.app.engineAsk i priority asked →
      t.apportionable = s.apportionable → ClaimStep s t
  | grant (g : GrantArgs) : g.budget = s.apportionable → t.app = s.app.opportunity g →
      t.apportionable = s.apportionable → ClaimStep s t
  | service (prio n : Nat) : t.app = s.app.serviceShed prio n → t.apportionable = s.apportionable → ClaimStep s t

/-- A run of such acts. -/
abbrev Ripples (s t : State) : Prop := Relation.ReflTransGen ClaimStep s t

theorem ClaimStep.keepsBudget {s t : State} (h : ClaimStep s t) (w : WithinBudget s) : WithinBudget t := by
  obtain ⟨consistent, within⟩ := w
  unfold WithinBudget
  cases h with
  | still app budget => rw [app]; exact ⟨consistent, within.trans budget⟩
  | idle app budget => rw [app, budget]; exact ⟨consistent, within⟩
  | walk n app => rw [app]; exact shedWalk_keeps consistent _ n
  | ask i priority asked _ app budget =>
    rw [app, budget]
    exact (engineAsk_keeps consistent i priority asked).imp_right fun le => le.trans within
  | grant g limit app budget =>
    rw [app, budget, ← limit]
    exact opportunity_keeps consistent (limit ▸ within)
  | service prio n app budget =>
    rw [app, budget]
    exact (serviceShed_keeps consistent prio n).imp_right fun le => le.trans within

theorem ClaimStep.linksLive {s t : State} (h : ClaimStep s t) : s.app.LinksLive t.app := by
  cases h with
  | still app => exact linksLive_of_claims (by rw [app])
  | idle app => exact linksLive_of_claims (by rw [app])
  | walk n app => rw [app]; exact linksLive_shedWalk _ n _
  | ask i priority asked engine app => rw [app]; exact linksLive_engineAsk _ engine _ _
  | grant g _ app => rw [app]; exact linksLive_opportunity g _
  | service prio n app => rw [app]; exact linksLive_serviceShed prio n _

/-- The law of R29 holds after any run of acts. -/
theorem Ripples.keepsBudget {s t : State} (h : Ripples s t) (w : WithinBudget s) : WithinBudget t := by
  induction h with
  | refl => exact w
  | tail _ step ih => exact step.keepsBudget ih

/-- No act frees a link claim or changes what its owner asked for. -/
theorem Ripples.linksLive {s t : State} (h : Ripples s t) : s.app.LinksLive t.app := by
  induction h with
  | refl => exact .refl _
  | tail _ step ih => exact ih.trans step.linksLive

/-! ### Combining -/

/-- None of the pieces holds the claims or what the budget is computed from. -/
def Unclaimed (ps : List Piece) : Bool := ps.all fun p => p != .app && p != .store && p != .supply

theorem Unclaimed.not_mem {ps : List Piece} (h : Unclaimed ps = true) :
    Piece.app ∉ ps ∧ Piece.store ∉ ps ∧ Piece.supply ∉ ps := by
  have none := List.all_eq_true.mp h
  refine ⟨fun mem => ?_, fun mem => ?_, fun mem => ?_⟩ <;> simpa using none _ mem

section
variable {s t u : State}

theorem apportionable_congr (store : t.store = s.store) (supply : t.supply = s.supply) :
    t.apportionable = s.apportionable := by
  simp only [State.apportionable, State.budget, State.setting, store, supply]

theorem ripples_of_still (app : t.app = s.app) (budget : s.apportionable ≤ t.apportionable) : Ripples s t :=
  .single (.still app budget)

theorem ripples_of_changes {ps : List Piece} (h : Changes ps s t) (unclaimed : Unclaimed ps = true) :
    Ripples s t := by
  obtain ⟨app, store, supply⟩ := Unclaimed.not_mem unclaimed
  exact ripples_of_still (h .app app) (apportionable_congr (h .store store) (h .supply supply)).ge

theorem Ripples.rest {ps : List Piece} (h : Ripples s t) (k : Changes ps t u) (unclaimed : Unclaimed ps = true) :
    Ripples s u := h.trans (ripples_of_changes k unclaimed)

theorem Ripples.ite {a b : State} {c : Prop} [Decidable c] (ha : Ripples s a) (hb : Ripples s b) :
    Ripples s (if c then a else b) := by
  split <;> assumption

theorem Ripples.onlyIf {c : Prop} [Decidable c] (h : Ripples s t) (k : Ripples t u) :
    Ripples s (if c then u else t) := .ite (h.trans k) h

theorem Ripples.foldl {α : Type} {f : State → α → State} (hf : ∀ t x, Ripples t (f t x)) (l : List α) (s : State) :
    Ripples s (l.foldl f s) := by
  induction l generalizing s with
  | nil => exact .refl
  | cons x l ih => exact (hf s x).trans (ih _)

end

/-! ### The Load Apportioner -/

theorem apportion_apportionable (s : State) (f : Apportioner → Apportioner) :
    (s.apportion f).apportionable = s.apportionable :=
  apportionable_congr (changes_apportion s f .store (by decide)) (changes_apportion s f .supply (by decide))

theorem apportionStarting_apportionable (s : State) (f : Apportioner → Apportioner) :
    (s.apportionStarting f).apportionable = s.apportionable := apportion_apportionable s f

theorem claimRequest_app (s : State) (f : Apportioner → Apportioner) : (s.claimRequest f).app = f s.app := by
  unfold State.claimRequest
  split
  · next same => exact same.symm
  · exact apportion_app s f

theorem claimRequest_apportionable (s : State) (f : Apportioner → Apportioner) :
    (s.claimRequest f).apportionable = s.apportionable :=
  apportionable_congr (changes_claimRequest s f .store (by decide)) (changes_claimRequest s f .supply (by decide))

theorem ripples_engineRequest (s : State) {i : Fin 16} (engine : i.val < 6) (n : Nat) :
    Ripples s (s.engineRequest i n) :=
  .single (.ask i _ n engine (claimRequest_app s _) (claimRequest_apportionable s _))

/-! ### The yaw engine -/

theorem ripples_park (s : State) : Ripples s s.park := by
  unfold State.park
  refine Relation.ReflTransGen.trans ?_ (ripples_engineRequest _ (by decide) _)
  exact (ripples_of_changes (changes_yaw s _) rfl).rest (changes_openWindows _) rfl

theorem ripples_leaveBraking (s : State) : Ripples s s.leaveBraking := by
  have base : ∀ y : Yaw, Ripples s { s with yaw := y } := fun y => ripples_of_changes (changes_yaw s y) rfl
  unfold State.leaveBraking
  split
  · exact ripples_park s
  · split
    · exact (base _).rest (changes_enterReleasing _) rfl
    · split
      · split
        · exact base _
        · exact (base _).rest (changes_enterReleasing _) rfl
      · exact ripples_park s

theorem ripples_enterBraking (s : State) : Ripples s s.enterBraking := by
  have brake : Ripples s s.applyBrake := ripples_of_changes (changes_applyBrake s) rfl
  exact .ite brake (brake.trans (ripples_leaveBraking _))

theorem ripples_stopPath (s : State) : Ripples s s.stopPath := by
  unfold State.stopPath
  split
  · exact ripples_park s
  · exact ripples_enterBraking s
  · exact ripples_of_changes (changes_enterSettling s) rfl
  · exact ripples_park s
  · exact .refl
  · exact .refl
  · exact .refl

theorem ripples_stopRunning (s : State) (o : RouteOutcome) : Ripples s (s.stopRunning o) :=
  .ite ((ripples_of_changes (changes_endRoute s o) rfl).trans (ripples_stopPath _)) .refl

theorem ripples_yawShed (s : State) : Ripples s s.yawShed :=
  (ripples_of_changes (changes_yaw s _) rfl).trans (ripples_stopRunning _ _)

theorem ripples_yawGranted (s : State) : Ripples s s.yawGranted :=
  .ite (ripples_of_changes (changes_enterReleasing s) rfl) .refl

theorem ripples_startRun (s : State) (r : Fin 6) : Ripples s (s.startRun r) := by
  unfold State.startRun
  refine Relation.ReflTransGen.trans ?_ (ripples_engineRequest _ (by decide) _)
  exact (ripples_of_changes (changes_yaw s _) rfl).rest (changes_clearWindows _) rfl

theorem ripples_preempt (s : State) (r : Fin 6) : Ripples s (s.preempt r) := by
  have base : Ripples s (s.takeRoute r) := ripples_of_changes (changes_takeRoute s r) rfl
  unfold State.preempt
  simp only
  split
  · exact base.rest (changes_startClaimWait _) rfl
  · exact base.trans (ripples_enterBraking _)
  · exact base.rest (changes_enterSettling _) rfl
  · exact base.rest (changes_enterReleasing _) rfl
  · exact base
  · exact base
  · exact base

theorem ripples_admitRoute (s : State) (r : Fin 6) : Ripples s (s.admitRoute r) := by
  have ended : Ripples s (s.endRoute .preempted) := ripples_of_changes (changes_endRoute s _) rfl
  have running := fun x => ended.rest (changes_setRoute (s.endRoute .preempted) r x) rfl
  exact .ite ((running _).trans (ripples_preempt _ r)) ((running _).trans (ripples_startRun _ r))

/-! ### Consequences and owners -/

theorem ripples_shedService (s : State) : Ripples s s.shedService :=
  .single (.service _ _ (apportion_app s _) (apportionStarting_apportionable s _))

theorem ripples_tell (s : State) (told now : Consequences) : Ripples s (s.tell told now) := by
  unfold State.tell
  simp only
  refine Ripples.onlyIf ?_ (ripples_of_changes (changes_claimEvent _) rfl)
  refine Ripples.onlyIf ?_ (ripples_shedService _)
  refine Ripples.onlyIf ?_ (ripples_stopRunning _ _)
  refine Ripples.onlyIf ?_ (ripples_of_changes (changes_holdConverter _) rfl)
  exact Ripples.onlyIf .refl (ripples_of_changes (changes_tripConverter _) rfl)

theorem ripples_cond (s : State) (c : Conditions) : Ripples s { s with cond := c } := ripples_of_still rfl le_rfl

theorem ripples_judge (s : State) : Ripples s s.judge :=
  (ripples_cond s _).trans (ripples_tell _ _ _)

theorem ripples_report (s : State) (g : Group) : Ripples s (s.report g) :=
  (ripples_of_changes (changes_takeReports s g) rfl).trans (ripples_judge _)

theorem ripples_tellConverter (before s : State) : Ripples s (State.tellConverter before s) := by
  have base : ∀ c : Converter, Ripples s { s with conv := c } := fun c => ripples_of_changes (changes_conv s c) rfl
  unfold State.tellConverter
  simp only
  exact .ite (base _) (.ite (.ite ((base _).trans (ripples_report _ _)) (base _)) .refl)

theorem ripples_tellYaw (before s : State) : Ripples s (State.tellYaw before s) :=
  .ite (ripples_yawGranted s) (.ite (ripples_yawShed s) .refl)

theorem ripples_tellOwners (before s : State) : Ripples s (State.tellOwners before s) :=
  ((ripples_of_changes (changes_tellCooling before s) rfl).trans (ripples_tellConverter before _)).trans
    (ripples_tellYaw before _)

theorem ripples_grantOpportunity (s : State) : Ripples s s.grantOpportunity := by
  have granted : Ripples s (s.apportionStarting (Apportioner.opportunity s.grantArgs)) :=
    .single (.grant s.grantArgs rfl (apportion_app s _) (apportionStarting_apportionable s _))
  exact .ite (granted.trans (ripples_tellOwners s _)) .refl

/-- A budget computed again, the claims being those of the state before: a drop is met by the shed walk (R29, R32). -/
theorem ripples_rebudget {s t : State} (app : t.app = s.app) : Ripples s (State.rebudget s.apportionable t) := by
  unfold State.rebudget
  split
  · refine Relation.ReflTransGen.trans (.single (.walk (t.setting Setting.stagger) ?_)) (ripples_tellOwners t _)
    rw [apportionStarting_apportionable, apportionStarting_app, apportion_app, app]
  · next drop =>
    have same : Ripples s t := ripples_of_still app (Nat.le_of_not_lt drop)
    exact .ite (same.rest (changes_claimEvent t) rfl) same

/-! ### The Cooling Controller -/

theorem ripples_askActuator (s : State) (z : Zone) : Ripples s (s.askActuator z) := by
  unfold State.askActuator
  refine Relation.ReflTransGen.trans ?_ (ripples_engineRequest _ (by cases z <;> decide) _)
  exact ripples_of_changes (changes_setZone s _ _) rfl

theorem ripples_driveActuators (s : State) (zs : List Zone) : Ripples s (State.driveActuators zs s) := by
  refine Relation.ReflTransGen.trans ?_ (ripples_tellOwners s _)
  exact (Ripples.foldl ripples_askActuator zs s).rest (changes_noteActuators _ zs) rfl

theorem ripples_evaluateZones (s : State) (zs : List Zone) : Ripples s (State.evaluateZones zs s) := by
  have zones : Changes [.cool] s (zs.foldl (fun t z => t.setZone z (t.evaluated z)) s) :=
    Changes.foldl (fun t z => changes_setZone t z _) zs s
  refine Relation.ReflTransGen.trans ?_ (ripples_driveActuators _ _)
  refine Relation.ReflTransGen.trans ?_ (ripples_report _ _)
  exact (ripples_of_changes zones rfl).rest (changes_noteZeroHolds s _ zs) rfl

theorem ripples_holdExpired (s : State) (z : Zone) : Ripples s (State.holdExpired z s) :=
  (ripples_of_changes (changes_setZone s _ _) rfl).trans (ripples_evaluateZones _ _)

theorem ripples_freshReading (s : State) (z : Zone) : Ripples s (State.freshReading z s) :=
  (ripples_of_changes (changes_setZone s _ _) rfl).trans (ripples_evaluateZones _ _)

theorem ripples_cool (s : State) (c : Cooling) : Ripples s { s with cool := c } := ripples_of_still rfl le_rfl

theorem ripples_firstEvaluation (s : State) : Ripples s s.firstEvaluation :=
  (ripples_cool s _).trans (ripples_evaluateZones _ _)

theorem ripples_flowReport (s : State) (p : Pump) (f : FlowCheck) (g : Group) :
    Ripples s (((s.setFlow p f).report g).driveActuators [pumpZone p]) :=
  ((ripples_of_changes (changes_setFlow s _ _) rfl).trans (ripples_report _ _)).trans (ripples_driveActuators _ _)

theorem ripples_flowLost (s : State) (p : Pump) : Ripples s (State.flowLost p s) := ripples_flowReport s p _ _

theorem ripples_flowChanged (s : State) (p : Pump) (b : Bool) : Ripples s (State.flowChanged p b s) := by
  have set : ∀ f, Ripples s (s.setFlow p f) := fun f => ripples_of_changes (changes_setFlow s p f) rfl
  unfold State.flowChanged
  simp only
  split
  · exact .refl
  · exact .ite (set _) .refl
  · exact .ite (set _) (set _)
  · exact .ite (ripples_flowReport s p _ _) .refl

/-! ### The Supply Monitor -/

/-- A change of the Supply Monitor's record that keeps the supply state keeps the budget. -/
theorem ripples_supply (s : State) {u : Supply} (state : u.state = s.supply.state) :
    Ripples s { s with supply := u } :=
  ripples_of_still rfl (by simp only [State.apportionable, State.budget, State.setting, state, le_refl])

theorem ripples_changeSupply (s : State) (n : SupplyState) (k : Option Nat) :
    Ripples s (State.changeSupply n k s) :=
  (ripples_rebudget (s := s) (t := { s with supply := s.supply.move n k }) rfl).rest (changes_handSupply _ _ _) rfl

theorem ripples_compareBackup (s : State) : Ripples s s.compareBackup := by
  unfold State.compareBackup
  split
  · exact ripples_changeSupply s _ _
  · exact ripples_changeSupply s _ _
  · exact .refl

theorem ripples_judgeSupply (s : State) (v : Nat) : Ripples s (State.judgeSupply v s) := by
  have count : Ripples s (State.countBelow v s) := ripples_supply s rfl
  unfold State.judgeSupply
  split
  · exact .onlyIf count (ripples_changeSupply _ _ _)
  · simp only
    split
    · exact count.trans (ripples_changeSupply _ _ _)
    · exact count.trans (ripples_supply _ rfl)
  · exact (ripples_compareBackup s).trans (ripples_supply _ rfl)
  · exact (ripples_compareBackup s).trans (ripples_supply _ rfl)

theorem ripples_supplyFrame (s : State) (f : Fast) : Ripples s (State.supplyFrame f s) :=
  (ripples_judgeSupply s _).trans (ripples_report _ _)

theorem ripples_supplyMoved {s : State} {f : State → State} (h : Ripples s (f s)) :
    Ripples s (State.supplyMoved f s) := h.trans (ripples_report _ _)

/-! ### The Converter Sequencer -/

theorem ripples_conv (s : State) (c : Converter) : Ripples s { s with conv := c } :=
  ripples_of_changes (changes_conv s c) rfl

theorem ripples_sequenceFrame (s : State) (v : Nat) : Ripples s (State.sequenceFrame v s) := by
  unfold State.sequenceFrame
  split
  · exact .ite (ripples_conv s _) .refl
  · exact .ite ((ripples_conv s _).trans (ripples_evaluateZones _ _)) .refl
  · exact .refl

theorem ripples_converterFrame (s : State) (f : Fast) : Ripples s (State.converterFrame f s) :=
  ((ripples_conv s _).trans (ripples_sequenceFrame _ _)).trans (ripples_report _ _)

theorem ripples_dischargeExpired (s : State) : Ripples s s.dischargeExpired :=
  .ite ((ripples_of_changes (changes_enterTripped s) rfl).trans (ripples_report _ _)) .refl

theorem ripples_mainChanged (s : State) (b : Bool) : Ripples s (State.mainChanged b s) :=
  .ite (.ite (ripples_conv s _) .refl) (.ite (ripples_report s _) .refl)

/-! ### The yaw's arrivals -/

theorem ripples_align (s : State) (a : Alignment) : Ripples s { s with align := a } :=
  ripples_of_changes (changes_align s a) rfl

theorem ripples_judgeUntwist (s : State) : Ripples s s.judgeUntwist :=
  .ite ((ripples_align s _).trans (ripples_report _ _)) .refl

theorem ripples_encoderMoves (s : State) (a b : Bool) : Ripples s (State.encoderMoves a b s) := by
  have step : ∀ (t : State) (cw : Bool), Ripples t (State.encoderStep cw t) := fun t cw =>
    .ite ((((ripples_of_changes (changes_yaw t _) rfl).rest (changes_judgeTurn _) rfl).trans
      (ripples_judgeUntwist _)).trans (ripples_report _ _)) .refl
  unfold State.encoderMoves
  simp only
  split
  · exact ripples_of_changes (changes_inputs s _) rfl
  · exact (ripples_of_changes (changes_inputs s _) rfl).trans (step _ _)

theorem ripples_claimWaitExpired (s : State) : Ripples s s.claimWaitExpired :=
  .ite ((ripples_of_changes (changes_endRoute s _) rfl).trans (ripples_park _)) .refl

theorem ripples_releaseExpired (s : State) : Ripples s s.releaseExpired :=
  .ite (((ripples_of_changes (changes_endRoute s _) rfl).trans (ripples_enterBraking _)).trans (ripples_report _ _))
    .refl

theorem ripples_stalled (s : State) : Ripples s s.stalled :=
  .ite (((ripples_of_changes (changes_endRoute s _) rfl).rest (changes_enterSettling _) rfl).trans
    (ripples_report _ _)) .refl

theorem ripples_settleExpired (s : State) : Ripples s s.settleExpired := .ite (ripples_enterBraking s) .refl

theorem ripples_applyExpired (s : State) : Ripples s s.applyExpired :=
  .ite ((ripples_report s _).trans (ripples_leaveBraking _)) .refl

theorem ripples_brakeRises (s : State) : Ripples s s.brakeRises := by
  unfold State.brakeRises
  split
  · exact ripples_of_changes (changes_startSegment s) rfl
  · exact ripples_report s _
  · exact ripples_report s _
  · exact ripples_report s _
  · exact .ite (ripples_report s _) .refl
  · exact .refl
  · exact .refl

theorem ripples_brakeFalls (s : State) : Ripples s s.brakeFalls := by
  unfold State.brakeFalls
  split
  · exact (ripples_of_changes (changes_enterSettling s) rfl).trans (ripples_report _ _)
  · exact .ite (ripples_report s _) .refl
  · exact ripples_leaveBraking s
  · exact .refl
  · exact .refl
  · exact .refl
  · exact .refl

theorem ripples_windows (s : State) (f : Window → Window) : Ripples s (State.windows f s) :=
  ripples_of_changes (changes_windows s f) rfl

theorem ripples_motionIndex (s : State) (v : Int) : Ripples s (State.motionIndex v s) := by
  unfold State.motionIndex
  exact (Ripples.ite ((ripples_align s _).trans (ripples_windows _ _)) (ripples_align s _)).trans (ripples_report _ _)

theorem ripples_runAlignment (s : State) (r : Fin 6) (k : Fin 24) (g : Trigger) (d : TargetKind) (v : Int)
    (e : SegDirection) (w : Speed) : Ripples s (State.runAlignment r k g d v e w s) := by
  unfold State.runAlignment
  refine Relation.ReflTransGen.trans ?_ (ripples_admitRoute _ r)
  refine Relation.ReflTransGen.trans ?_ (ripples_align _ _)
  exact (ripples_of_changes (changes_setSegment s _ _) rfl).rest (changes_setRoute _ _ _) rfl

theorem ripples_autoTrigger (s : State) (m : Option Int) (n : Nat) (b : Bool) :
    Ripples s (State.autoTrigger m n b s) := by
  unfold State.autoTrigger
  split
  · exact .refl
  · exact .ite (ripples_runAlignment _ _ _ _ _ _ _ _) .refl

theorem ripples_shortCloses (s : State) : Ripples s s.shortCloses := by
  unfold State.shortCloses
  split
  · exact .refl
  · exact (ripples_align s _).trans (ripples_autoTrigger _ _ _ _)

theorem ripples_closeLong (s : State) (w : Window) : Ripples s (State.closeLong w s) := by
  have closed := ripples_align s
    { s.align with lastLong := w.mean, long := some (Window.fresh (1000 * s.setting Setting.longWindow)) }
  have deferred := fun t : State => (ripples_align t { t.align with untwistDue := true }).trans
    (ripples_report _ [(Cond.untwistDue, .arrives)])
  unfold State.closeLong
  simp only
  exact .ite
    (.ite (closed.trans (ripples_runAlignment _ _ _ _ _ _ _ _))
      ((closed.trans (deferred _)).trans (ripples_autoTrigger _ _ _ _)))
    (closed.trans (ripples_autoTrigger _ _ _ _))

theorem ripples_longCloses (s : State) : Ripples s s.longCloses := by
  unfold State.longCloses
  split
  · exact .refl
  · exact ripples_closeLong s _

/-! ### The Meter Receiver and the lines -/

theorem ripples_meter (s : State) (m : Meter) : Ripples s { s with meter := m } :=
  ripples_of_changes (changes_meter s m) rfl

theorem ripples_slowValue (s : State) (c : Fin 8) (v : Int) : Ripples s (State.slowValue c v s) := by
  unfold State.slowValue
  split
  · exact ripples_freshReading s _
  · exact .ite (ripples_of_changes (changes_windDirection s _) rfl) (.ite (ripples_motionIndex s _) .refl)

theorem ripples_acceptFrame (s : State) (bytes : List Byte) : Ripples s (State.acceptFrame bytes s) := by
  unfold State.acceptFrame
  refine Relation.ReflTransGen.trans ?_ (ripples_slowValue _ _ _)
  refine Relation.ReflTransGen.trans ?_ (ripples_converterFrame _ _)
  refine Relation.ReflTransGen.trans ?_ (ripples_supplyFrame _ _)
  exact Ripples.ite (ripples_meter s _) ((ripples_meter s _).trans (ripples_report _ _))

theorem ripples_streamStale (s : State) : Ripples s s.streamStale := by
  unfold State.streamStale
  refine Relation.ReflTransGen.trans ?_ (ripples_windows _ _)
  refine Relation.ReflTransGen.trans ?_ (ripples_evaluateZones _ _)
  refine Relation.ReflTransGen.trans ?_ (ripples_conv _ _)
  exact ((ripples_meter s _).trans (ripples_report _ _)).trans (ripples_supply _ rfl)

theorem ripples_channelStale (s : State) (c : Fin 8) : Ripples s (State.channelStale c s) := by
  unfold State.channelStale
  simp only
  split
  · exact (ripples_meter s _).trans (ripples_evaluateZones _ _)
  · exact .ite ((ripples_meter s _).trans (ripples_windows _ _)) (ripples_meter s _)

theorem ripples_filterExpired (s : State) (l : Line) : Ripples s (State.filterExpired l s) := by
  have changed : ∀ (t : State) (b : Bool), Ripples t (State.lineChanged l b t) := by
    intro t b
    unfold State.lineChanged
    split
    · exact .ite (ripples_brakeRises t) (ripples_brakeFalls t)
    · exact ripples_mainChanged t _
    · exact ripples_report t _
    · exact .onlyIf (ripples_flowChanged t _ _) (ripples_of_changes (changes_proveFlow _) rfl)
    · exact ripples_flowChanged t _ _
    · exact .ite (ripples_supplyMoved (ripples_compareBackup t)) .refl
  exact (ripples_of_changes (changes_inputs s _) rfl).trans (changed _ _)

theorem ripples_conditionTimer (s : State) (i : Fin 32) : Ripples s (State.conditionTimer i s) := by
  unfold State.conditionTimer
  split
  · exact (ripples_of_changes (changes_putRec s i _) rfl).trans (ripples_judge _)
  · exact ripples_of_changes (changes_setRec s i _) rfl

/-! ### The end of an event -/

theorem ripples_settle (s : State) : Ripples s s.settle :=
  ((Ripples.ite (ripples_grantOpportunity s) .refl : Ripples s s.settleClaims).rest
    (changes_settleActuators _) rfl).rest (changes_setTripReason _) rfl

theorem ripples_closeEvent (before s : State) : Ripples s (closeEvent before s) :=
  ((ripples_settle s).rest (changes_drive _) rfl).rest (changes_revs _ _) rfl

theorem ripples_staggerExpired (s : State) : Ripples s s.staggerExpired :=
  (Relation.ReflTransGen.single (.idle rfl rfl)).trans
    (ripples_grantOpportunity { s with app := { s.app with stagger := none } })

/-- The end of an arrival's event and the expiries that follow it at once are made of acts of the apportioner's own. -/
theorem ripples_finishEvent (before s : State) : Ripples s (finishEvent before s) :=
  finishEvent_induct (P := fun u => Ripples s u) (ripples_closeEvent before s)
    (fun u z h => (h.trans (ripples_holdExpired u z)).trans (ripples_closeEvent _ _))
    (fun u h => (h.trans (ripples_staggerExpired u)).trans (ripples_closeEvent _ _))

end Sys2Proof.Machine
end

section
/-!
The output lines and the granted sum over every step (9.7, R29): what each command comes to, as far as either law goes.
-/
namespace Sys2Proof.Machine

/-! ### Operations that keep the law of R29 -/

/-- The operation keeps the granted sum within the apportionable budget. -/
def KeepsBudget (s t : State) : Prop := WithinBudget s → WithinBudget t

section
variable {s t u : State}

theorem KeepsBudget.refl (s : State) : KeepsBudget s s := id

theorem KeepsBudget.trans (h : KeepsBudget s t) (k : KeepsBudget t u) : KeepsBudget s u := fun w => k (h w)

theorem Ripples.lawful (h : Ripples s t) : KeepsBudget s t := h.keepsBudget

theorem keepsBudget_of_changes {ps : List Piece} (h : Changes ps s t) (unclaimed : Unclaimed ps = true) :
    KeepsBudget s t := (ripples_of_changes h unclaimed).lawful

/-- A request for a claim that keeps claims and collections in agreement and adds nothing to the granted sum. -/
theorem keepsBudget_claimRequest {f : Apportioner → Apportioner}
    (keeps : s.app.Consistent → (f s.app).Consistent ∧ (f s.app).grantedSum ≤ s.app.grantedSum) :
    KeepsBudget s (s.claimRequest f) := by
  rintro ⟨consistent, within⟩
  unfold WithinBudget
  rw [claimRequest_app, claimRequest_apportionable]
  exact (keeps consistent).imp_right fun le => le.trans within

end

/-! ### The bodies of the items -/

theorem keepsBudget_withRecord {h : Handle} {g : Option Nat} {s : State} {k : State → Nat → Nat → Answer}
    (body : ∀ u table index, KeepsBudget u (k u table index).state) : KeepsBudget s (withRecord h g s k).state := by
  have resolved : KeepsBudget s (resolve h s).1 := keepsBudget_of_changes (changes_resolve h s) rfl
  exact withRecord_state (P := KeepsBudget s) resolved fun _ _ => resolved.trans (body _ _ _)

theorem keepsBudget_withTable {table n : Nat} {h : Handle} {g : Option Nat} {s : State} {k : State → Fin n → Answer}
    (body : ∀ u i, KeepsBudget u (k u i).state) : KeepsBudget s (withTable table n h g s k).state := by
  refine keepsBudget_withRecord fun u t i => ?_
  split
  · split
    · exact body u _
    · exact .refl u
  · exact .refl u

theorem keepsBudget_doSelect (n : Nat) (s : State) : KeepsBudget s (doSelect n s).state := by
  unfold doSelect
  split
  · exact keepsBudget_of_changes (changes_port s _) rfl
  · exact .refl s

theorem readRecord_state (first count : Nat) (s : State) (table index : Nat) :
    (readRecord first count s table index).state = s := by
  unfold readRecord
  split
  · rfl
  · split <;> rfl

/-- A changed setting, and what its block does with it at once (R16): a budget or the reserve is re-apportioned. -/
theorem keepsBudget_applySetting (k : Fin 86) (v : Nat) (s : State) : KeepsBudget s (State.applySetting k v s) := by
  by_cases budget : k.val ≤ 4
  · rw [applySetting_budget budget]
    exact (ripples_rebudget (s := s) (t := s.putSetting k v) rfl).lawful
  · have other : ∀ j : Fin 86, j.val ≤ 4 → (s.putSetting k v).setting j = s.setting j := fun j hj =>
      putSetting_setting_other s v fun e => budget (e ▸ hj)
    have same : (s.putSetting k v).apportionable = s.apportionable := by
      have low : (budgetSetting s.supply.state).val ≤ 4 := by cases s.supply.state <;> decide
      rw [State.apportionable, State.budget, putSetting_supply, other _ low, other _ (by decide)]
      rfl
    have put : Ripples s (s.putSetting k v) := ripples_of_still rfl same.ge
    unfold State.applySetting
    simp only [if_neg budget]
    refine Ripples.lawful (put.trans (Ripples.ite ?_ (Ripples.ite ?_ (Ripples.ite ?_ .refl))))
    · exact ripples_supply _ rfl
    · exact ripples_judgeUntwist _
    · exact ripples_report _ _

theorem keepsBudget_applyWrite (w : WriteTarget) (v : Nat) (s : State) : KeepsBudget s (s.applyWrite w v) := by
  cases w with
  | setting k => exact keepsBudget_applySetting k v s
  | zone z field =>
    exact Ripples.lawful ((ripples_of_changes (changes_setZone s _ _) rfl).trans (ripples_evaluateZones _ _))
  | condition i field => exact keepsBudget_of_changes (changes_setRec s i _) rfl

theorem keepsBudget_writeRecord (field : Nat) (v : Int) (s : State) (table index : Nat) :
    KeepsBudget s (writeRecord field v s table index).state := by
  unfold writeRecord
  split
  · exact .refl s
  split
  · exact .refl s
  split
  · exact .refl s
  split
  · exact (ripples_report s _).lawful
  split
  · exact .refl s
  · exact keepsBudget_applyWrite _ _ s

theorem freeSlot_free {a : Apportioner} {i : Fin 16} (h : a.freeSlot = some i) : (a.claims[i]).state = .free := by
  simpa using List.find?_some h

theorem keepsBudget_openConsumer (priority asked tag : Nat) (s : State) (c : Fin 19) :
    KeepsBudget s (openConsumer priority asked tag s c).state := by
  unfold openConsumer
  split
  · exact .refl s
  split
  · exact .refl s
  split
  · exact .refl s
  split
  · exact .refl s
  · next i slot =>
    exact keepsBudget_claimRequest fun h => ⟨h.openSlot (freeSlot_free slot) .., openSlot_grantedSum_le ..⟩

theorem keepsBudget_amendSlot (asked : Nat) (s : State) (i : Fin 16) : KeepsBudget s (amendSlot asked s i).state := by
  unfold amendSlot
  simp only
  split
  · exact .refl s
  split
  · exact .refl s
  split
  · exact .refl s
  split
  · exact .refl s
  · exact keepsBudget_claimRequest fun h => ⟨h.amend i asked, amend_grantedSum_le h i asked⟩

theorem keepsBudget_takeSlot (s : State) (i : Fin 16) : KeepsBudget s (takeSlot s i).state := by
  unfold takeSlot
  split
  · exact .refl s
  split
  case h_1 offered =>
    exact keepsBudget_claimRequest fun h => ⟨h.collect offered, collect_grantedSum_le offered⟩
  all_goals exact .refl s

theorem keepsBudget_release (s : State) (i : Fin 16) : KeepsBudget s (s.claimRequest (Apportioner.release i)) :=
  keepsBudget_claimRequest fun h => ⟨h.release i, release_grantedSum_le s.app i⟩

theorem keepsBudget_retireSlot (s : State) (i : Fin 16) : KeepsBudget s (retireSlot s i).state := by
  unfold retireSlot
  split
  · exact .refl s
  split
  · exact .refl s
  · exact keepsBudget_release s i

theorem keepsBudget_lapse (s : State) (i : Fin 16) : KeepsBudget s (State.lapse i s) := by
  unfold State.lapse
  split
  · exact (keepsBudget_release s i).trans (ripples_report _ _).lawful
  · exact .refl s

theorem keepsBudget_setRoute (s : State) (r : Fin 6) (x : Route) : KeepsBudget s (s.setRoute r x) :=
  keepsBudget_of_changes (changes_setRoute s r x) rfl

theorem keepsBudget_port (s : State) (p : Port) : KeepsBudget s { s with port := p } :=
  keepsBudget_of_changes (changes_port s p) rfl

theorem keepsBudget_beginOn (s : State) (r : Fin 6) : KeepsBudget s (beginOn s r).state := by
  unfold beginOn
  simp only
  split
  · exact .refl s
  split
  · exact .refl s
  · exact (keepsBudget_setRoute s r _).trans (keepsBudget_port _ _)

theorem keepsBudget_doSegment (kind : Nat) (target : Int) (direction speed dwell : Nat) (s : State) :
    KeepsBudget s (doSegment kind target direction speed dwell s).state := by
  unfold doSegment
  split
  · exact .refl s
  split
  · exact .refl s
  split
  · exact .refl s
  split
  · exact .refl s
  · exact (keepsBudget_of_changes (changes_setSegment s _ _) rfl).trans (keepsBudget_setRoute _ _ _)

theorem keepsBudget_doEndRoute (s : State) : KeepsBudget s (doEndRoute s).state := by
  unfold doEndRoute
  split
  · exact .refl s
  · simp only
    split <;> exact (keepsBudget_setRoute s _ _).trans (keepsBudget_port _ _)

theorem keepsBudget_emptyRoute (s : State) (r : Fin 6) : KeepsBudget s (s.emptyRoute r) := by
  have freed : Changes [.routes] s ((s.routes.routes[r]).slots.foldl (fun t slot => t.setSegment slot none) s) :=
    Changes.foldl (f := fun t slot => t.setSegment slot none) (fun t slot => changes_setSegment t slot none) _ s
  exact (keepsBudget_of_changes freed rfl).trans (keepsBudget_setRoute _ _ _)

theorem keepsBudget_doAbandon (s : State) : KeepsBudget s (doAbandon s).state := by
  unfold doAbandon
  split
  · exact .refl s
  · exact (keepsBudget_emptyRoute s _).trans (keepsBudget_port _ _)

theorem keepsBudget_runOn (s : State) (r : Fin 6) : KeepsBudget s (runOn s r).state := by
  have admitted : KeepsBudget s (s.admitRoute r) := (ripples_admitRoute s r).lawful
  unfold runOn
  split
  · exact .refl s
  split
  · exact .refl s
  · exact .refl s
  · exact .refl s
  · split
    · exact .refl s
    · exact admitted
  · split
    · exact .refl s
    · exact admitted

theorem keepsBudget_retireOn (s : State) (r : Fin 6) : KeepsBudget s (retireOn s r).state := by
  unfold retireOn
  split
  · exact .refl s
  · exact .refl s
  · exact .refl s
  · exact keepsBudget_emptyRoute s r
  · exact keepsBudget_emptyRoute s r

theorem keepsBudget_conv (s : State) (c : Converter) : KeepsBudget s { s with conv := c } := (ripples_conv s c).lawful

theorem keepsBudget_doRestoreYaw (heading : Nat) (twist : Int) (s : State) :
    KeepsBudget s (doRestoreYaw heading twist s).state := by
  unfold doRestoreYaw
  split
  · exact .refl s
  split
  · exact .refl s
  · exact (keepsBudget_of_changes (changes_yaw s _) rfl).trans (ripples_report _ _).lawful

theorem ripples_offChanged (s : State) (c : Converter) : Ripples s ({ s with conv := c } : State).offChanged :=
  (ripples_conv s c).trans (ripples_evaluateZones _ _)

theorem answerOk_state (s : State) : (answerOk s).state = s := rfl

theorem keepsBudget_doCharge (s : State) : KeepsBudget s (doCharge s).state := by
  unfold doCharge
  split
  · exact .refl s
  split
  · exact .refl s
  · rw [answerOk_state]
    exact (ripples_offChanged s _).lawful

theorem keepsBudget_doStart (s : State) : KeepsBudget s (doStart s).state := by
  unfold doStart
  split
  · exact .refl s
  split
  · exact .refl s
  · exact keepsBudget_conv s _

theorem keepsBudget_doStop (s : State) : KeepsBudget s (doStop s).state := by
  unfold doStop
  split
  · exact keepsBudget_conv s _
  · exact .refl s

theorem keepsBudget_doDischarge (s : State) : KeepsBudget s (doDischarge s).state := by
  unfold doDischarge
  split
  · exact keepsBudget_conv s _
  · exact .refl s

theorem keepsBudget_doClearTrip (s : State) : KeepsBudget s (doClearTrip s).state := by
  unfold doClearTrip
  split
  · exact .refl s
  split
  · exact .refl s
  · exact keepsBudget_conv s _

theorem keepsBudget_acknowledgeOn (s : State) (i : Fin 32) : KeepsBudget s (acknowledgeOn s i).state := by
  unfold acknowledgeOn
  split
  · exact .refl s
  · exact Ripples.lawful ((ripples_of_changes (changes_setRec s i _) rfl).trans (ripples_judge _))

theorem keepsBudget_doAcknowledgeLine (line : Nat) (s : State) : KeepsBudget s (doAcknowledgeLine line s).state := by
  have one (t : State) (i : Fin 32) : Ripples t (t.ackRecord i) := by
    unfold State.ackRecord
    split
    · exact .refl
    · exact ripples_of_changes (changes_setRec t i _) rfl
  unfold doAcknowledgeLine
  split
  · exact .refl s
  · exact Ripples.lawful ((Ripples.foldl one _ s).trans (ripples_judge _))

/-- Every item keeps the law of R29. -/
theorem keepsBudget_itemBody (c : Instr) (s : State) : KeepsBudget s (itemBody c s).state := by
  unfold itemBody
  split
  case h_1 => exact keepsBudget_doSelect _ s
  case h_2 => exact keepsBudget_withRecord fun u t i => by rw [readRecord_state]; exact .refl u
  case h_3 => exact keepsBudget_withRecord fun u t i => keepsBudget_writeRecord _ _ u t i
  case h_4 => exact keepsBudget_withTable fun u i => keepsBudget_openConsumer _ _ _ u i
  case h_5 => exact keepsBudget_withTable fun u i => keepsBudget_amendSlot _ u i
  case h_6 => exact keepsBudget_withTable fun u i => keepsBudget_takeSlot u i
  case h_7 => exact keepsBudget_withTable fun u i => keepsBudget_retireSlot u i
  case h_8 => exact keepsBudget_withTable fun u i => keepsBudget_beginOn u i
  case h_9 => exact keepsBudget_doSegment _ _ _ _ _ s
  case h_10 => exact keepsBudget_doEndRoute s
  case h_11 => exact keepsBudget_doAbandon s
  case h_12 => exact keepsBudget_withTable fun u i => keepsBudget_runOn u i
  case h_13 => exact (ripples_stopRunning s _).lawful
  case h_14 => exact keepsBudget_withTable fun u i => keepsBudget_retireOn u i
  case h_15 => exact keepsBudget_doRestoreYaw _ _ s
  case h_16 => exact keepsBudget_doCharge s
  case h_17 => exact keepsBudget_doStart s
  case h_18 => exact keepsBudget_doStop s
  case h_19 => exact keepsBudget_doDischarge s
  case h_20 => exact keepsBudget_doClearTrip s
  case h_21 => exact keepsBudget_withTable fun u i => keepsBudget_acknowledgeOn u i
  case h_22 => exact keepsBudget_doAcknowledgeLine _ s
  case h_23 => exact (ripples_of_still rfl le_rfl).lawful
  case h_24 => exact keepsBudget_port s _
  case h_25 => exact .refl s

/-! ### What a command comes to -/

/-- What a command that begins or ends no reset comes to: a change at the pins or the port alone, a second of part time, an
event, or an item's event with its entry in the response. -/
inductive Acts (s : State) : State → Prop
  | apart {t : State} : Changes [.port, .inputs] s t → Acts s t
  | second : Acts s { s with store := s.store.second }
  | event {u : State} (before : State) : KeepsBudget s u → Acts s (finishEvent before u)
  | item {u : State} (before : State) (entry : List Byte) : KeepsBudget s u →
      Acts s ((finishEvent before u).addEntry entry)

theorem acts_nothing (s : State) : Acts s s := .apart (Changes.refl _ s)

theorem acts_arrival {s t u : State} {idle : Bool} (k : KeepsBudget s u)
    (e : (if idle then .next s else .next (finishEvent s u) : Result) = .next t) : Acts s t := by
  split at e <;> cases e
  · exact acts_nothing s
  · exact .event s k

theorem acts_staggerTimerExpiry {s t : State} (e : execStaggerTimerExpiry s = .next t) : Acts s t := by
  unfold execStaggerTimerExpiry event at e
  split at e
  · cases e
    exact acts_nothing s
  next runs =>
    have free : ({ s with app := { s.app with stagger := none } } : State).held = false := by
      obtain ⟨free, -⟩ : s.held = false ∧ ¬s.app.stagger = none := by simpa using runs
      exact free
    rw [free] at e
    cases e
    exact .event _ (ripples_staggerExpired s).lawful

theorem changes_takeFrame (s : State) (o : FrameOutcome) : Changes [.port] s (s.takeFrame o) := changes_port s _

theorem changes_select (start : TransferStart) (bytes : List Byte) (part : Bool) (s : State) :
    Changes [.port] s (s.select start bytes part) := by
  unfold State.select
  simp only
  split
  · exact changes_shiftOut s _
  · exact changes_shiftOut s _
  · exact .ite (changes_shiftOut s _) (.ite (changes_shiftOut s _) ((changes_shiftOut s _).trans (changes_takeFrame _ _)))

theorem changes_wireWrite (start : TransferStart) (address : Nat) (bytes : List Byte) (s : State) :
    Changes [.port] s (s.wireWrite start address bytes) := by
  have out := changes_shiftOut s
  unfold State.wireWrite
  split
  · exact out _
  split
  · exact out _
  · exact out _
  · exact .ite (out _) (.ite (out _) ((out _).trans (changes_takeFrame _ _)))

theorem changes_wireRead (start : TransferStart) (address n : Nat) (s : State) :
    Changes [.port] s (s.wireRead start address n) := by
  unfold State.wireRead
  split
  · exact changes_shiftOut s _
  split <;> exact changes_shiftOut s _

theorem changes_transfer (x : Transfer) (s : State) : Changes [.port] s (State.transfer x s) := by
  unfold State.transfer
  split
  · exact changes_select _ _ _ s
  · exact changes_wireWrite _ _ _ s
  · exact changes_wireRead _ _ _ s
  all_goals exact changes_shiftOut s _

theorem acts_linkFrame {s t : State} {x : Transfer} (e : execLinkFrame x s = .next t) : Acts s t := by
  unfold execLinkFrame at e
  split at e <;> cases e
  · exact .apart (changes_shiftOut s _).mono
  · exact .apart (changes_transfer x s).mono

theorem acts_rawLineChange {s t : State} {x : PinChange} (e : execRawLineChange x s = .next t) : Acts s t := by
  unfold execRawLineChange at e
  split at e <;> cases e
  · exact .apart (changes_heldPin s x).mono
  · exact .apart (changes_pinChanges s x).mono

theorem acts_partTimeTick {s t : State} (e : execPartTimeTick s = .next t) : Acts s t := by
  unfold execPartTimeTick at e
  split at e <;> cases e
  · exact acts_nothing s
  · exact .second

theorem acts_encoderTransition {s t : State} {a b : Bool} (e : execEncoderTransition a b s = .next t) : Acts s t := by
  unfold execEncoderTransition at e
  split at e <;> cases e
  · exact .apart (changes_inputs s _).mono
  · exact .event s (ripples_encoderMoves s a b).lawful

theorem acts_item {c : Instr} {s t : State} (item : c.isItem = true) (e : exec c s = .next t) : Acts s t := by
  have executed (p : Port) : Acts s (({ s with port := p } : State).executeItem c (itemBody c)) := by
    refine .item _ _ ((keepsBudget_port s p).trans ?_)
    unfold answerItem
    split
    · exact .refl _
    · exact keepsBudget_itemBody c _
  rw [exec_item item] at e
  unfold runItem at e
  split at e
  · cases e
    exact acts_nothing s
  split at e
  · split at e
    · cases e
      exact acts_nothing s
    · split at e <;> cases e
      · exact executed _
      · exact acts_nothing s
  · cases e
    exact executed _

/-- Every command that begins or ends no reset, RESTART among them: its reset is its entry's. -/
theorem exec_acts {c : Instr} {s t : State} (free : c.resets = false ∨ c = .restart) (e : exec c s = .next t) :
    Acts s t := by
  have reports : ∀ (p : Prop) [Decidable p] (g : Group), KeepsBudget s (if p then s.report g else s) :=
    fun _ _ g => (Ripples.ite (ripples_report s g) .refl).lawful
  cases item : c.isItem with
  | true => exact acts_item item e
  | false =>
    cases c
    case linkFrame => exact acts_linkFrame e
    case meterFrame bytes => exact acts_arrival (ripples_acceptFrame s bytes).lawful e
    case rawLineChange => exact acts_rawLineChange e
    case encoderTransition => exact acts_encoderTransition e
    case partTimeTick => exact acts_partTimeTick e
    case staggerTimerExpiry => exact acts_staggerTimerExpiry e
    case staleTimerExpiry => exact acts_arrival (ripples_streamStale s).lawful e
    case slowChannelAgeExpiry c => exact acts_arrival (ripples_channelStale s c).lawful e
    case filterTimerExpiry l => exact acts_arrival (ripples_filterExpired s l).lawful e
    case collectionDeadlineExpiry i => exact acts_arrival (keepsBudget_lapse s i) e
    case recoveryHoldExpiry => exact acts_arrival (ripples_supplyMoved (ripples_changeSupply s _ _)).lawful e
    case reconnectionHoldExpiry => exact acts_arrival (ripples_supplyMoved (ripples_changeSupply s _ _)).lawful e
    case prechargeTimerExpiry => exact acts_arrival (reports _ _) e
    case breakerTimerExpiry => exact acts_arrival (reports _ _) e
    case dischargeTimerExpiry => exact acts_arrival (ripples_dischargeExpired s).lawful e
    case chopperDecayExpiry =>
      exact acts_arrival (Ripples.lawful (t := s.decay) ((ripples_conv s _).trans (ripples_report _ _))) e
    case firstEvaluationTimerExpiry => exact acts_arrival (ripples_firstEvaluation s).lawful e
    case decreaseHoldExpiry z => exact acts_arrival (ripples_holdExpired s z).lawful e
    case flowWindowExpiry p => exact acts_arrival (ripples_flowLost s p).lawful e
    case flowLossTimerExpiry p => exact acts_arrival (ripples_flowLost s p).lawful e
    case shortWindowClose => exact acts_arrival (ripples_shortCloses s).lawful e
    case longWindowClose => exact acts_arrival (ripples_longCloses s).lawful e
    case claimWaitExpiry => exact acts_arrival (ripples_claimWaitExpired s).lawful e
    case releaseTimerExpiry => exact acts_arrival (ripples_releaseExpired s).lawful e
    case idleTimerExpiry => exact acts_arrival (ripples_stalled s).lawful e
    case budgetTimerExpiry => exact acts_arrival (ripples_stalled s).lawful e
    case settleTimerExpiry => exact acts_arrival (ripples_settleExpired s).lawful e
    case applyTimerExpiry => exact acts_arrival (ripples_applyExpired s).lawful e
    case dwellTimerExpiry => exact acts_arrival (keepsBudget_of_changes (changes_dwellExpired s) rfl) e
    case onsetDelayExpiry i => exact acts_arrival (ripples_conditionTimer s i).lawful e
    case repeatIntervalExpiry i => exact acts_arrival (ripples_conditionTimer s i).lawful e
    case powerUp => simp [Instr.resets] at free
    case powerUpSequenceComplete => simp [Instr.resets] at free
    case resetnAssert => simp [Instr.resets] at free
    case resetnRelease => simp [Instr.resets] at free
    all_goals exact nomatch item

end Sys2Proof.Machine
end

section
/-!
The laws of the output lines and of the granted sum, over every step (9.7, R29).
-/
namespace Sys2Proof.Machine

/-! ### What a step does -/

/-- A law kept by every command and by a millisecond, and deaf to the queue and the counter of free choices, is kept by
every step. -/
theorem step_keeps {P : State → Prop} {s t : State}
    (exec_keeps : ∀ {c : Instr} {u v : State}, P u → exec c u = .next v → P v)
    (tick : ∀ u : State, P u → P u.tick)
    (queue : ∀ (u : State) (q : List Instr) (n : Nat), P u → P { u with pending := q, choices := n })
    (h : P s) (e : step s = .next t) : P t := by
  have idle_keeps : idle s = .next t → P t := by
    intro e
    unfold idle at e
    split at e
    · cases e
      exact tick s h
    · exact exec_keeps h e
    · split at e
      · cases e
        exact h
      · exact exec_keeps (queue s s.pending _ h) e
  unfold step at e
  split at e
  · next c rest _ => exact exec_keeps (queue s rest s.choices h) e
  · split at e
    · split at e
      · exact exec_keeps h e
      · exact idle_keeps e
    · exact idle_keeps e

/-- The commands that begin or end a reset, RESTART aside (R19): what they do between them. -/
theorem reset_command_keeps {P : State → Prop} (inputs : ∀ (u : State) (i : Inputs), P u → P { u with inputs := i })
    (begins : ∀ (u : State) (kind : ResetKind) (cause : ResetCause), P (u.beginReset kind cause))
    (ends : ∀ u : State, P u → P u.endReset) {c : Instr} {s t : State} (resets : c.resets = true) (other : c ≠ .restart)
    (h : P s) (e : exec c s = .next t) : P t := by
  match c, resets with
  | .restart, _ => exact absurd rfl other
  | .powerUp _, _ =>
    cases e
    exact begins _ _ _
  | .powerUpSequenceComplete, _ =>
    change execPowerUpSequenceComplete s = .next t at e
    unfold execPowerUpSequenceComplete at e
    split at e <;> cases e
    · exact ends s h
    · exact h
  | .resetnAssert, _ =>
    change execResetnAssert s = .next t at e
    unfold execResetnAssert at e
    simp only at e
    split at e
    · cases e
      exact h
    split at e <;> cases e
    · exact inputs s _ h
    · exact begins _ _ _
  | .resetnRelease, _ =>
    change execResetnRelease s = .next t at e
    unfold execResetnRelease at e
    split at e <;> cases e
    · exact ends _ (inputs s _ h)
    · exact h

/-- A law that every way a command acts keeps, and that the resets keep, is kept by every command. -/
theorem exec_keeps {P : State → Prop} (acts : ∀ {u v : State}, Acts u v → P u → P v)
    (inputs : ∀ (u : State) (i : Inputs), P u → P { u with inputs := i })
    (begins : ∀ (u : State) (kind : ResetKind) (cause : ResetCause), P (u.beginReset kind cause))
    (ends : ∀ u : State, P u → P u.endReset) {c : Instr} {s t : State} (h : P s) (e : exec c s = .next t) : P t := by
  by_cases restart : c = .restart
  · exact acts (exec_acts (.inr restart) e) h
  · cases resets : c.resets with
    | true => exact reset_command_keeps inputs begins ends resets restart h e
    | false => exact acts (exec_acts (.inl resets) e) h

/-- The entry of an item: the port alone, or the warm reset of a RESTART. -/
theorem addEntry_keeps {P : State → Prop} (port : ∀ (u : State) (p : Port), P u → P { u with port := p })
    (begins : ∀ (u : State) (kind : ResetKind) (cause : ResetCause), P (u.beginReset kind cause))
    (ends : ∀ u : State, P u → P u.endReset) {s : State} (h : P s) (entry : List Byte) : P (s.addEntry entry) := by
  cases last : s.port.items.isEmpty with
  | false =>
    rw [addEntry_of_more last]
    exact port s _ h
  | true =>
    rw [addEntry_of_end last]
    split
    · exact ends _ (begins _ _ _)
    · exact port s _ h

/-! ### The lines are driven (9.7) -/

theorem linesDriven_drive (s : State) (revs : RevTable) : LinesDriven { s.drive with revs := revs } := rfl

theorem linesDriven_closeEvent (before s : State) : LinesDriven (closeEvent before s) := rfl

theorem linesDriven_finishEvent (before s : State) : LinesDriven (finishEvent before s) :=
  finishEvent_induct (linesDriven_closeEvent _ _) (fun u z _ => linesDriven_closeEvent u (u.holdExpired z))
    fun u _ => linesDriven_closeEvent u u.staggerExpired

theorem linesDriven_beginReset (s : State) (kind : ResetKind) (cause : ResetCause) :
    LinesDriven (s.beginReset kind cause) := rfl

theorem endReset_of_none {s : State} (free : s.hold = none) : s.endReset = s := by
  rw [State.endReset, free]

theorem linesDriven_endReset {s : State} (h : LinesDriven s) : LinesDriven s.endReset := by
  cases held : s.hold with
  | none => rwa [endReset_of_none held]
  | some k =>
    rw [endReset_of_hold held]
    exact linesDriven_drive _ _

/-- No line depends on the port or the pins directly. -/
theorem linesDriven_of_apart {s t : State} (h : LinesDriven s) (c : Changes [.port, .inputs] s t) : LinesDriven t := by
  have out : t.out = s.out := c .out (by decide)
  have outputs : t.outputs = s.outputs := by
    have store : t.store = s.store := c .store (by decide)
    have app : t.app = s.app := c .app (by decide)
    have supply : t.supply = s.supply := c .supply (by decide)
    have conv : t.conv = s.conv := c .conv (by decide)
    have cool : t.cool = s.cool := c .cool (by decide)
    have routes : t.routes = s.routes := c .routes (by decide)
    have yaw : t.yaw = s.yaw := c .yaw (by decide)
    have cond : t.cond = s.cond := c .cond (by decide)
    cases t
    cases s
    simp only at store app supply conv cool routes yaw cond
    subst store app supply conv cool routes yaw cond
    rfl
  exact out.trans (h.trans outputs.symm)

theorem loadEnable_tick (a : Apportioner) (consumer : Nat) : a.tick.loadEnable consumer = a.loadEnable consumer := by
  have claims : a.tick.claims = a.claims.map fun c => { c with offerLeft := countDown c.offerLeft } := by
    ext i hi : 1
    simp [Apportioner.tick]
  unfold Apportioner.loadEnable
  rw [claims, Vector.toList_map, ← List.map_drop, List.any_map]
  rfl

theorem alert_tick (k : Conditions) (line : Nat) : k.tick.alert line = k.alert line := by
  have recs : k.tick.recs = k.recs.map fun r => { r with timer := countDown r.timer } := by
    ext i hi : 1
    simp [Conditions.tick]
  unfold Conditions.alert
  rw [recs, Vector.toList_map, List.any_map]
  rfl

theorem ceiling_tick (s : State) : s.tick.ceiling = s.ceiling := by
  have term (z : Zone) : s.tick.zoneTerm z = s.zoneTerm z := by
    unfold State.zoneTerm
    rw [tick_zone]
    rfl
  unfold State.ceiling
  rw [term, term, term, term]
  rfl

theorem dutyLine_tick (s : State) (z : Zone) : s.tick.dutyLine z = s.dutyLine z := by
  unfold State.dutyLine
  rw [tick_isHeld, tick_zone]
  rfl

theorem outputs_tick (s : State) : s.tick.outputs = s.outputs := by
  have fraction : s.tick.ceilingFraction = s.ceilingFraction := by
    unfold State.ceilingFraction
    rw [ceiling_tick]
    rfl
  have enables : s.tick.app.loadEnable = s.app.loadEnable := funext (loadEnable_tick s.app)
  have alert (n : Nat) : s.tick.cond.alert n = s.cond.alert n := alert_tick s.cond n
  unfold State.outputs
  rw [tick_pulsePermit, fraction, tick_isHeld, enables]
  simp only [dutyLine_tick, alert]
  rfl

theorem Acts.linesDriven {s t : State} (a : Acts s t) (h : LinesDriven s) : LinesDriven t := by
  cases a with
  | apart c => exact linesDriven_of_apart h c
  | second => exact h
  | event before _ => exact linesDriven_finishEvent _ _
  | item before entry _ =>
    exact addEntry_keeps (fun _ _ => id) (fun u k c => linesDriven_beginReset u k c) (fun _ => linesDriven_endReset)
      (linesDriven_finishEvent _ _) entry

/-- Settles O5: every event and every reset ends by driving the lines, and what else a step changes no line reads. -/
theorem stepKeepsLinesDriven : Obligations.StepKeepsLinesDriven := fun _ _ =>
  step_keeps
    (exec_keeps Acts.linesDriven (fun u i h => linesDriven_of_apart h (changes_inputs u i).mono) linesDriven_beginReset
      fun _ => linesDriven_endReset)
    (fun u h => Eq.trans h (outputs_tick u).symm) fun _ _ _ => id

/-! ### The granted sum stays within the budget (R29) -/

theorem withinBudget_of_same {s t : State} (h : WithinBudget s) (app : t.app = s.app)
    (budget : t.apportionable = s.apportionable) : WithinBudget t :=
  (ripples_of_still app budget.ge).lawful h

theorem withinBudget_beginReset (s : State) (kind : ResetKind) (cause : ResetCause) :
    WithinBudget (s.beginReset kind cause) :=
  ⟨withinBudget_reset.1, (by decide : Apportioner.initial.grantedSum ≤ 0).trans (Nat.zero_le _)⟩

theorem withinBudget_drive {s : State} (h : WithinBudget s) (revs : RevTable) :
    WithinBudget { s.drive with revs := revs } :=
  withinBudget_of_same h rfl rfl

/-- The claims at the end of a reset are those the reset began with, up to what the reports of its end come to. -/
theorem withinBudget_endReset {s : State} (h : WithinBudget s) : WithinBudget s.endReset := by
  cases held : s.hold with
  | none => rwa [endReset_of_none held]
  | some k =>
    obtain ⟨recs, e, -⟩ := restamp_eq k.restamp s.startAfterReset
    have awake : WithinBudget (s.awake k) := by
      rw [State.awake, e]
      exact withinBudget_of_same h (openWindows_app _) rfl
    rw [endReset_of_hold held]
    exact withinBudget_drive ((ripples_report _ _).keepsBudget awake) _

theorem consistent_tick {a : Apportioner} (h : a.Consistent) : a.tick.Consistent := by
  obtain ⟨⟨standing, stack, queue⟩, agrees⟩ := (consistent_iff a).mp h
  rw [Apportioner.tick, consistent_iff]
  refine ⟨⟨standing, stack, queue⟩, fun i => ?_⟩
  unfold Apportioner.Agrees
  simp only [Fin.getElem_fin, Vector.getElem_ofFn]
  exact agrees i

theorem withinBudget_tick {s : State} (h : WithinBudget s) : WithinBudget s.tick :=
  ⟨consistent_tick h.1, (tick_grantedSum s).trans_le h.2⟩

theorem Acts.withinBudget {s t : State} (a : Acts s t) (h : WithinBudget s) : WithinBudget t := by
  cases a with
  | apart c => exact (keepsBudget_of_changes c rfl) h
  | second => exact withinBudget_of_same h rfl rfl
  | event before k => exact (ripples_finishEvent _ _).keepsBudget (k h)
  | item before entry k =>
    exact addEntry_keeps (fun u p => keepsBudget_port u p) (fun u k c => withinBudget_beginReset u k c)
      (fun _ => withinBudget_endReset) ((ripples_finishEvent _ _).keepsBudget (k h)) entry

/-- Settles O7: each change of the claims raises the granted sum by no more than the budget leaves, and each drop of the
budget is followed at once by the shed walk (`Ripples`). -/
theorem stepKeepsWithinBudget : Obligations.StepKeepsWithinBudget := fun _ _ =>
  step_keeps
    (exec_keeps Acts.withinBudget (fun u i => keepsBudget_of_changes (changes_inputs u i) rfl)
      withinBudget_beginReset fun _ => withinBudget_endReset)
    (fun _ => withinBudget_tick) fun _ _ _ h => withinBudget_of_same h rfl rfl

end Sys2Proof.Machine
end

section
/-!
What the laws of the output lines come to (9.7): each line's law from the rule that drives it.
-/
namespace Sys2Proof.Machine

variable {s : State}

theorem isHeld_iff (s : State) (i : Fin 16) : s.isHeld i = true ↔ (s.claim i).state = .held := by
  unfold State.isHeld State.claim
  exact beq_iff_eq

theorem delivering_iff (c : ConverterState) : c.delivering = true ↔ c = .running ∨ c = .riding := by
  simp [ConverterState.delivering]

/-! ### Permits and the ceiling (R77, R96) -/

theorem pulsePermit_iff (s : State) :
    s.pulsePermit = true ↔
      s.conv.state.delivering = true ∧ (s.claim 1).state = .held ∧ s.tripInForce = false ∧ s.holdInForce = false := by
  simp [State.pulsePermit, isHeld_iff, and_assoc]

theorem chopperPermit_iff (s : State) :
    s.chopperPermit = true ↔
      s.conv.state.delivering = true ∧ s.conv.energy ≤ s.setting Setting.chopperEnergyLimit * 1000 := by
  simp [State.chopperPermit, State.chopperOver]

theorem ceiling_of_not_delivering (h : s.conv.state.delivering = false) : s.ceiling = 0 := by
  simp [State.ceiling, h]

theorem ceiling_le (s : State) :
    s.ceiling ≤ s.setting Setting.convRated ∧ s.ceiling ≤ s.zoneTerm .conv ∧ s.ceiling ≤ s.zoneTerm .gen ∧
      s.ceiling ≤ s.zoneTerm .xfmr ∧ s.ceiling ≤ s.zoneTerm .chop ∧ s.ceiling ≤ s.rideTerm := by
  cases delivering : s.conv.state.delivering with
  | false => simp [ceiling_of_not_delivering delivering]
  | true =>
    simp only [State.ceiling, delivering, if_pos]
    omega

/-! ### Alert lines and load enables (R166, R48) -/

theorem alerts_getElem? (s : State) (n : Fin 4) : s.outputs.alerts[n.val]? = some (s.cond.alert n.val) := by
  fin_cases n <;> rfl

theorem alert_iff (k : Conditions) (line : Nat) :
    k.alert line = true ↔
      ∃ i : Fin 32, (k.recs[i]).mask = false ∧ (k.recs[i]).route = line ∧
        ((k.recs[i]).state = .active ∨ (k.recs[i]).state = .latched) := by
  unfold Conditions.alert
  rw [Vector.any_toList, Vector.any_eq_true]
  simp [CondRec.asserts, Fin.exists_iff, and_assoc]

theorem loadEn_getElem? (s : State) (c : Fin 13) : s.outputs.loadEn[c.val]? = some (s.app.loadEnable (6 + c.val)) := by
  fin_cases c <;> rfl

theorem loadEnable_iff (a : Apportioner) (consumer : Nat) :
    a.loadEnable consumer = true ↔
      ∃ i : Fin 16, 6 ≤ i.val ∧ (a.claims[i]).state = .held ∧ (a.claims[i]).consumer = consumer := by
  unfold Apportioner.loadEnable
  rw [List.any_eq_true]
  constructor
  · rintro ⟨c, mem, own⟩
    obtain ⟨k, bound, rfl⟩ := List.mem_iff_getElem.mp mem
    have pool : 6 + k < 16 := by simp at bound; omega
    exact ⟨⟨6 + k, pool⟩, by simp, by simpa using own⟩
  · rintro ⟨i, pool, held, own⟩
    refine ⟨a.claims[i], List.mem_iff_getElem.mpr ⟨i.val - 6, by simp; omega, ?_⟩,
      Bool.and_eq_true_iff.mpr ⟨beq_iff_eq.mpr held, beq_iff_eq.mpr own⟩⟩
    simp [Nat.add_sub_cancel' pool]

/-! ### Duty lines (R48, R111) -/

theorem duty_get (s : State) (z : Zone) : s.outputs.duty.get z = s.dutyLine z := by cases z <;> rfl

theorem dutyLine_of_not_held {z : Zone} (h : (s.claim (homeSlot z)).state ≠ .held) : s.dutyLine z = 0 :=
  if_neg fun on => h ((isHeld_iff s _).mp on)

/-! ### The yaw lines (R140, R145) -/

theorem turnLine_iff (s : State) (d : Turn) :
    (s.isHeld 0 && s.yaw.drives d) = true ↔
      (s.claim 0).state = .held ∧ s.yaw.engine = .turning ∧ s.yaw.direction = some d := by
  simp [Yaw.drives, isHeld_iff]

/-- The yaw lines turn in TURNING alone, and slot 0 HELD. -/
theorem turning_of_yawLine (h : s.outputs.yawCw = true ∨ s.outputs.yawCcw = true ∨ s.outputs.yawSlow = true) :
    s.yaw.engine = .turning ∧ (s.claim 0).state = .held := by
  have slow : s.outputs.yawSlow = true → (s.claim 0).state = .held ∧ s.yaw.engine = .turning := by
    simp +contextual [State.outputs, isHeld_iff]
  rcases h with cw | ccw | slowly
  · obtain ⟨held, turning, -⟩ := (turnLine_iff s .cw).mp cw
    exact ⟨turning, held⟩
  · obtain ⟨held, turning, -⟩ := (turnLine_iff s .ccw).mp ccw
    exact ⟨turning, held⟩
  · exact (slow slowly).symm

theorem YawLaws.safe (laws : YawLaws s) (turning : s.yaw.engine = .turning) :
    s.level .brakeOpen = true ∧ s.inhibitInForce = false := by
  obtain ⟨-, -, -, -, ⟨brake, engaged, inhibited, -⟩, -⟩ := laws
  refine ⟨brake turning, Bool.eq_false_iff.mpr fun inhibit => ?_⟩
  have runs := engaged (by rw [turning]; rfl)
  rw [inhibited inhibit] at runs
  cases runs

theorem YawLaws.not_winding (laws : YawLaws s) (past : s.setting Setting.twistHardLimit ≤ s.yaw.twist.natAbs)
    (turning : s.yaw.engine = .turning) : s.yaw.winding = false := by
  obtain ⟨-, -, -, -, -, winds, -⟩ := laws
  exact (winds turning).2 past

/-- At or above TWIST_HARD_LIMIT no line turns the way the twist already lies. -/
theorem not_turnLine_of_past (laws : YawLaws s) (past : s.setting Setting.twistHardLimit ≤ s.yaw.twist.natAbs) {d : Turn}
    (winding : s.yaw.direction = some d → s.yaw.winding = true) : (s.isHeld 0 && s.yaw.drives d) = false := by
  refine Bool.eq_false_iff.mpr fun line => ?_
  obtain ⟨-, turning, direction⟩ := (turnLine_iff s d).mp line
  exact Bool.false_ne_true ((laws.not_winding past turning).symm.trans (winding direction))

theorem winding_cw {y : Yaw} (h : 0 < y.twist) (direction : y.direction = some .cw) : y.winding = true := by
  simp [Yaw.winding, direction, h]

theorem winding_ccw {y : Yaw} (h : y.twist < 0) (direction : y.direction = some .ccw) : y.winding = true := by
  simp [Yaw.winding, direction, h]

theorem held_of_brakeRelease (h : s.outputs.brakeRelease = true) : (s.claim 0).state = .held := by
  rw [← isHeld_iff]
  exact (Bool.and_eq_true_iff.mp h).1

/-- Settles O11: with every line as its rule drives it, each law is read off the rule, the laws of the yaw adding the two
terms of R140 that the lines themselves do not test, and R145. -/
theorem linesObeyLaws : Obligations.LinesObeyLaws := by
  intro s driven
  rw [show s.out = s.outputs from driven]
  refine ⟨fun permit => ?_, fun permit => ?_, ceiling_le s, fun notRunning notRiding => ?_, fun n => ?_, fun c => ?_,
    fun i notHeld => ?_, fun line => ?_, fun laws past => ?_, held_of_brakeRelease⟩
  · obtain ⟨delivering, rest⟩ := (pulsePermit_iff s).mp permit
    exact ⟨(delivering_iff _).mp delivering, rest⟩
  · obtain ⟨delivering, energy⟩ := (chopperPermit_iff s).mp permit
    exact ⟨(delivering_iff _).mp delivering, energy⟩
  · have zero : s.ceiling = 0 := ceiling_of_not_delivering <| Bool.eq_false_iff.mpr fun delivering =>
      ((delivering_iff _).mp delivering).elim notRunning notRiding
    have fraction : s.ceilingFraction = 0 := by simp [State.ceilingFraction, zero]
    exact ⟨zero, fraction⟩
  · rw [alerts_getElem?, Option.some.injEq, alert_iff]
  · rw [loadEn_getElem?, Option.some.injEq, loadEnable_iff]
    rfl
  · rw [duty_get]
    exact dutyLine_of_not_held notHeld
  · obtain ⟨turning, held⟩ := turning_of_yawLine line
    exact ⟨turning, held, fun laws => laws.safe turning⟩
  · exact ⟨fun positive => not_turnLine_of_past laws past (winding_cw positive),
      fun negative => not_turnLine_of_past laws past (winding_ccw negative)⟩

end Sys2Proof.Machine
end

section
/-!
A claim event that gives no grant (R34): the end of its event adds nothing to what the request did to the claims and to
CLAIM_SHED.
-/
namespace Sys2Proof.Machine

/-- A frame that lists a piece which is the same holds without it. -/
theorem Changes.of_same {p : Piece} {ps : List Piece} {s t : State} (h : Changes (p :: ps) s t) (same : p.same s t) :
    Changes ps s t := by
  intro q hq
  by_cases e : q = p
  · rwa [e]
  · exact h q (List.mem_cons.not.mpr (not_or.mpr ⟨e, hq⟩))

/-! ### The report of CLAIM_SHED (R51) -/

theorem take_level_same (o : OnsetArgs) (r : CondRec) : r.take .level (causeIs r.present) o = (r, false) := by
  cases present : r.present with
  | true => simp [causeIs, CondRec.take, CondRec.arrive, present]
  | false => simp [causeIs, CondRec.take, depart_absent present]

theorem takeReport_claimShed_same {s : State} {b : Bool} (h : (s.cond.recs[Cond.claimShed]).present = b) :
    s.takeReport Cond.claimShed (causeIs b) = s := by
  have stays := take_level_same s.onsetArgs s.cond.recs[Cond.claimShed]
  rw [h] at stays
  have kind : catalogue[Cond.claimShed].kind = .level := rfl
  rw [State.takeReport, kind, stays]
  exact setRec_same s Cond.claimShed

section
variable {s u : State} {f : Apportioner → Apportioner}

theorem takeReport_other (s : State) {i k : Fin 32} (rep : Report) (h : k ≠ i) :
    (s.takeReport i rep).cond.recs[k] = s.cond.recs[k] := by
  rw [State.takeReport, putRec_cond, setRec_recs_other s _ h]

theorem takeReport_inForce (s : State) {i : Fin 32} (rep : Report)
    (none : catalogue[i].consequences = Consequences.none) :
    (s.takeReport i rep).cond.inForce = s.cond.inForce := by
  rw [State.takeReport, putRec_cond, inForce_setRec s _ none]

theorem takeReport_told (s : State) (i : Fin 32) (rep : Report) : (s.takeReport i rep).cond.told = s.cond.told := by
  rw [State.takeReport, putRec_cond]
  rfl

/-- Where CLAIM_SHED stands as the operation leaves the stack, the operation changes the claims alone. -/
theorem apportion_of_reported (h : (s.cond.recs[Cond.claimShed]).present = !(f s.app).shedStack.isEmpty) :
    s.apportion f = { s with app := f s.app } :=
  takeReport_claimShed_same (s := { s with app := f s.app }) h

theorem shedReported_apportion (s : State) (f : Apportioner → Apportioner) : ShedReported (s.apportion f) := by
  unfold ShedReported
  rw [apportion_app]
  unfold State.apportion
  simp only
  rw [takeReport_self]
  exact take_level_present _ _ _

theorem apportion_recs_other (s : State) (f : Apportioner → Apportioner) {k : Fin 32} (h : k ≠ Cond.claimShed) :
    (s.apportion f).cond.recs[k] = s.cond.recs[k] :=
  takeReport_other _ _ h

theorem apportion_inForce (s : State) (f : Apportioner → Apportioner) : (s.apportion f).cond.inForce = s.cond.inForce :=
  takeReport_inForce _ _ rfl

theorem apportion_told (s : State) (f : Apportioner → Apportioner) : (s.apportion f).cond.told = s.cond.told :=
  takeReport_told _ _ _

/-! ### The end of the event -/

/-- Nothing is gathered that the end of the event acts on, but perhaps a claim event or the start of the stagger timer. -/
def Scratch.Spent (e : Scratch) : Prop := e.tripped = false ∧ e.actuators = [] ∧ e.zeroHolds = []

theorem Scratch.Quiet.spent {e : Scratch} (q : e.Quiet) : e.Spent := by
  obtain ⟨-, tripped, actuators, holds, -⟩ := q
  exact ⟨tripped, actuators, holds⟩

theorem Scratch.Quiet.noTimer {e : Scratch} (q : e.Quiet) : e.zeroStagger = false := by
  obtain ⟨-, -, -, -, noTimer⟩ := q
  exact noTimer

/-- No grant can be given: the stagger timer runs, or there is no candidate (R34, R35). -/
def State.GrantsNone (u : State) : Prop := u.app.stagger.isSome = true ∨ u.app.candidates u.grantArgs.service = []

/-- A grant opportunity without a candidate has no effect (R35). -/
theorem grantOpportunity_of_none (reported : ShedReported u) (none : u.app.candidates u.grantArgs.service = []) :
    u.grantOpportunity = u := by
  unfold State.grantOpportunity
  split
  · next idle =>
    have same : u.app.opportunity u.grantArgs = u.app := opportunity_of_none none
    have idle : u.app.stagger = .none := Option.isNone_iff_eq_none.mp idle
    have fresh : ({ u.app with stagger := .none } : Apportioner) = u.app := by rw [← idle]
    have apportioned : u.apportionStarting (Apportioner.opportunity u.grantArgs) = u := by
      have reported : (u.cond.recs[Cond.claimShed]).present = !(u.app.opportunity u.grantArgs).shedStack.isEmpty := by
        rwa [same]
      unfold State.apportionStarting
      rw [apportion_of_reported reported, fresh, same, idle]
      simp
    rw [apportioned]
    exact tellOwners_of_engineSame (.refl u.app)
  · rfl

theorem settleClaims_of_grantsNone (reported : ShedReported u) (none : u.GrantsNone) : u.settleClaims = u := by
  rcases none with runs | none
  · exact settleClaims_of_staggered runs
  · unfold State.settleClaims
    rw [grantOpportunity_of_none reported none, ite_self]

theorem settle_of_settled (settled : u.settleClaims = u) (spent : u.ev.Spent) : u.settle = u := by
  obtain ⟨tripped, actuators, -⟩ := spent
  simp [State.settle, settled, State.settleActuators, State.setTripReason, actuators, tripped]

theorem closeEvent_of_settled (before : State) (settled : u.settleClaims = u) (spent : u.ev.Spent) :
    closeEvent before u = { u.drive with revs := bumpAll before.snapshot u.drive.snapshot u.drive.revs } := by
  rw [closeEvent, settle_of_settled settled spent]

/-- An event whose claim event, if it has one, has done its work, and that starts no timer at 0, ends with its own end. -/
theorem finishEvent_of_settled (before : State) (settled : u.settleClaims = u) (spent : u.ev.Spent)
    (timer : u.ev.zeroStagger = false) : finishEvent before u = closeEvent before u := by
  have settle := settle_of_settled settled spent
  obtain ⟨-, -, holds⟩ := spent
  exact finishEvent_of_noZeroTimer (by rw [settle]; exact holds) (.inl (by rw [settle]; exact timer))

/-! ### A request for a claim -/

/-- `u` is `s` with the claims `a`: CLAIM_SHED stands as `a` has it, no other record differs, and nothing is gathered but
perhaps a claim event or the start of the stagger timer. -/
structure ClaimsBecome (a : Apportioner) (s u : State) : Prop where
  app : u.app = a
  reported : ShedReported u
  recs : ∀ k : Fin 32, k ≠ Cond.claimShed → u.cond.recs[k] = s.cond.recs[k]
  inForce : u.cond.inForce = s.cond.inForce
  told : u.cond.told = s.cond.told
  spent : u.ev.Spent
  rest : Changes [.app, .cond, .ev] s u

theorem service_congr (store : u.store = s.store) (inForce : u.cond.inForce = s.cond.inForce) :
    u.grantArgs.service = s.grantArgs.service := by
  have service : u.shedServiceInForce = s.shedServiceInForce := congrArg Consequences.shedService inForce
  simp only [State.grantArgs, service, State.setting, store]

theorem ClaimsBecome.settled {a : Apportioner} (c : ClaimsBecome a s u)
    (none : a.stagger.isSome = true ∨ a.candidates s.grantArgs.service = []) : u.settleClaims = u := by
  have service : u.grantArgs.service = s.grantArgs.service := service_congr (c.rest .store (by simp)) c.inForce
  refine settleClaims_of_grantsNone c.reported ?_
  unfold State.GrantsNone
  rwa [c.app, service]

theorem claimRequest_cond_of_stack (reported : ShedReported s)
    (same : (f s.app).shedStack = s.app.shedStack) : (s.claimRequest f).cond = s.cond := by
  unfold State.claimRequest
  split
  · rfl
  · rw [apportion_of_reported (by rw [same]; exact reported)]
    rfl

theorem claimRequest_zeroStagger (s : State) (f : Apportioner → Apportioner) :
    (s.claimRequest f).ev.zeroStagger = s.ev.zeroStagger := by
  unfold State.claimRequest
  split
  · rfl
  · exact apportion_zeroStagger s f

theorem claimRequest_becomes (q : s.ev.Quiet) (h : ShedReported s ∨ f s.app ≠ s.app) :
    ClaimsBecome (f s.app) s (s.claimRequest f) := by
  unfold State.claimRequest
  split
  · next same =>
    exact ⟨same.symm, h.resolve_right (not_not_intro same), fun _ _ => rfl, rfl, rfl, q.spent, Changes.refl _ s⟩
  · have quiet : (s.apportion f).ev.Quiet := quiet_takeReport (s := { s with app := f s.app }) q _ _
    exact ⟨apportion_app s f, shedReported_apportion s f, fun k => apportion_recs_other s f, apportion_inForce s f,
      apportion_told s f, quiet.spent, (changes_apportion s f).mono.trans (changes_claimEvent _).mono⟩

end

end Sys2Proof.Machine
end

section
/-!
The items on claims, and the lapse of an offer, where no grant follows (R40, R43 to R46).
-/
namespace Sys2Proof.Machine

/-! ### Items that request a claim, at an idle port -/

theorem withTable_of_resolved {table n : Nat} {h : Handle} {g : Option Nat} {s : State} {k : State → Fin n → Answer}
    {i : Fin n} (r : (resolve h s).2 = some (table, i.val)) (guard : guardPasses s g table i.val = true) :
    withTable table n h g s k = k (resolve h s).1 i := by
  unfold withTable
  rw [withRecord_of_resolved r, guard]
  simp

/-- As `withTable_of_resolved`, of the state in which the item runs: the guard compares the same revision. -/
theorem withTable_entered {table n : Nat} {h : Handle} {g : Option Nat} {s : State} {k : State → Fin n → Answer}
    {i : Fin n} (r : (resolve h s).2 = some (table, i.val)) (guard : guardPasses s g table i.val = true) :
    withTable table n h g s.entered k = k (resolve h s).1.entered i := by
  have entered := resolve_entered h s
  rw [withTable_of_resolved (s := s.entered) (i := i) (by rw [entered]; exact r) guard, entered]

/-- The state an item's handle leaves it: the port alone has moved. -/
theorem resolved_entered (h : Handle) (s : State) : ∃ p, (resolve h s).1.entered = { s with port := p } := by
  obtain ⟨n, e, -⟩ := resolve_fst h s
  exact ⟨_, by rw [e]; rfl⟩

theorem resolved_due (h : Handle) {s : State} (due : s.port.restartDue = false) :
    (resolve h s).1.port.restartDue = false := by
  obtain ⟨n, e, -⟩ := resolve_fst h s
  rw [e]
  exact due

section
variable {s u : State} {h : Handle} {a : Apportioner}

/-- The end of the event of a request after which no grant can be given. -/
theorem ClaimsBecome.finishEvent_eq (c : ClaimsBecome a s u)
    (none : a.stagger.isSome = true ∨ a.candidates s.grantArgs.service = []) (timer : u.ev.zeroStagger = false)
    (before : State) :
    finishEvent before u = { u.drive with revs := bumpAll before.snapshot u.drive.snapshot u.drive.revs } :=
  (finishEvent_of_settled before (c.settled none) c.spent timer).trans
    (closeEvent_of_settled before (c.settled none) c.spent)

/-- The frame of an item whose request ends its event, its response prepared. -/
theorem ClaimsBecome.changes {p q : Port} {revs : RevTable} (c : ClaimsBecome a { s with port := p } u) (b : Between s) :
    Changes [.app, .cond, .port, .out, .revs] s { u.drive with revs := revs, port := q } := by
  have requested : Changes [.app, .cond, .ev, .port] s u := (changes_port s p).mono.trans c.rest.mono
  have driven : Changes [.app, .cond, .ev, .port, .out] s u.drive := requested.mono.trans (changes_drive u).mono
  exact Changes.of_same (p := .ev) ((driven.mono.trans (changes_revs _ revs).mono).trans (changes_port _ q).mono) b.2.symm

/-- An item that comes to a request for a claim after which no grant can be given. -/
theorem runItem_claims {i : Instr} {body : State → Answer} (r : Ready s)
    (b : body s.entered = answerOk u) (c : ClaimsBecome a (resolve h s).1.entered u)
    (none : a.stagger.isSome = true ∨ a.candidates s.grantArgs.service = []) (timer : u.ev.zeroStagger = false) :
    ∃ t, runItem i body s = .next t ∧ t.app = a ∧ t.cond = u.cond ∧ t.port = (resolve h s).1.port.answered .ok [] ∧
      Changes [.app, .cond, .port, .out, .revs] s t ∧ t.out = t.outputs := by
  have port : u.port = (resolve h s).1.port.enter [] 1 := c.rest .port (by simp)
  obtain ⟨p, e⟩ := resolved_entered h s
  rw [e] at c
  refine ⟨_, runItem_idle r.1 (.inl r.2) b (fun x => absurd rfl x) port (resolved_due h r.1.2.2), ?_⟩
  rw [c.finishEvent_eq none timer]
  exact ⟨c.app, rfl, rfl, c.changes r.1.1, rfl⟩

/-- As `runItem_claims`, with the operation named: `f` keeps the stagger timer. -/
theorem runItem_claimRequest {i : Instr} {body : State → Answer} {f : Apportioner → Apportioner} (r : Ready s)
    (b : body s.entered = answerOk ((resolve h s).1.entered.claimRequest f)) (reported : ShedReported s)
    (timer : (f s.app).stagger = s.app.stagger) (none : GrantsNothing f s) :
    ∃ t, runItem i body s = .next t ∧ t.app = f s.app ∧ ShedReported t ∧
      (∀ k : Fin 32, k ≠ Cond.claimShed → t.cond.recs[k] = s.cond.recs[k]) ∧
      ((f s.app).shedStack = s.app.shedStack → t.cond = s.cond) ∧
      t.port = (resolve h s).1.port.answered .ok [] ∧ Changes [.app, .cond, .port, .out, .revs] s t ∧
      t.out = t.outputs := by
  obtain ⟨p, e⟩ := resolved_entered h s
  have becomes : ClaimsBecome (f s.app) (resolve h s).1.entered ((resolve h s).1.entered.claimRequest f) := by
    rw [e]
    exact claimRequest_becomes (s := { s with port := p }) (quiet_of_between r.1.1) (.inl reported)
  have unstarted : ((resolve h s).1.entered.claimRequest f).ev.zeroStagger = false := by
    rw [claimRequest_zeroStagger, e]
    exact (quiet_of_between r.1.1).noTimer
  obtain ⟨t, run, app, cond, port, changes, out⟩ := runItem_claims r b becomes (timer ▸ none) unstarted
  refine ⟨t, run, app, ?_, fun k other => ?_, fun same => ?_, port, changes, out⟩
  · have shed := becomes.reported
    rw [ShedReported, becomes.app] at shed
    rwa [ShedReported, cond, app]
  · rw [cond, becomes.recs k other, e]
  · rw [cond, e]
    exact claimRequest_cond_of_stack (s := { s with port := p }) reported same

end

/-! ### AMEND CLAIM (R43) -/

section
variable {a : Apportioner} {i : Fin 16} {asked : Nat}

/-- What an amendment that is not refused comes to. -/
theorem amend_eq (live : (a.claims[i]).state ≠ .free)
    (offered : (a.claims[i]).state = .offered → asked ≤ (a.claims[i]).asked) :
    a.amend i asked =
      { a with
        claims := a.claims.set i
          { a.claims[i] with
            asked := asked
            granted :=
              if (a.claims[i]).state = .offered ∨ (a.claims[i]).state = .held ∧ asked ≤ (a.claims[i]).granted then asked
              else (a.claims[i]).granted }
        waiting :=
          if (a.claims[i]).state = .held then
            if asked ≤ (a.claims[i]).granted then a.waiting.filter (· != i)
            else if a.waiting.contains i then a.waiting else a.waiting ++ [i]
          else a.waiting } := by
  unfold Apportioner.amend
  generalize own : a.claims[i] = c at live offered
  cases state : c.state with
  | free => exact absurd state live
  | waiting => simp [state, Apportioner.setClaim]
  | shed => simp [state, Apportioner.setClaim]
  | offered => simp [state, Apportioner.setClaim, offered state]
  | held =>
    by_cases back : asked ≤ c.granted
    · simp [state, back, Apportioner.setClaim, Apportioner.leaveQueue]
    · simp [state, back, Apportioner.setClaim, joinQueue_eq]

theorem amend_stagger (a : Apportioner) (i : Fin 16) (asked : Nat) : (a.amend i asked).stagger = a.stagger := by
  unfold Apportioner.amend
  simp only
  split
  · rfl
  · rfl
  · rfl
  · split <;> rfl
  · split
    · rfl
    · rw [joinQueue_eq]
      rfl

end

theorem amendSlot_accepted {u : State} {i : Fin 16} {asked : Nat} (link : 6 ≤ i.val) (live : (u.claim i).state ≠ .free)
    (least : 1 ≤ asked) (most : asked ≤ ratedAsk (u.claim i).consumer)
    (offered : (u.claim i).state = .offered → asked ≤ (u.claim i).asked) :
    amendSlot asked u i = answerOk (u.claimRequest (Apportioner.amend i asked)) := by
  have range : ¬(asked < 1 ∨ ratedAsk (u.claim i).consumer < asked) := by omega
  have rise : ¬((u.claim i).state = .offered ∧ (u.claim i).asked < asked) := fun ⟨state, less⟩ =>
    absurd (offered state) (Nat.not_le.mpr less)
  unfold amendSlot
  simp only [if_neg (Nat.not_lt.mpr link), if_neg live, if_neg range, if_neg rise]

/-- Settles O29: the amendment is the request, and no grant follows it. -/
theorem amendClaimChangesAsked : Obligations.AmendClaimChangesAsked := by
  intro s h g asked i j ready nothing reported resolved guard link live least most offered
  have body : itemBody (.amendClaim h g asked) s.entered =
      answerOk ((resolve h s).1.entered.claimRequest (Apportioner.amend i asked)) := by
    obtain ⟨p, e⟩ := resolved_entered h s
    change withTable 3 16 h g s.entered (amendSlot asked) = _
    rw [withTable_entered resolved guard, e]
    exact amendSlot_accepted (u := { s with port := p }) link live least most offered
  obtain ⟨t, run, app, -, -, cond, port, changes, out⟩ :=
    runItem_claimRequest (i := .amendClaim h g asked) ready body reported (amend_stagger _ _ _) nothing
  have amended := app.trans (amend_eq live offered)
  have stack : (s.app.amend i asked).shedStack = s.app.shedStack := by rw [amend_eq live offered]
  have frame : Changes [.app, .port, .out, .revs] s t := Changes.of_same (p := .cond) changes.mono (cond stack)
  refine ⟨t, run, ?_⟩
  simp only [State.claim]
  rw [amended]
  refine ⟨setClaim_claims_self s.app i _, fun other => setClaim_claims_other s.app _ other, rfl, rfl, rfl, port,
    frame, out⟩

/-! ### TAKE CLAIM (R44) -/

theorem takeSlot_offered {u : State} {i : Fin 16} (link : 6 ≤ i.val) (offered : (u.claim i).state = .offered) :
    takeSlot u i = answerOk (u.claimRequest (Apportioner.collect i)) := by
  simp [takeSlot, Nat.not_lt.mpr link, offered]

theorem takeSlot_free {u : State} {i : Fin 16} (link : 6 ≤ i.val) (free : (u.claim i).state = .free) :
    takeSlot u i = refuse u .tooLate := by
  simp [takeSlot, Nat.not_lt.mpr link, free]

theorem takeSlot_notOffered {u : State} {i : Fin 16} (link : 6 ≤ i.val)
    (other : (u.claim i).state = .waiting ∨ (u.claim i).state = .held ∨ (u.claim i).state = .shed) :
    takeSlot u i = refuse u .notOffered := by
  rcases other with state | state | state <;> simp [takeSlot, Nat.not_lt.mpr link, state]

/-- Settles O30: the collection is the request, and no grant follows it; a refusal resolves the handle alone. -/
theorem takeClaimCollectsOffer : Obligations.TakeClaimCollectsOffer := by
  intro s h i j ready nothing reported resolved link
  obtain ⟨p, e⟩ := resolved_entered h s
  have body : itemBody (.takeClaim h) s.entered = takeSlot (resolve h s).1.entered i := withTable_entered resolved rfl
  have refused {st : ItemStatus} (answer : takeSlot { s with port := p } i = refuse { s with port := p } st)
      (other : st ≠ .ok) : exec (.takeClaim h) s = .next ((resolve h s).1.answered st []) :=
    runItem_resolved (i := .takeClaim h) ready (body.trans (by rw [e]; exact answer)) fun _ => rfl
  refine ⟨fun offered => ?_, fun free => refused (takeSlot_free link free) (by decide),
    fun other => refused (takeSlot_notOffered link other) (by decide)⟩
  have taken : itemBody (.takeClaim h) s.entered =
      answerOk ((resolve h s).1.entered.claimRequest (Apportioner.collect i)) := by
    rw [body, e]
    exact takeSlot_offered (u := { s with port := p }) link offered
  obtain ⟨t, run, app, -, -, cond, port, changes, out⟩ :=
    runItem_claimRequest (i := .takeClaim h) ready taken reported rfl nothing
  have frame : Changes [.app, .port, .out, .revs] s t := Changes.of_same (p := .cond) changes.mono (cond rfl)
  refine ⟨t, run, ?_⟩
  simp only [State.claim]
  rw [app]
  have own : (s.app.collect i).claims[i] = { s.app.claims[i] with state := .held, offerLeft := none } :=
    collect_claim _ _
  refine ⟨own, fun other => setClaim_claims_other s.app _ other, rfl, rfl, rfl, ?_, port, frame, out⟩
  exact (loadEnable_iff _ _).mpr ⟨i, link, (congrArg Claim.state own :), (congrArg Claim.consumer own :)⟩

/-! ### RETIRE CLAIM (R45) and the collection deadline (R46) -/

theorem release_ne {a : Apportioner} {i : Fin 16} (live : (a.claims[i]).state ≠ .free) : a.release i ≠ a := by
  intro same
  have own : (a.release i).claims[i] = Claim.free := release_claim _ _
  rw [same] at own
  exact live (congrArg Claim.state own)

theorem release_other {a : Apportioner} {i j : Fin 16} (h : j ≠ i) : (a.release i).claims[j] = a.claims[j] :=
  setClaim_claims_other _ _ h

theorem retireSlot_accepted {u : State} {i : Fin 16} (link : 6 ≤ i.val) (live : (u.claim i).state ≠ .free) :
    retireSlot u i = answerOk (u.claimRequest (Apportioner.release i)) := by
  simp [retireSlot, Nat.not_lt.mpr link, live]

/-- Settles O31: the release is the request, and no grant follows it. -/
theorem retireClaimFreesSlot : Obligations.RetireClaimFreesSlot := by
  intro s h g i j k ready nothing reported resolved guard link live
  have body : itemBody (.retireClaim h g) s.entered =
      answerOk ((resolve h s).1.entered.claimRequest (Apportioner.release i)) := by
    obtain ⟨p, e⟩ := resolved_entered h s
    change withTable 3 16 h g s.entered retireSlot = _
    rw [withTable_entered resolved guard, e]
    exact retireSlot_accepted (u := { s with port := p }) link live
  obtain ⟨t, run, app, shed, recs, -, port, changes, out⟩ :=
    runItem_claimRequest (i := .retireClaim h g) ready body reported rfl nothing
  refine ⟨t, run, ?_, fun other => ?_, by rw [app]; rfl, by rw [app]; rfl, by rw [app]; rfl, shed, recs k, port, changes,
    out⟩
  · rw [State.claim, app]
    exact release_claim _ _
  · rw [State.claim, app]
    exact release_other other

/-- The end of the event of a request that also reports a condition of its own which carries no consequence. -/
theorem ClaimsBecome.settled_report {a : Apportioner} {s u : State} (c : ClaimsBecome a s u)
    (none : a.stagger.isSome = true ∨ a.candidates s.grantArgs.service = []) {i : Fin 32} (own : i ≠ Cond.claimShed)
    (plain : catalogue[i].consequences = Consequences.none) (rep : Report) :
    (u.takeReport i rep).settleClaims = u.takeReport i rep ∧ (u.takeReport i rep).ev.Spent ∧
      (u.takeReport i rep).ev.zeroStagger = u.ev.zeroStagger := by
  have app : (u.takeReport i rep).app = a := ((changes_takeReport u i rep) .app (by simp)).trans c.app
  have store : (u.takeReport i rep).store = s.store :=
    ((changes_takeReport u i rep) .store (by simp)).trans (c.rest .store (by simp))
  have inForce : (u.takeReport i rep).cond.inForce = s.cond.inForce := (takeReport_inForce u rep plain).trans c.inForce
  have reported : ShedReported (u.takeReport i rep) := by
    rw [ShedReported, takeReport_other u rep own.symm, app, ← c.app]
    exact c.reported
  obtain ⟨l, ev⟩ : ∃ l, (u.takeReport i rep).ev = { u.ev with onsets := l } := putRec_ev u i _
  refine ⟨settleClaims_of_grantsNone reported ?_, ?_, ?_⟩
  · unfold State.GrantsNone
    rwa [app, service_congr store inForce]
  · rw [ev]
    exact c.spent
  · rw [ev]

/-- Settles O32: the lapse is the request, OFFER_LAPSED tells the blocks nothing, and no grant follows. -/
theorem offerLapses : Obligations.OfferLapses := by
  intro s i j k between judged nothing offered running
  have live : (s.app.claims[i]).state ≠ .free := fun free => by
    rw [State.claim, free] at offered
    cases offered
  have becomes : ClaimsBecome (s.app.release i) s (s.claimRequest (Apportioner.release i)) :=
    claimRequest_becomes (quiet_of_between between) (.inr (release_ne live))
  have unstarted : (s.claimRequest (Apportioner.release i)).ev.zeroStagger = false := by
    rw [claimRequest_zeroStagger, between.2]
    rfl
  generalize requested : s.claimRequest (Apportioner.release i) = u at becomes unstarted
  have lapsed : State.lapse i s = u.takeReport Cond.offerLapsed .occurs := by
    rw [State.lapse, if_pos offered, requested]
    exact report_of_judged (becomes.told.trans (judged.trans becomes.inForce.symm)) rfl
  obtain ⟨settled, spent, timer⟩ := becomes.settled_report nothing (i := Cond.offerLapsed) (by decide) rfl .occurs
  have app : (u.takeReport Cond.offerLapsed .occurs).app = s.app.release i :=
    (changes_takeReport _ _ _ .app (by simp)).trans becomes.app
  generalize told : u.takeReport Cond.offerLapsed .occurs = v at *
  have reports : Changes [.app, .cond, .ev] s v := by
    rw [← told]
    exact becomes.rest.trans (changes_takeReport _ _ _).mono
  have run : exec (.collectionDeadlineExpiry i) s = .next (finishEvent s v) := by
    rw [← lapsed]
    exact expiry_of_running (running := fun s => (s.claim i).offerLeft.isSome) between.1 running
  refine ⟨_, run, ?_⟩
  rw [finishEvent_of_settled s settled spent (timer.trans unstarted), closeEvent_of_settled s settled spent]
  refine ⟨?_, fun other => ?_, congrArg Apportioner.standing app, ?_, fun noShed noLapse => ?_,
    Changes.of_same (p := .ev) ?_ between.2.symm, rfl⟩
  · exact (congrArg (fun a : Apportioner => a.claims[i]) app).trans (release_claim _ _)
  · exact (congrArg (fun a : Apportioner => a.claims[j]) app).trans (release_other other)
  · change v.cond.recs[Cond.offerLapsed] = _
    have args : u.onsetArgs = s.onsetArgs := by
      have store : u.store = s.store := becomes.rest .store (by simp)
      rw [State.onsetArgs, State.setting, State.setting, store]
      rfl
    rw [← told, takeReport_self, becomes.recs Cond.offerLapsed (by decide), args]
    rfl
  · change v.cond.recs[k] = _
    rw [← told, takeReport_other u _ noLapse, becomes.recs k noShed]
  · exact (reports.mono.trans (changes_drive v).mono).trans (changes_revs _ _).mono

end Sys2Proof.Machine
end

section
/-!
OPEN CLAIM (R42): the slot taken, the result made at the end of the event, and the claim's life through the grants that
follow.
-/
namespace Sys2Proof.Machine

/-! ### An item answered with a claim -/

theorem entry_claim (s : State) (i : Fin 16) :
    s.entry .ok (.claim i) =
      countByte ItemStatus.ok.code :: countByte (s.resultBytes (.claim i)).length :: s.resultBytes (.claim i) := rfl

/-- An item executed at an idle port that is answered with a claim: its revision is that of the end of the item's own
event (R42). -/
theorem runItem_idle_claim {c : Instr} {body : State → Answer} {s u : State} {p : Port} {i : Fin 16} (r : Ready s)
    (b : body s.entered = ⟨u, .ok, .claim i⟩) (port : u.port = p.enter [] 1) (due : p.restartDue = false) :
    runItem c body s =
      .next
        { finishEvent s.entered u with
          port := p.answered .ok [countByte i.val, countByte ((closeEvent s.entered u).revision 3 i.val)] } := by
  obtain ⟨⟨⟨held, -⟩, idle, -⟩, free⟩ := r
  have answer : answerItem c body s.entered = ⟨u, .ok, .claim i⟩ := by
    rw [answerItem, if_neg, b]
    simp [State.entered, Port.enter, free]
  have after : (finishEvent s.entered u).port = p.enter [] 1 := (finishEvent_port _ _).trans port
  rw [runItem_of_idle held idle]
  change Host.Outcome.next (s.entered.executeItem c body) = _
  unfold State.executeItem
  rw [answer]
  simp only
  rw [entry_claim, addEntry_last]
  · rw [after]; rfl
  · rw [after]; rfl
  · rw [after]; rfl
  · rw [after]; rfl
  · rw [after]; exact due

/-! ### The end of the event of a request -/

section
variable {s : State}

/-- With STAGGER at 1 or more a request for a claim is one event (R33). -/
theorem finishEvent_claimRequest (before : State) (f : Apportioner → Apportioner) (q : s.ev.Quiet)
    (one : 1 ≤ s.setting Setting.stagger) :
    finishEvent before (s.claimRequest f) = closeEvent before (s.claimRequest f) := by
  have keeps : Keeps ownerRecs [] s (s.claimRequest f).settle :=
    (keeps_claimRequest s f).mono.trans (keeps_settle _)
  obtain ⟨-, -, -, holds, stagger⟩ := q
  obtain ⟨l, none, noted, -⟩ := keeps.holds
  refine finishEvent_of_noZeroTimer ?_ (.inl ((keeps.stagger one).trans stagger))
  rw [noted, holds, List.subset_nil.mp none]
  rfl

/-- With the stagger timer running a request for a claim is one event, whatever STAGGER is (R34). -/
theorem ClaimsBecome.closes {a : Apportioner} {u : State} (c : ClaimsBecome a s u) (runs : a.stagger.isSome = true)
    (timer : u.ev.zeroStagger = false) (before : State) : finishEvent before u = closeEvent before u :=
  finishEvent_of_settled before (c.settled (.inl runs)) c.spent timer

end

/-! ### OPEN CLAIM -/

theorem openSlot_stagger (a : Apportioner) (i : Fin 16) (c priority asked tag : Nat) :
    (a.openSlot i c priority asked tag).stagger = a.stagger := by
  rw [Apportioner.openSlot, joinQueue_eq]
  rfl

theorem openSlot_ne {a : Apportioner} {i : Fin 16} (free : (a.claims[i]).state = .free) (c priority asked tag : Nat) :
    a.openSlot i c priority asked tag ≠ a := by
  intro same
  have own := openSlot_claim a i c priority asked tag
  rw [same] at own
  rw [own] at free
  cases free

theorem openSlot_other {a : Apportioner} {i j : Fin 16} {c priority asked tag : Nat} (h : j ≠ i) :
    (a.openSlot i c priority asked tag).claims[j] = a.claims[j] := by
  rw [Apportioner.openSlot, joinQueue_claims]
  exact setClaim_claims_other a _ h

theorem holdsConsumer_eq_false {a : Apportioner} {c : Nat}
    (h : ∀ k : Fin 16, (a.claims[k]).state ≠ .free → (a.claims[k]).consumer ≠ c) : a.holdsConsumer c = false := by
  unfold Apportioner.holdsConsumer
  rw [Vector.any_toList, Vector.any_eq_false]
  intro k bound
  by_cases free : (a.claims[k]).state = .free
  · simp [free]
  · simpa [free] using h ⟨k, bound⟩ free

theorem poolSlots_getElem : ∀ k : Fin 10, (poolSlots[k.val]).val = 6 + k.val := by decide

theorem freeSlot_lowest {a : Apportioner} {i : Fin 16} (pool : 6 ≤ i.val) (free : (a.claims[i]).state = .free)
    (taken : ∀ k : Fin 16, 6 ≤ k.val → k.val < i.val → (a.claims[k]).state ≠ .free) : a.freeSlot = some i := by
  have here : i.val - 6 < poolSlots.length := by simp [poolSlots]; omega
  refine List.find?_eq_some_iff_getElem.mpr ⟨beq_iff_eq.mpr free, i.val - 6, here, ?_, fun k less => ?_⟩
  · have place := poolSlots_getElem ⟨i.val - 6, here⟩
    exact Fin.ext (by simp only at place; omega)
  · have place := poolSlots_getElem ⟨k, by omega⟩
    simpa using taken (poolSlots[k]) (by simp only at place; omega) (by simp only at place; omega)

theorem openConsumer_accepted {u : State} {c : Fin 19} {i : Fin 16} {priority asked tag : Nat} (link : 6 ≤ c.val)
    (prio : priority ≤ 5) (least : 1 ≤ asked) (most : asked ≤ ratedAsk c.val) (tagged : tag ≤ 65535)
    (fresh : u.app.holdsConsumer c.val = false) (slot : u.app.freeSlot = some i) :
    openConsumer priority asked tag u c =
      ⟨u.claimRequest (Apportioner.openSlot i c.val priority asked tag), .ok, .claim i⟩ := by
  have range : openInRange c.val priority asked tag = true := decide_eq_true ⟨prio, least, most, tagged⟩
  simp [openConsumer, Nat.not_lt.mpr link, range, fresh, slot]

theorem openSlot_becomes {w : State} {i : Fin 16} (q : w.ev.Quiet) (free : (w.claim i).state = .free)
    (c priority asked tag : Nat) :
    ClaimsBecome (w.app.openSlot i c priority asked tag) w
      (w.claimRequest (Apportioner.openSlot i c priority asked tag)) :=
  claimRequest_becomes q (.inr (openSlot_ne free c priority asked tag))

/-- An opening is one event where STAGGER is 1 or more, and where the stagger timer runs (R33, R34). -/
theorem openSlot_closes {w : State} {i : Fin 16} (q : w.ev.Quiet) (free : (w.claim i).state = .free)
    {c priority asked tag : Nat} (one : 1 ≤ w.setting Setting.stagger ∨ StaggerRuns w) (before : State) :
    finishEvent before (w.claimRequest (Apportioner.openSlot i c priority asked tag)) =
      closeEvent before (w.claimRequest (Apportioner.openSlot i c priority asked tag)) := by
  rcases one with one | runs
  · exact finishEvent_claimRequest before _ q one
  · exact (openSlot_becomes q free c priority asked tag).closes (by rw [openSlot_stagger]; exact runs)
      ((claimRequest_zeroStagger _ _).trans q.noTimer) before

theorem exec_openClaim {s : State} {h : Handle} {c priority asked tag : Nat} {i : Fin 16} {p : Port} (ready : Ready s)
    (e : (resolve h s).1.entered = { s with port := p }) (resolved : (resolve h s).2 = some (2, c)) (link : 6 ≤ c)
    (prio : priority ≤ 5) (least : 1 ≤ asked) (most : asked ≤ ratedAsk c) (tagged : tag ≤ 65535)
    (fresh : s.app.holdsConsumer c = false) (slot : s.app.freeSlot = some i) {u : State}
    (opened : ({ s with port := p } : State).claimRequest (Apportioner.openSlot i c priority asked tag) = u) :
    exec (.openClaim h priority asked tag) s =
      .next
        { finishEvent s.entered u with
          port :=
            (resolve h s).1.port.answered .ok
              [countByte i.val, countByte ((closeEvent s.entered u).revision 3 i.val)] } := by
  have within : c < 19 := resolve_index resolved
  have body : itemBody (.openClaim h priority asked tag) s.entered = ⟨u, .ok, .claim i⟩ := by
    change withTable 2 19 h none s.entered (openConsumer priority asked tag) = _
    rw [withTable_entered (i := ⟨c, within⟩) resolved rfl, e, ← opened]
    exact openConsumer_accepted (u := { s with port := p }) link prio least most tagged fresh slot
  have port : u.port = (resolve h s).1.port.enter [] 1 := by
    rw [← opened]
    exact (changes_claimRequest _ _ .port (by decide)).trans (congrArg State.port e).symm
  exact runItem_idle_claim ready body port (resolved_due h ready.1.2.2)

/-- Settles O28: the request opens the lowest FREE slot, and no grant that follows frees a claim or changes what it asks
(`Ripples.linksLive`); with the stagger timer running none follows. -/
theorem openClaimTakesLowestSlot : Obligations.OpenClaimTakesLowestSlot := by
  intro s h c priority asked tag i j ready resolved link prio least most tagged fresh pool free taken
  obtain ⟨p, e⟩ := resolved_entered h s
  have q : ({ s with port := p } : State).ev.Quiet := quiet_of_between ready.1.1
  have becomes := openSlot_becomes (w := { s with port := p }) (i := i) q free c priority asked tag
  have closes := openSlot_closes (w := { s with port := p }) (i := i) (c := c) (priority := priority) (asked := asked)
    (tag := tag) q free
  have cond := claimRequest_cond_of_stack (s := { s with port := p }) (f := Apportioner.openSlot i c priority asked tag)
  have unstarted := (claimRequest_zeroStagger { s with port := p } (Apportioner.openSlot i c priority asked tag)).trans
    q.noTimer
  generalize opened : ({ s with port := p } : State).claimRequest (Apportioner.openSlot i c priority asked tag) = u
    at becomes closes cond unstarted
  have app : u.app = s.app.openSlot i c priority asked tag := becomes.app
  have own : u.app.claims[i] = ⟨.waiting, c, priority, asked, 0, tag, none, none, none⟩ := by
    rw [app]
    exact openSlot_claim ..
  have lives := (ripples_finishEvent s.entered u).linksLive i pool (by rw [own]; exact nofun)
  rw [own] at lives
  obtain ⟨live, consumer, prio', asked', tag'⟩ := lives
  refine ⟨_, exec_openClaim ready e resolved link prio least most tagged (holdsConsumer_eq_false fresh)
    (freeSlot_lowest pool free taken) opened, ⟨_, rfl, fun one => ?_⟩, live, consumer, prio', asked', tag',
    fun runs reported => ?_⟩
  · change _ = (finishEvent s.entered u).revision 3 i.val
    rw [closes one]
  · have idle : (s.app.openSlot i c priority asked tag).stagger.isSome = true := by rwa [openSlot_stagger]
    have stack : (s.app.openSlot i c priority asked tag).shedStack = s.app.shedStack := joinQueue_shedStack _ _
    rw [becomes.finishEvent_eq (.inl idle) unstarted]
    refine ⟨own, fun other => ?_, fun fresh => ?_, app, ?_, rfl⟩
    · change u.app.claims[j] = _
      rw [app]
      exact openSlot_other other
    · change u.app.waiting = _
      rw [app, Apportioner.openSlot, joinQueue_eq]
      exact if_neg (by simpa [Apportioner.setClaim] using fresh)
    · exact Changes.of_same (p := .cond) (becomes.changes ready.1.1).mono (cond reported stack)

end Sys2Proof.Machine
end

section
/-!
A grant opportunity among the claims: what it leaves where others are shed for the top candidate, and where the top
candidate is passed over (R36, R37).
-/
namespace Sys2Proof.Machine

section
variable {a : Apportioner} {g : GrantArgs} {top i j : Fin 16} {rest : List (Fin 16)}

theorem grant_other_state (g : GrantArgs) (a : Apportioner) (h : j ≠ i) :
    ((a.grant g i).claims[j]).state = (a.claims[j]).state := (sameOff_grant g a i).state (by simpa using h)

theorem grant_other_granted (g : GrantArgs) (a : Apportioner) (h : j ≠ i) :
    ((a.grant g i).claims[j]).granted = (a.claims[j]).granted := (sameOff_grant g a i).granted (by simpa using h)

theorem grant_other_asked (g : GrantArgs) (a : Apportioner) (h : j ≠ i) :
    ((a.grant g i).claims[j]).asked = (a.claims[j]).asked := (sameOff_grant g a i).asked (by simpa using h)

/-- The granted sum once the first `n` lower claims in walk order are taken back. -/
def Apportioner.sumLess (a : Apportioner) (top : Fin 16) (n : Nat) : Nat :=
  a.grantedSum - (((a.lowerHolders top).take n).map fun i => (a.claims[i]).granted).sum

theorem sumLess_of_taken {n : Nat} {b : Apportioner} (taken : a.TakenBack ((a.lowerHolders top).take n) b) :
    a.sumLess top n = b.grantedSum := by
  have sum := taken.sum
  unfold Apportioner.sumLess
  omega

theorem lowerHolders_length (h : a.Consistent) (top : Fin 16) : (a.lowerHolders top).length ≤ 16 := by
  have nodup : (a.lowerHolders top).Nodup := (List.nodup_reverse.2 h.once.standing).filter _
  simpa using nodup.length_le_card

/-- What an opportunity comes to that sheds for its top candidate (R36). -/
theorem opportunity_room (h : a.Consistent) (candidates : a.candidates g.service = top :: rest)
    (not : a.fits g.budget top = false) (room : a.roomByShedding g.budget top = true) :
    (a.opportunity g).Consistent ∧ (a.opportunity g).grantedSum ≤ g.budget ∧
      ((a.opportunity g).claims[top]).granted = (a.claims[top]).asked ∧
      (a.opportunity g).stagger = some g.stagger ∧
      ∃ n : Fin 17,
        (∀ i : Fin 16, i ∈ (a.lowerHolders top).take n.val →
            (a.claims[i]).priority < (a.claims[top]).priority ∧ ((a.opportunity g).claims[i]).granted = 0 ∧
              ((a.claims[i]).state = .held → ((a.opportunity g).claims[i]).state = .shed) ∧
              ((a.claims[i]).state = .offered → ((a.opportunity g).claims[i]).state = .waiting)) ∧
          (∀ i : Fin 16, i ≠ top → i ∉ (a.lowerHolders top).take n.val →
            ((a.opportunity g).claims[i]).state = (a.claims[i]).state ∧
              ((a.opportunity g).claims[i]).granted = (a.claims[i]).granted) ∧
          a.sumLess top n.val + a.increase top ≤ g.budget ∧
          ∀ m : Fin 17, m.val < n.val → g.budget < a.sumLess top m.val + a.increase top := by
  obtain ⟨n, le, b, eq, taken, sum, minimal⟩ := opportunity_sheds h candidates not room
  have out : top ∉ (a.lowerHolders top).take n := fun mem => lt_irrefl _ (lowerHolders_lower (List.mem_of_mem_take mem))
  have fresh : (b.claims[top]).state ≠ .offered := by
    rw [taken.same.state out]
    exact h.candidate (candidates ▸ List.mem_cons_self)
  have bound : n < 17 := by have := lowerHolders_length h top; omega
  rw [eq]
  refine ⟨taken.consistent.grant g fresh, ?_, (grant_granted g).trans (taken.same.asked out), grant_stagger ..,
    ⟨n, bound⟩, fun i mem => ?_, fun i other untaken => ?_, ?_, fun m less => ?_⟩
  · rw [grant_grantedSum g taken.consistent, taken.same.increase out]
    exact sum
  · have other : i ≠ top := fun e => out (e ▸ mem)
    rw [grant_other_state g b other, grant_other_granted g b other]
    exact ⟨lowerHolders_lower (List.mem_of_mem_take mem), taken.granted i mem, taken.held i mem, taken.offered i mem⟩
  · rw [grant_other_state g b other, grant_other_granted g b other]
    exact ⟨taken.same.state untaken, taken.same.granted untaken⟩
  · rw [sumLess_of_taken taken]
    exact sum
  · obtain ⟨c, before, above⟩ := minimal m less
    rw [sumLess_of_taken before]
    exact above

/-- What an opportunity comes to whose top candidate would not fit even by shedding (R37). -/
theorem opportunity_passes (candidates : a.candidates g.service = top :: rest) (not : a.fits g.budget top = false)
    (room : a.roomByShedding g.budget top = false) (j : Fin 16) :
    (rest.find? (a.fits g.budget) = none → a.opportunity g = a) ∧
      ∀ i : Fin 16, rest.find? (a.fits g.budget) = some i →
        ((a.opportunity g).claims[i]).granted = (a.claims[i]).asked ∧
          (j ≠ i →
            ((a.opportunity g).claims[j]).state = (a.claims[j]).state ∧
              ((a.opportunity g).claims[j]).granted = (a.claims[j]).granted) := by
  obtain ⟨none, some⟩ := opportunity_of_skip candidates not room
  refine ⟨none, fun i found => ?_⟩
  rw [some i found]
  exact ⟨grant_granted g, fun other => ⟨grant_other_state g a other, grant_other_granted g a other⟩⟩

end

end Sys2Proof.Machine
end

section
/-!
The stagger timer's expiry where no engine claim moves (R33 to R38): the grant opportunity is the whole effect.
-/
namespace Sys2Proof.Machine

theorem changes_app (s : State) (a : Apportioner) : Changes [.app] s { s with app := a } := by
  intro p outside
  cases p with
  | app => exact absurd List.mem_cons_self outside
  | _ => rfl

/-- The claims with the stagger timer idle (R33). -/
def Apportioner.idle (a : Apportioner) : Apportioner := { a with stagger := none }

theorem idle_consistent {a : Apportioner} (h : a.Consistent) : a.idle.Consistent := by
  obtain ⟨standing, stack, queue, agrees⟩ := h
  exact ⟨standing, stack, queue, agrees⟩

/-! ### An operation that may start the stagger timer -/

section
variable {w : State} {f : Apportioner → Apportioner}

theorem apportion_claimEvent (w : State) (f : Apportioner → Apportioner) :
    (w.apportion f).ev.claimEvent = w.ev.claimEvent := by
  obtain ⟨l, e⟩ : ∃ l, (w.apportion f).ev = { w.ev with onsets := l } :=
    putRec_ev { w with app := f w.app } Cond.claimShed _
  rw [e]

theorem apportionStarting_claimEvent (w : State) (f : Apportioner → Apportioner) :
    (w.apportionStarting f).ev.claimEvent = w.ev.claimEvent := apportion_claimEvent w f

theorem apportionStarting_becomes (q : w.ev.Quiet) (f : Apportioner → Apportioner) :
    ClaimsBecome (f w.app) w (w.apportionStarting f) where
  app := apportion_app w f
  reported := shedReported_apportion w f
  recs _ := apportion_recs_other w f
  inForce := apportion_inForce w f
  told := apportion_told w f
  spent := (quiet_takeReport (s := { w with app := f w.app }) q _ _).spent
  rest := (changes_apportionStarting w f).mono

end

section
variable {s t : State}

/-- The opportunity that the expiry of the stagger timer gives. -/
def State.nextClaims (s : State) : Apportioner := s.app.idle.opportunity s.grantArgs

theorem staggerExpired_eq (s : State) :
    s.staggerExpired =
      State.tellOwners { s with app := s.app.idle }
        (({ s with app := s.app.idle } : State).apportionStarting (Apportioner.opportunity s.grantArgs)) := rfl

/-- Where no engine claim moves, no owner is told. -/
theorem staggerExpired_untold (same : s.app.idle.EngineSame s.nextClaims) :
    s.staggerExpired =
      ({ s with app := s.app.idle } : State).apportionStarting (Apportioner.opportunity s.grantArgs) := by
  rw [staggerExpired_eq]
  refine tellOwners_of_engineSame ?_
  rw [apportionStarting_app, apportion_app]
  exact same

theorem nextClaims_stagger (one : 1 ≤ s.setting Setting.stagger) : s.nextClaims.stagger ≠ some 0 := by
  rcases opportunity_stagger s.grantArgs s.app.idle with e | e <;> rw [State.nextClaims, e]
  · exact nofun
  · intro zero
    have : s.grantArgs.stagger = 0 := Option.some.inj zero
    exact absurd this (Nat.one_le_iff_ne_zero.mp one)

/-- The claims after the expiry, and what is gathered for the end of its event. -/
theorem staggerExpired_becomes (q : s.ev.Quiet) (same : s.app.idle.EngineSame s.nextClaims) :
    ClaimsBecome s.nextClaims s s.staggerExpired ∧ s.staggerExpired.ev.claimEvent = false ∧
      s.staggerExpired.ev.zeroStagger = (s.nextClaims.stagger == some 0) := by
  have starts := apportionStarting_becomes (w := { s with app := s.app.idle }) q (Apportioner.opportunity s.grantArgs)
  rw [staggerExpired_untold same]
  refine ⟨{ starts with rest := ?_ }, ?_, ?_⟩
  · exact Changes.trans (t := { s with app := s.app.idle }) (changes_app s _).mono starts.rest
  · rw [apportionStarting_claimEvent]
    exact q.1
  · rw [apportionStarting_zeroStagger, apportion_zeroStagger]
    exact congrArg (· || _) q.noTimer

/-! ### The event of an expiry -/

/-- One expiry of the stagger timer at which no engine claim moves, from `s` to the end `t` of its event: the opportunity is
the whole effect. -/
structure Expires (s t : State) : Prop where
  app : t.app = s.nextClaims
  recs : ∀ k : Fin 32, k ≠ Cond.claimShed → t.cond.recs[k] = s.cond.recs[k]
  args : t.grantArgs = s.grantArgs
  ev : t.ev = Scratch.empty
  rest : Changes [.app, .cond, .out, .revs] s t
  out : t.out = t.outputs

theorem grantArgs_congr (store : t.store = s.store) (supply : t.supply = s.supply)
    (inForce : t.cond.inForce = s.cond.inForce) : t.grantArgs = s.grantArgs := by
  have service : t.grantArgs.service = s.grantArgs.service := service_congr store inForce
  have budget : t.apportionable = s.apportionable := apportionable_congr store supply
  have setting (k : Fin 86) : t.setting k = s.setting k := by simp only [State.setting, store]
  simp only [State.grantArgs, GrantArgs.mk.injEq]
  exact ⟨budget, setting _, setting _, service⟩

theorem expires_closeEvent (ev : s.ev = Scratch.empty) (same : s.app.idle.EngineSame s.nextClaims) (before : State) :
    Expires s (closeEvent before s.staggerExpired) := by
  obtain ⟨becomes, claimEvent, -⟩ := staggerExpired_becomes (ev ▸ Scratch.quiet_empty) same
  have settled : s.staggerExpired.settleClaims = s.staggerExpired := by
    rw [State.settleClaims, claimEvent]
    rfl
  rw [closeEvent_of_settled before settled becomes.spent]
  have driven : Changes [.app, .cond, .ev, .out] s s.staggerExpired.drive :=
    becomes.rest.mono.trans (changes_drive _).mono
  have all : Changes [.app, .cond, .ev, .out, .revs] s
      { s.staggerExpired.drive with
        revs := bumpAll before.snapshot s.staggerExpired.drive.snapshot s.staggerExpired.drive.revs } :=
    driven.mono.trans (changes_revs _ _).mono
  exact ⟨becomes.app, becomes.recs, grantArgs_congr (all .store (by simp)) (all .supply (by simp)) becomes.inForce, rfl,
    Changes.of_same (p := .ev) all.mono ev.symm, rfl⟩

/-- Where the stagger timer is not left at 0, the expiry is one event (R33). -/
theorem finishEvent_staggerExpired (ev : s.ev = Scratch.empty) (same : s.app.idle.EngineSame s.nextClaims)
    (starts : s.nextClaims.stagger ≠ some 0) (before : State) :
    finishEvent before s.staggerExpired = closeEvent before s.staggerExpired := by
  obtain ⟨becomes, claimEvent, timer⟩ := staggerExpired_becomes (ev ▸ Scratch.quiet_empty) same
  have settled : s.staggerExpired.settleClaims = s.staggerExpired := by
    rw [State.settleClaims, claimEvent]
    rfl
  exact finishEvent_of_settled before settled becomes.spent (timer.trans (beq_eq_false_iff_ne.mpr starts))

theorem exec_staggerTimerExpiry (b : Between s) (runs : StaggerRuns s) :
    exec .staggerTimerExpiry s = .next (finishEvent { s with app := s.app.idle } s.staggerExpired) :=
  execStaggerTimerExpiry_of_running b.1 runs

/-- The expiry of the stagger timer, where no engine claim moves and the timer is not left at 0. -/
theorem exec_staggerTimerExpiry_expires (b : Between s) (runs : StaggerRuns s)
    (same : s.app.idle.EngineSame s.nextClaims) (starts : s.nextClaims.stagger ≠ some 0) :
    ∃ t, exec .staggerTimerExpiry s = .next t ∧ Expires s t := by
  refine ⟨_, exec_staggerTimerExpiry b runs, ?_⟩
  rw [finishEvent_staggerExpired b.2 same starts]
  exact expires_closeEvent b.2 same _

/-! ### No candidate (R35) -/

theorem nextClaims_of_none (none : s.app.candidates s.grantArgs.service = []) : s.nextClaims = s.app.idle :=
  opportunity_of_none (a := s.app.idle) none

/-- With CLAIM_SHED reported an expiry without a candidate has no effect but on the timer. -/
theorem staggerExpired_of_none (none : s.app.candidates s.grantArgs.service = []) (reported : ShedReported s) :
    s.staggerExpired = { s with app := s.app.idle } :=
  grantOpportunity_of_none (u := { s with app := s.app.idle }) reported none

theorem exec_staggerTimerExpiry_of_none (b : Between s) (runs : StaggerRuns s)
    (none : s.app.candidates s.grantArgs.service = []) :
    ∃ t, exec .staggerTimerExpiry s = .next t ∧ t.app = s.app.idle ∧
      (ShedReported s → Changes [.revs] ({ s with app := s.app.idle } : State).drive t) := by
  have next := nextClaims_of_none none
  have same : s.app.idle.EngineSame s.nextClaims := by rw [next]; exact .refl _
  have starts : s.nextClaims.stagger ≠ some 0 := by rw [next]; exact nofun
  refine ⟨_, exec_staggerTimerExpiry b runs, ?_⟩
  rw [finishEvent_staggerExpired b.2 same starts]
  refine ⟨(expires_closeEvent b.2 same _).app.trans next, fun reported => ?_⟩
  rw [staggerExpired_of_none none reported]
  have spent : ({ s with app := s.app.idle } : State).ev.Spent := (quiet_of_between b).spent
  have settled : ({ s with app := s.app.idle } : State).settleClaims = { s with app := s.app.idle } := by
    rw [State.settleClaims, show ({ s with app := s.app.idle } : State).ev = Scratch.empty from b.2]
    rfl
  rw [closeEvent_of_settled _ settled spent]
  exact changes_revs _ _

/-! ### A link claim at the top that fits (R38) -/

theorem nextClaims_of_fits {top : Fin 16} {rest : List (Fin 16)}
    (candidates : s.app.candidates s.grantArgs.service = top :: rest) (fits : s.app.fits s.apportionable top = true) :
    s.nextClaims = s.app.idle.grant s.grantArgs top :=
  opportunity_of_fits (a := s.app.idle) candidates fits

end

end Sys2Proof.Machine
end

section
/-!
The stagger timer's expiry with a link claim at the top of the rank that fits (R33, R35, R38): one grant, and with STAGGER at
0 the next at once.
-/
namespace Sys2Proof.Machine

/-! ### The candidates after a grant (R35) -/

section
variable {a : Apportioner} {g : GrantArgs} {i j : Fin 16} {service : Option Nat}

theorem leftOut_congr {b : Apportioner} (priority : (b.claims[j]).priority = (a.claims[j]).priority) :
    b.leftOut service j = a.leftOut service j := by
  cases service with
  | none => rfl
  | some prio => simp only [Apportioner.leftOut, Apportioner.covered, priority]

/-- A claim granted leaves the collections that candidates come from. -/
theorem Apportioner.Consistent.grant_pool (h : a.Consistent) :
    (a.grant g i).shedStack ++ (a.grant g i).waiting = (a.shedStack ++ a.waiting).filter (· != i) := by
  rw [grant_waiting, grant_shedStack, List.filter_append]
  split
  · next held =>
    obtain ⟨-, unshed, -⟩ := h.held_iff held
    have same : a.shedStack.filter (· != i) = a.shedStack := List.filter_eq_self.mpr fun j mem =>
      bne_iff_ne.mpr fun e => unshed.mp (e ▸ mem)
    rw [same]
  · rfl

/-- The candidates after a grant are those before it without the claim granted. -/
theorem Apportioner.Consistent.candidates_grant (h : a.Consistent) (service : Option Nat) :
    (a.grant g i).candidates service = (a.candidates service).filter (· != i) := by
  unfold Apportioner.candidates
  rw [h.grant_pool, List.filter_flatMap]
  congr 1
  funext p
  rw [List.filter_filter, List.filter_filter]
  refine List.filter_congr fun j _ => ?_
  by_cases e : j = i
  · simp [e]
  · have priority : ((a.grant g i).claims[j]).priority = (a.claims[j]).priority :=
      (sameOff_grant g a i).priority (by simpa using e)
    rw [leftOut_congr priority, priority]
    exact Bool.and_comm _ _

theorem Apportioner.Consistent.pool_nodup (h : a.Consistent) : (a.shedStack ++ a.waiting).Nodup := by
  refine List.Nodup.append h.once.shedStack h.once.waiting fun j stack queue => ?_
  obtain ⟨-, -, unqueued⟩ := h.shed_iff ((h.mem_shedStack j).mp stack)
  exact unqueued.mp queue

theorem Apportioner.Consistent.candidates_nodup (h : a.Consistent) (service : Option Nat) :
    (a.candidates service).Nodup := by
  unfold Apportioner.candidates
  refine List.nodup_flatMap.mpr ⟨fun p _ => h.pool_nodup.filter _, ?_⟩
  have distinct : [7, 6, 5, 4, 3, 2, 1, 0].Pairwise fun p q : Nat => p ≠ q := by decide
  refine distinct.imp fun ne j hp hq => ?_
  have p := (List.mem_filter.mp hp).2
  have q := (List.mem_filter.mp hq).2
  simp only [Bool.and_eq_true, beq_iff_eq] at p q
  exact ne (p.1.symm.trans q.1)

end

/-! ### One grant -/

section
variable {s t : State} {top j : Fin 16} {rest : List (Fin 16)}

theorem engineSame_nextClaims (link : 6 ≤ top.val)
    (next : s.nextClaims = s.app.idle.grant s.grantArgs top) : s.app.idle.EngineSame s.nextClaims := by
  rw [next]
  exact engineSame_grant _ _ link

/-- What the grant to a link claim at the top of the rank comes to. -/
theorem Expires.granted (e : Expires s t) (link : 6 ≤ top.val)
    (next : s.nextClaims = s.app.idle.grant s.grantArgs top) (j : Fin 16) :
    t.app.stagger = some (s.setting Setting.stagger) ∧
      (t.claim top).granted = (s.claim top).asked ∧
      (t.claim top).asked = (s.claim top).asked ∧
      ((s.claim top).state = .held → (t.claim top).state = .held) ∧
      ((s.claim top).state ≠ .held →
        (t.claim top).state = .offered ∧ (t.claim top).offerLeft = some (s.setting Setting.collectionWindow) ∧
          (t.claim top).shedSeq = none ∧ t.app.shedStack = s.app.shedStack.filter (· != top)) ∧
      t.app.waiting = s.app.waiting.filter (· != top) ∧
      (j ≠ top → (t.claim j).state = (s.claim j).state ∧ (t.claim j).granted = (s.claim j).granted ∧
        (t.claim j).asked = (s.claim j).asked) := by
  have app : t.app = s.app.idle.grant s.grantArgs top := e.app.trans next
  unfold State.claim
  rw [app]
  refine ⟨grant_stagger .., grant_granted _, grant_asked _, fun held => ?_, fun other => ?_, grant_waiting ..,
    fun other => ?_⟩
  · rw [grant_held_claim (a := s.app.idle) s.grantArgs held]
    exact held
  · have other : (s.app.idle.claims[top]).state ≠ .held := other
    obtain ⟨n, own⟩ := grant_other s.grantArgs other
    rw [own, grant_shedStack, if_neg other]
    exact ⟨if_pos link, if_pos link, rfl, rfl⟩
  · exact ⟨grant_other_state _ _ other, grant_other_granted _ _ other, grant_other_asked _ _ other⟩

/-! ### STAGGER at 0 (R33) -/

/-- The first expiry of two, STAGGER being 0: the candidate granted leaves the other one alone, and the timer stands at 0. -/
theorem expires_grant (ev : s.ev = Scratch.empty) (link : 6 ≤ top.val) (consistent : s.app.Consistent)
    (candidates : s.app.candidates s.grantArgs.service = top :: rest)
    (fits : s.app.grantedSum + s.app.increase top ≤ s.apportionable) (before : State) :
    ∃ t, closeEvent before s.staggerExpired = t ∧ Expires s t ∧ t.app = s.app.idle.grant s.grantArgs top ∧
      t.app.Consistent ∧ t.app.candidates t.grantArgs.service = rest ∧
      t.app.grantedSum = s.app.grantedSum + s.app.increase top := by
  have next := nextClaims_of_fits candidates ((fits_iff _).mpr fits)
  have expires := expires_closeEvent ev (engineSame_nextClaims link next) before
  have app := expires.app.trans next
  have nodup : (top :: rest).Nodup := candidates ▸ consistent.candidates_nodup _
  have fresh : (s.app.idle.claims[top]).state ≠ .offered := consistent.candidate (candidates ▸ List.mem_cons_self)
  refine ⟨_, rfl, expires, app, ?_, ?_, ?_⟩
  · rw [app]
    exact (idle_consistent consistent).grant _ fresh
  · rw [expires.args, app, (idle_consistent consistent).candidates_grant]
    change (s.app.candidates s.grantArgs.service).filter (· != top) = rest
    rw [candidates, List.filter_cons_of_neg (by simp)]
    exact List.filter_eq_self.mpr fun i mem => bne_iff_ne.mpr fun e => (List.nodup_cons.mp nodup).1 (e ▸ mem)
  · rw [app]
    exact grant_grantedSum _ (idle_consistent consistent)

theorem expireZeroStagger_succ {n : Nat} (zero : s.app.stagger = some 0) :
    s.expireZeroStagger (n + 1) = (closeEvent s s.staggerExpired).expireZeroStagger n := by
  rw [State.expireZeroStagger, if_pos zero]

/-- With STAGGER at 0 an expiry that grants leaves the rest to the expiries that follow it at once (R33). -/
theorem finishEvent_staggerExpired_zero (ev : s.ev = Scratch.empty) (same : s.app.idle.EngineSame s.nextClaims)
    (zero : s.nextClaims.stagger = some 0) (before : State) :
    finishEvent before s.staggerExpired = (closeEvent before s.staggerExpired).expireZeroStagger staggerRounds := by
  obtain ⟨becomes, claimEvent, timer⟩ := staggerExpired_becomes (ev ▸ Scratch.quiet_empty) same
  have settled : s.staggerExpired.settleClaims = s.staggerExpired := by
    rw [State.settleClaims, claimEvent]
    rfl
  have settle := settle_of_settled settled becomes.spent
  obtain ⟨-, -, holds⟩ := becomes.spent
  rw [finishEvent, settle, holds]
  exact endEvent_of_zeroStagger (by rw [settle, timer, zero]; rfl)

/-- The expiries that follow a grant at STAGGER 0 where one more candidate fits: it is granted, and the next expiry finds
none (R33, R35). -/
theorem expireZeroStagger_one {n : Nat} (ev : s.ev = Scratch.empty) (timer : s.app.stagger = some 0) (link : 6 ≤ top.val)
    (consistent : s.app.Consistent) (candidates : s.app.candidates s.grantArgs.service = [top])
    (zero : s.grantArgs.stagger = 0) (fits : s.app.grantedSum + s.app.increase top ≤ s.apportionable) :
    (s.expireZeroStagger (n + 2)).app = (s.app.idle.grant s.grantArgs top).idle ∧
      Changes [.app, .cond, .out, .revs] s (s.expireZeroStagger (n + 2)) ∧
      (s.expireZeroStagger (n + 2)).out = (s.expireZeroStagger (n + 2)).outputs := by
  obtain ⟨t, first, expires, app, -, rest, -⟩ := expires_grant ev link consistent candidates fits s
  have again : t.app.stagger = some 0 := by rw [app, grant_stagger, zero]
  have next := nextClaims_of_none rest
  have last := expires_closeEvent expires.ev (by rw [next]; exact .refl _) t
  have idle : (closeEvent t t.staggerExpired).app = t.app.idle := last.app.trans next
  have stops : (closeEvent t t.staggerExpired).app.stagger ≠ some 0 := by
    rw [idle]
    exact nofun
  rw [expireZeroStagger_succ timer, first, expireZeroStagger_succ again, expireZeroStagger_of_ne stops, ← app]
  exact ⟨idle, expires.rest.trans last.rest, last.out⟩

/-- Two candidates that fit together: the first is granted at the expiry, the second at the one that follows at once. -/
theorem exec_staggerTimerExpiry_both (b : Between s) (runs : StaggerRuns s) (consistent : s.app.Consistent)
    (candidates : s.app.candidates s.grantArgs.service = [top, j]) (linkTop : 6 ≤ top.val) (link : 6 ≤ j.val)
    (zero : s.setting Setting.stagger = 0)
    (fits : s.app.grantedSum + s.app.increase top + s.app.increase j ≤ s.apportionable) :
    ∃ t, exec .staggerTimerExpiry s = .next t ∧
      t.app.stagger = none ∧
      (t.claim top).granted = (s.claim top).asked ∧ (t.claim j).granted = (s.claim j).asked ∧
      Changes [.app, .cond, .out, .revs] s t ∧ t.out = t.outputs := by
  have distinct : top ≠ j := fun e => by
    have nodup := candidates ▸ consistent.candidates_nodup s.grantArgs.service
    exact (List.nodup_cons.mp nodup).1 (List.mem_singleton.mpr e)
  have next := nextClaims_of_fits candidates ((fits_iff _).mpr (by omega))
  have timer : s.nextClaims.stagger = some 0 := by
    rw [next, grant_stagger]
    exact congrArg some zero
  obtain ⟨u, first, expires, app, consistentAfter, rest, sum⟩ :=
    expires_grant b.2 linkTop consistent candidates (by omega) { s with app := s.app.idle }
  have off : s.app.idle.SameOff [top] u.app := app ▸ sameOff_grant s.grantArgs s.app.idle top
  have increase : u.app.increase j = s.app.increase j := off.increase (by simpa using distinct.symm)
  have budget : u.apportionable = s.apportionable := congrArg GrantArgs.budget expires.args
  obtain ⟨claims, changes, out⟩ := expireZeroStagger_one (n := 62) expires.ev (expires.app ▸ timer) link consistentAfter
    rest ((congrArg GrantArgs.stagger expires.args).trans zero) (by omega)
  refine ⟨_, exec_staggerTimerExpiry b runs, ?_⟩
  rw [finishEvent_staggerExpired_zero b.2 (engineSame_nextClaims linkTop next) timer, first]
  unfold State.claim
  rw [show staggerRounds = 62 + 2 from rfl, claims]
  refine ⟨rfl, ?_, ?_, expires.rest.trans changes, out⟩
  · exact (grant_other_granted _ u.app.idle distinct).trans (app ▸ grant_granted s.grantArgs)
  · exact (grant_granted u.grantArgs (a := u.app.idle)).trans (off.asked (by simpa using distinct.symm))

end

end Sys2Proof.Machine
end

section
/-!
The stagger timer's expiry with an engine claim at the top of the rank that fits: its owner is told of the grant (R38, R47).
-/
namespace Sys2Proof.Machine

/-! ### One engine claim is granted (R47) -/

/-- From `s` to `u` the claim of one slot has been granted more, and is HELD; no other claim has moved. -/
structure EngineGranted (top : Fin 16) (s u : State) : Prop where
  held : (u.claim top).state = .held
  more : (s.claim top).granted ≠ (u.claim top).granted
  state : ∀ j, j ≠ top → (u.claim j).state = (s.claim j).state
  granted : ∀ j, j ≠ top → (u.claim j).granted = (s.claim j).granted

section
variable {s t u v : State} {top j : Fin 16} {rest : List (Fin 16)} {z : Zone}

theorem EngineGranted.of_app (m : EngineGranted top s u) (app : v.app = u.app) : EngineGranted top s v := by
  have claim : v.claim = u.claim := funext fun i => by rw [State.claim, State.claim, app]
  exact ⟨claim ▸ m.held, claim ▸ m.more, claim ▸ m.state, claim ▸ m.granted⟩

theorem EngineGranted.claimMoved (m : EngineGranted top s u) (j : Fin 16) : claimMoved s u j = (j == top) := by
  by_cases e : j = top
  · rw [e, beq_self_eq_true, Machine.claimMoved, bne_iff_ne.mpr m.more, Bool.or_true]
  · rw [Machine.claimMoved, m.state j e, m.granted j e, beq_eq_false_iff_ne.mpr e]
    simp

/-- A slot that is not HELD before and HELD after is the slot granted. -/
theorem EngineGranted.newlyHeld (m : EngineGranted top s u) (j : Fin 16) :
    (!s.isHeld j && u.isHeld j) = true ↔ top = j ∧ (s.claim j).state ≠ .held := by
  simp only [Bool.and_eq_true, Bool.not_eq_true', ← Bool.not_eq_true, isHeld_iff]
  refine ⟨fun ⟨before, after⟩ => ⟨?_, before⟩, fun ⟨own, before⟩ => ⟨before, own ▸ m.held⟩⟩
  by_contra other
  exact before ((m.state j fun e => other e.symm) ▸ after)

theorem EngineGranted.stillHeld (m : EngineGranted top s u) (j : Fin 16) : (s.isHeld j && !u.isHeld j) = false := by
  by_cases e : j = top
  · rw [e, (isHeld_iff u top).mpr m.held]
    simp
  · have same : u.isHeld j = s.isHeld j := congrArg (· == ClaimState.held) (m.state j e)
    rw [same, Bool.and_not_self]

theorem EngineGranted.unshed (m : EngineGranted top s u) (j : Fin 16) :
    ((s.claim j).state != .shed && (u.claim j).state == .shed) = false := by
  by_cases e : j = top
  · rw [e, m.held]
    simp
  · rw [m.state j e]
    simp

/-! The owners told: the Cooling Controller, the Converter Sequencer, the Yaw Sequencer. -/

theorem EngineGranted.tellCooling (m : EngineGranted top s u) :
    State.tellCooling s u = u.noteActuators (consumerOrder.filter fun z => homeSlot z == top) := by
  rw [State.tellCooling]
  simp only [m.claimMoved]

theorem EngineGranted.tellConverter (m : EngineGranted top s u) :
    State.tellConverter s u =
      if top = 1 ∧ (s.claim 1).state ≠ .held then { u with conv := { u.conv with flowProven := u.level .flowConv } }
      else u := by
  rw [State.tellConverter, m.stillHeld 1]
  simp only [m.newlyHeld 1, Bool.false_eq_true, if_false]

theorem EngineGranted.tellYaw (m : EngineGranted top s u) :
    State.tellYaw s u = if top = 0 ∧ (s.claim 0).state ≠ .held then u.yawGranted else u := by
  rw [State.tellYaw, m.unshed 0]
  simp only [m.newlyHeld 0, Bool.false_eq_true, if_false]

/-- The actuators whose grants moved, noted. -/
def State.notedHome (top : Fin 16) (u : State) : State :=
  u.noteActuators (consumerOrder.filter fun z => homeSlot z == top)

/-- Of the owners one acts at once: the Yaw Sequencer on slot 0, the Converter Sequencer on slot 1. -/
theorem EngineGranted.tellOwners_eq (m : EngineGranted top s u) :
    State.tellOwners s u =
      if top = 0 ∧ (s.claim 0).state ≠ .held then (u.notedHome top).yawGranted
      else if top = 1 ∧ (s.claim 1).state ≠ .held then
        { u.notedHome top with conv := { u.conv with flowProven := u.level .flowConv } }
      else u.notedHome top := by
  have noted : EngineGranted top s (u.notedHome top) := m.of_app rfl
  rw [State.tellOwners, m.tellCooling, ← State.notedHome, noted.tellConverter]
  split
  · next one =>
    have zero : ¬(top = 0 ∧ (s.claim 0).state ≠ .held) := fun h => absurd (h.1.symm.trans one.1) (by decide)
    have told : EngineGranted top s { u.notedHome top with conv := { u.conv with flowProven := u.level .flowConv } } :=
      m.of_app rfl
    rw [if_neg zero]
    exact told.tellYaw.trans (if_neg zero)
  · exact noted.tellYaw

/-- The grant of the yaw claim moves the engine and may end its route. -/
theorem changes_yawGranted_engine (s : State) : Changes [.yaw, .routes] s s.yawGranted :=
  Changes.ite (changes_enterReleasing s) (Changes.refl _ s)

theorem EngineGranted.changes_tellOwners (m : EngineGranted top s u) :
    Changes [.ev, .conv, .yaw, .routes] u (State.tellOwners s u) ∧
      (State.tellOwners s u).ev = (u.notedHome top).ev := by
  have noted : Changes [.ev] u (u.notedHome top) := changes_noteActuators u _
  rw [m.tellOwners_eq]
  split
  · exact ⟨noted.mono.trans (changes_yawGranted_engine _).mono, changes_yawGranted_engine _ .ev (by simp)⟩
  split
  · exact ⟨noted.mono.trans (changes_conv _ _).mono, rfl⟩
  · exact ⟨noted.mono, rfl⟩

/-! ### The actuators settled (R110) -/

theorem armFlow_zones (s : State) (p : Pump) : (s.armFlow p).cool.zones = s.cool.zones := by
  unfold State.armFlow
  simp only
  repeat' split
  all_goals rfl

theorem refreshActuator_zone (s : State) (z : Zone) :
    (s.refreshActuator z).cool.zones.get z =
      { s.cool.zones.get z with
        effective := s.effectiveLevel z, duty := s.setting (Setting.duty (s.effectiveLevel z)) } := by
  unfold State.refreshActuator
  simp only
  split
  · exact PerZone.get_set_self _ _ _
  · rw [armFlow_zones]
    exact PerZone.get_set_self _ _ _

theorem homes_eq : ∀ z : Zone, (consumerOrder.filter fun y => homeSlot y == homeSlot z) = [z] := by
  intro z
  cases z <;> rfl

theorem settleActuators_home (noted : u.ev.actuators = [z]) : u.settleActuators = u.refreshActuator z := by
  have one : (consumerOrder.filter fun y => [z].contains y) = [z] := by cases z <;> rfl
  rw [State.settleActuators, noted, one]
  rfl

theorem paidLevel_congr (store : t.store = s.store) (z : Zone) (granted : Nat) :
    ∀ l, t.paidLevel z granted l = s.paidLevel z granted l
  | 0 => rfl
  | l + 1 => by
    have amount : t.claimAmount z (l + 1) = s.claimAmount z (l + 1) := by
      simp only [State.claimAmount, State.setting, store]
    rw [State.paidLevel, State.paidLevel, amount, paidLevel_congr store z granted l]

theorem effectiveLevel_of_held (held : (u.claim (homeSlot z)).state = .held) :
    u.effectiveLevel z = u.paidLevel z (u.claim (homeSlot z)).granted (u.cool.zones.get z).actuatorDemand :=
  if_pos ((isHeld_iff u _).mpr held)

/-! ### The expiry -/

/-- The grant of an engine claim with a shortfall. -/
theorem engineGranted_grant {a : Apportioner} {g : GrantArgs} (before : s.app = a) (after : u.app = a.grant g top)
    (engine : top.val < 6) (short : (a.claims[top]).granted < (a.claims[top]).asked) : EngineGranted top s u where
  held := by
    rw [State.claim, after]
    by_cases held : (a.claims[top]).state = .held
    · rw [grant_held_claim g held]
      exact held
    · obtain ⟨n, own⟩ := grant_other g held
      rw [own]
      exact if_neg (Nat.not_le.mpr engine)
  more := by
    rw [State.claim, State.claim, after, before, grant_granted]
    exact short.ne
  state j other := by
    rw [State.claim, State.claim, after, before]
    exact grant_other_state g a other
  granted j other := by
    rw [State.claim, State.claim, after, before]
    exact grant_other_granted g a other

/-- The state `u` in which the expiry at `s` leaves its event that grants an engine claim, its owner told and its actuator
noted. -/
structure EngineExpiry (top : Fin 16) (s u : State) : Prop where
  app : u.app = s.app.idle.grant s.grantArgs top
  held : (u.claim top).state = .held
  ev : u.ev.claimEvent = false ∧ u.ev.tripped = false ∧
    u.ev.actuators = (consumerOrder.filter fun z => homeSlot z == top) ∧ u.ev.zeroHolds = [] ∧ u.ev.zeroStagger = false
  yaw : top = 0 → (s.claim 0).state ≠ .held → s.yaw.engine = .claiming → s.level .brakeOpen = false →
    u.yaw =
      { s.yaw with
        engine := .releasing, begun := true, direction := none, travel := none, target := none,
        stageLeft := some (s.setting Setting.brakeReleaseTimeout) }
  conv : top = 1 → (s.claim 1).state ≠ .held → u.conv = { s.conv with flowProven := s.level .flowConv }
  rest : Changes [.app, .cond, .ev, .conv, .yaw, .routes] s u

/-- The grant that an engine in CLAIMING waits for, the brake being closed (R141, R142). -/
theorem yawGranted_yaw (claiming : s.yaw.engine = .claiming) (closed : s.level .brakeOpen = false) :
    s.yawGranted.yaw =
      { s.yaw with
        engine := .releasing, begun := true, direction := none, travel := none, target := none,
        stageLeft := some (s.setting Setting.brakeReleaseTimeout) } := by
  rw [State.yawGranted, if_pos claiming, State.enterReleasing, closed]
  rfl

theorem staggerExpired_engine (q : s.ev.Quiet) (next : s.nextClaims = s.app.idle.grant s.grantArgs top)
    (engine : top.val < 6) (short : (s.claim top).granted < (s.claim top).asked) (one : 1 ≤ s.setting Setting.stagger) :
    EngineExpiry top s s.staggerExpired := by
  have starts := apportionStarting_becomes (w := { s with app := s.app.idle }) q (Apportioner.opportunity s.grantArgs)
  have claimEvent := apportionStarting_claimEvent { s with app := s.app.idle } (Apportioner.opportunity s.grantArgs)
  have zeroStagger : (({ s with app := s.app.idle } : State).apportionStarting
      (Apportioner.opportunity s.grantArgs)).ev.zeroStagger = (s.ev.zeroStagger || s.nextClaims.stagger == some 0) := by
    rw [apportionStarting_zeroStagger, apportion_zeroStagger]
    rfl
  rw [staggerExpired_eq]
  generalize ({ s with app := s.app.idle } : State).apportionStarting (Apportioner.opportunity s.grantArgs) = v at *
  have app : v.app = s.app.idle.grant s.grantArgs top := starts.app.trans next
  have m : EngineGranted top { s with app := s.app.idle } v := engineGranted_grant rfl app engine short
  obtain ⟨told, ev⟩ := m.changes_tellOwners
  have same : (State.tellOwners { s with app := s.app.idle } v).app = v.app := told .app (by simp)
  obtain ⟨tripped, actuators, holds⟩ := starts.spent
  refine ⟨same.trans app, (m.of_app same).held, ⟨?_, ?_, ?_, ?_, ?_⟩, fun zero other claiming closed => ?_,
    fun slot other => ?_, ?_⟩
  · rw [ev]
    exact claimEvent.trans q.1
  · rw [ev]
    exact tripped
  · rw [ev]
    exact congrArg (· ++ _) actuators
  · rw [ev]
    exact holds
  · rw [ev]
    exact zeroStagger.trans (by rw [q.noTimer, beq_eq_false_iff_ne.mpr (nextClaims_stagger one)]; rfl)
  · rw [m.tellOwners_eq, if_pos ⟨zero, other⟩]
    have yaw : (v.notedHome top).yaw = s.yaw := starts.rest .yaw (by simp)
    have inputs : (v.notedHome top).inputs = s.inputs := starts.rest .inputs (by simp)
    have store : (v.notedHome top).store = s.store := starts.rest .store (by simp)
    have brake : (v.notedHome top).level .brakeOpen = false := by rw [State.level, inputs]; exact closed
    rw [yawGranted_yaw (by rw [yaw]; exact claiming) brake, yaw, State.setting, store]
    rfl
  · have zero : ¬(top = 0 ∧ (({ s with app := s.app.idle } : State).claim 0).state ≠ .held) := fun h =>
      absurd (h.1.symm.trans slot) (by decide)
    rw [m.tellOwners_eq, if_neg zero, if_pos ⟨slot, other⟩]
    have conv : v.conv = s.conv := starts.rest .conv (by simp)
    have inputs : v.inputs = s.inputs := starts.rest .inputs (by simp)
    simp only [conv, State.level, inputs]
  · have moved : Changes [.app, .cond, .ev] s v :=
      Changes.trans (t := { s with app := s.app.idle }) (changes_app s _).mono starts.rest
    exact moved.mono.trans told.mono

/-- The end of the event: the actuators of the claim granted are settled. -/
theorem EngineExpiry.finishEvent_eq (e : EngineExpiry top s u) (before : State) :
    finishEvent before u =
      { u.settleActuators.drive with
        revs := bumpAll before.snapshot u.settleActuators.drive.snapshot u.settleActuators.drive.revs } := by
  obtain ⟨claimEvent, tripped, -, holds, stagger⟩ := e.ev
  have ev : u.settleActuators.ev = u.ev := changes_settleActuators u .ev (by simp)
  have settled : u.settleClaims = u := by
    rw [State.settleClaims, claimEvent]
    rfl
  have settle : u.settle = u.settleActuators := by
    rw [State.settle, settled, State.setTripReason, ev, tripped]
    rfl
  rw [finishEvent_of_noZeroTimer (by rw [settle, ev, holds]) (.inl (by rw [settle, ev, stagger])), closeEvent, settle]

/-- The actuator of the claim granted takes the level its grant pays for (R110). -/
theorem EngineExpiry.settled_zone (e : EngineExpiry top s u) (home : homeSlot z = top) :
    (u.settleActuators.cool.zones.get z).effective =
        s.paidLevel z (s.claim top).asked (s.cool.zones.get z).actuatorDemand ∧
      (u.settleActuators.cool.zones.get z).duty =
        s.setting (Setting.duty (u.settleActuators.cool.zones.get z).effective) := by
  obtain ⟨-, -, noted, -⟩ := e.ev
  have store : u.store = s.store := e.rest .store (by simp)
  have cool : u.cool = s.cool := e.rest .cool (by simp)
  have paid : (u.claim (homeSlot z)).granted = (s.claim top).asked := by
    rw [home, State.claim, e.app]
    exact grant_granted _
  have level : u.effectiveLevel z = s.paidLevel z (s.claim top).asked (s.cool.zones.get z).actuatorDemand := by
    rw [effectiveLevel_of_held (home ▸ e.held), paid, cool, paidLevel_congr store]
  rw [settleActuators_home (noted.trans (home ▸ homes_eq z)), refreshActuator_zone]
  exact ⟨level, by rw [State.setting, State.setting, store]⟩

/-- The expiry that grants the engine claim at the top of the rank, and what its owner makes of it. -/
theorem exec_staggerTimerExpiry_engine (b : Between s) (runs : StaggerRuns s)
    (candidates : s.app.candidates s.grantArgs.service = top :: rest) (engine : top.val < 6)
    (one : 1 ≤ s.setting Setting.stagger) (fits : s.app.fits s.apportionable top = true)
    (short : (s.claim top).granted < (s.claim top).asked) (j : Fin 16) (z : Zone) :
    ∃ t, exec .staggerTimerExpiry s = .next t ∧
      t.app.stagger = some (s.setting Setting.stagger) ∧
      (t.claim top).state = .held ∧ (t.claim top).granted = (s.claim top).asked ∧
      (t.claim top).asked = (s.claim top).asked ∧
      t.app.shedStack = (if (s.claim top).state = .held then s.app.shedStack
        else s.app.shedStack.filter (· != top)) ∧
      t.app.waiting = s.app.waiting.filter (· != top) ∧
      (j ≠ top → (t.claim j).state = (s.claim j).state ∧ (t.claim j).granted = (s.claim j).granted) ∧
      (top = 0 → (s.claim 0).state ≠ .held → s.yaw.engine = .claiming → s.level .brakeOpen = false →
        t.yaw =
          { s.yaw with
            engine := .releasing, begun := true, direction := none, travel := none, target := none,
            stageLeft := some (s.setting Setting.brakeReleaseTimeout) }) ∧
      (top = 1 → (s.claim 1).state ≠ .held → t.conv = { s.conv with flowProven := s.level .flowConv }) ∧
      (homeSlot z = top →
        (t.cool.zones.get z).effective =
            s.paidLevel z (s.claim top).asked (s.cool.zones.get z).actuatorDemand ∧
          (t.cool.zones.get z).duty = s.setting (Setting.duty (t.cool.zones.get z).effective)) ∧
      Changes [.app, .conv, .cool, .routes, .yaw, .cond, .out, .revs] s t := by
  have e := staggerExpired_engine (quiet_of_between b) (nextClaims_of_fits candidates fits) engine short one
  refine ⟨_, exec_staggerTimerExpiry b runs, ?_⟩
  rw [e.finishEvent_eq]
  generalize s.staggerExpired = u at e
  have settles : Changes [.cool] u u.settleActuators := changes_settleActuators u
  have app : u.settleActuators.app = s.app.idle.grant s.grantArgs top := (settles .app (by simp)).trans e.app
  have claim (i : Fin 16) : u.settleActuators.claim i = (s.app.idle.grant s.grantArgs top).claims[i] := by
    rw [State.claim, app]
  have held : ((s.app.idle.grant s.grantArgs top).claims[top]).state = .held := by
    rw [← e.app]
    exact e.held
  refine ⟨(congrArg Apportioner.stagger app).trans (grant_stagger ..), (congrArg Claim.state (claim top)).trans held,
    (congrArg Claim.granted (claim top)).trans (grant_granted _), (congrArg Claim.asked (claim top)).trans (grant_asked _),
    (congrArg Apportioner.shedStack app).trans (grant_shedStack ..),
    (congrArg Apportioner.waiting app).trans (grant_waiting ..),
    fun other => ⟨(congrArg Claim.state (claim j)).trans (grant_other_state _ _ other),
      (congrArg Claim.granted (claim j)).trans (grant_other_granted _ _ other)⟩,
    fun zero other claiming closed => (settles .yaw (by simp)).trans (e.yaw zero other claiming closed),
    fun slot other => (settles .conv (by simp)).trans (e.conv slot other), e.settled_zone, ?_⟩
  refine Changes.of_same (p := .ev) ?_ b.2.symm
  have settled : Changes [.app, .cond, .ev, .conv, .yaw, .routes, .cool] s u.settleActuators :=
    e.rest.mono.trans settles.mono
  have driven : Changes [.app, .cond, .ev, .conv, .yaw, .routes, .cool, .out] s u.settleActuators.drive :=
    settled.mono.trans (changes_drive _).mono
  exact driven.mono.trans (changes_revs _ _).mono

end

/-- Settles O33: what an opportunity does to the claims, then the expiry by its top candidate: link claims alone, an engine
claim that fits, none, a link claim that fits, and STAGGER at 0. -/
theorem staggerGrants : Obligations.StaggerGrants := by
  intro s top j rest k z a g
  refine ⟨fun consistent candidates not =>
    ⟨opportunity_room consistent candidates not, fun room => opportunity_passes candidates not room j⟩,
    fun between runs => ⟨fun link one => ?_, fun candidates engine one fits short => ?_,
      exec_staggerTimerExpiry_of_none between runs, fun candidates link one fits => ?_,
      fun consistent candidates linkTop link zero fits =>
        exec_staggerTimerExpiry_both between runs consistent candidates linkTop link zero fits⟩⟩
  · have same : s.app.idle.EngineSame s.nextClaims := engineSame_opportunity s.grantArgs (a := s.app.idle) link
    obtain ⟨t, run, e⟩ := exec_staggerTimerExpiry_expires between runs same (nextClaims_stagger one)
    exact ⟨t, run, e.app, e.rest⟩
  · exact exec_staggerTimerExpiry_engine between runs candidates engine one fits short j z
  · have next := nextClaims_of_fits candidates fits
    obtain ⟨t, run, e⟩ :=
      exec_staggerTimerExpiry_expires between runs (engineSame_nextClaims link next) (nextClaims_stagger one)
    obtain ⟨timer, granted, asked, held, other, waiting, others⟩ := e.granted link next j
    exact ⟨t, run, timer, granted, asked, held, other, waiting, others, e.recs k, e.rest, e.out⟩

end Sys2Proof.Machine
end

section
/-!
What a group of reports makes of its records, and what the blocks hear where causes only go (R157, R165).
-/
namespace Sys2Proof.Machine

section
variable {s : State} {g : Group} {i : Fin 32}

/-! ### The records of a group -/

theorem report_recs (nodup : (g.map Prod.fst).Nodup) {rep : Report} (mem : (i, rep) ∈ g)
    (shed : i ≠ Cond.claimShed) :
    (s.report g).cond.recs[i] = ((s.cond.recs[i]).take catalogue[i].kind rep s.onsetArgs).1 := by
  obtain ⟨recs, onsets, taken, own, -⟩ := takeReports_eq g s nodup
  have told := (keeps_judge (s.takeReports g)).recs i (by simpa using shed)
  exact told.trans ((congrArg (fun u : State => u.cond.recs[i]) taken).trans (own _ mem))

theorem report_recs_other (out : i ∉ g.map Prod.fst) (shed : i ≠ Cond.claimShed) :
    (s.report g).cond.recs[i] = s.cond.recs[i] :=
  (keeps_report s g).recs i fun mem => (List.mem_append.mp mem).elim out (by simpa using shed)

theorem report_present (nodup : (g.map Prod.fst).Nodup) {b : Bool} (mem : (i, causeIs b) ∈ g)
    (level : catalogue[i].kind = .level) (shed : i ≠ Cond.claimShed) :
    ((s.report g).cond.recs[i]).present = b := by
  rw [report_recs nodup mem shed, level]
  exact take_level_present _ _ _

/-! ### Causes that go -/

/-- From the records `k` to the records `l` no consequence comes into force. -/
def Conditions.Fades (k l : Conditions) : Prop :=
  ∀ carries : Consequences → Bool, l.inForceBy carries = true → k.inForceBy carries = true

/-- A record whose cause goes holds no consequence that it did not hold. -/
theorem holds_take_goes (kind : CondKind) (o : OnsetArgs) (c : CondSpec) (r : CondRec)
    (holds : (r.take kind .goes o).1.holds c = true) : r.holds c = true := by
  cases kind with
  | event => exact holds
  | level =>
    simp only [CondRec.take, CondRec.depart] at holds
    split at holds
    · cases state : r.state with
      | active => simp [CondRec.holds, state]
      | acked => simp [CondRec.holds, state]
      | latched => simpa [CondRec.holds, state] using holds
      | pending => simp [CondRec.holds, CondRec.enter, state] at holds
      | clear => simp [CondRec.holds, state] at holds
    · exact holds

theorem fades_takeReport_goes (s : State) (i : Fin 32) : s.cond.Fades (s.takeReport i .goes).cond := by
  intro carries inForce
  obtain ⟨j, carried, holds⟩ := (Conditions.inForceBy_iff _ carries).mp inForce
  refine (Conditions.inForceBy_iff _ carries).mpr ⟨j, carried, ?_⟩
  by_cases own : j = i
  · subst own
    rw [takeReport_self] at holds
    exact holds_take_goes _ _ _ _ holds
  · rwa [takeReport_other s .goes own] at holds

theorem fades_takeReports_goes (goes : ∀ p ∈ g, p.2 = .goes) : s.cond.Fades (s.takeReports g).cond := by
  induction g generalizing s with
  | nil => exact fun _ inForce => inForce
  | cons p g ih =>
    obtain ⟨first, rest⟩ := List.forall_mem_cons.mp goes
    intro carries inForce
    have before := ih (s := s.takeReport p.1 p.2) rest carries inForce
    rw [first] at before
    exact fades_takeReport_goes s p.1 carries before

/-- Where no consequence comes into force, at most SHED_SERVICE goes, which is a claim event (R34, R165). -/
theorem tell_of_fades {k l : Conditions} (fades : k.Fades l) (s : State) :
    s.tell k.inForce l.inForce = s ∨ s.tell k.inForce l.inForce = s.claimEvent := by
  have silent (carries : Consequences → Bool) : (l.inForceBy carries && !k.inForceBy carries) = false := by
    cases inForce : l.inForceBy carries with
    | false => rfl
    | true => rw [fades carries inForce]; rfl
  simp only [State.tell, Conditions.inForce, silent, Bool.false_eq_true, if_false]
  split
  · exact .inr rfl
  · exact .inl rfl

/-- A group of causes that go changes the records and, at most, notes onsets and a claim event. -/
theorem report_of_goes (judged : Judged s) (nodup : (g.map Prod.fst).Nodup) (goes : ∀ p ∈ g, p.2 = .goes) :
    ∃ cond flag onsets,
      s.report g = { s with cond := cond, ev := { s.ev with claimEvent := flag, onsets := onsets } } := by
  have fades := fades_takeReports_goes (s := s) goes
  obtain ⟨recs, onsets, taken, -⟩ := takeReports_eq g s nodup
  rw [State.report, State.judge]
  rw [taken] at fades ⊢
  dsimp only
  rw [judged]
  rcases tell_of_fades fades _ with told | told
  · exact ⟨_, _, _, told⟩
  · exact ⟨_, _, _, told⟩

end

end Sys2Proof.Machine
end

section
/-!
The Supply Monitor: its record through a change of supply state and a comparison with BACKUP_ONLINE (R61, R63), the
reports of GRID_DIP and GRID_LOST (R68, R69), and the changes that a hold or the backup line brings (R59, R61, R62).
-/
namespace Sys2Proof.Machine

section
variable {s u : State}

/-! ### The supply record -/

theorem changeSupply_supply (s : State) (new : SupplyState) (loss : Option Nat) :
    (s.changeSupply new loss).supply = s.supply.move new loss :=
  (changes_handSupply _ _ _ .supply (by decide)).trans (changes_rebudget _ _ .supply (by decide))

theorem move_grid_of_dip {w : Supply} (dip : w.state = .dip) (loss : Option Nat) :
    w.move .grid loss = { w with state := .grid, recovery := none } := by
  unfold Supply.move
  rw [dip]

/-- The reconnection hold brings GRID back with no below-time and no loss point (R62, R63). -/
theorem move_grid_of_cut {w : Supply} (cut : w.state = .lost ∨ w.state = .backup) (loss : Option Nat) :
    w.move .grid loss =
      { w with state := .grid, reconnect := none, below := Vector.replicate 6 0, lossPoint := none } := by
  unfold Supply.move
  rcases cut with state | state <;> rw [state] <;> rfl

theorem move_grid_state (w : Supply) (loss : Option Nat) : (w.move .grid loss).state = .grid := by
  obtain ⟨state, _, _, _, _⟩ := w
  cases state <;> rfl

theorem move_backup_of_lost {w : Supply} (lost : w.state = .lost) (loss : Option Nat) :
    w.move .backup loss = { w with state := .backup } := by
  unfold Supply.move
  rw [lost]

theorem move_lost_of_backup {w : Supply} (backup : w.state = .backup) (loss : Option Nat) :
    w.move .lost loss = { w with state := .lost } := by
  unfold Supply.move
  rw [backup]

theorem state_same {w : Supply} {state : SupplyState} (same : w.state = state) : w = { w with state := state } := by
  rw [← same]

theorem compareBackup_of_mains (mains : s.supply.state = .grid ∨ s.supply.state = .dip) : s.compareBackup = s := by
  unfold State.compareBackup
  rcases mains with state | state <;> rw [state]

/-- In LOST and BACKUP the state follows BACKUP_ONLINE, and the loss point is kept (R60, R61). -/
theorem compareBackup_supply (cut : s.supply.state = .lost ∨ s.supply.state = .backup) :
    s.compareBackup.supply = { s.supply with state := if s.level .backupOnline = true then .backup else .lost } := by
  unfold State.compareBackup
  rcases cut with state | state
  · cases s.level .backupOnline with
    | true =>
      rw [state]
      exact (changeSupply_supply s _ _).trans (move_backup_of_lost state none)
    | false =>
      rw [state]
      exact state_same state
  · cases s.level .backupOnline with
    | true =>
      rw [state]
      exact state_same state
    | false =>
      rw [state]
      exact (changeSupply_supply s _ _).trans (move_lost_of_backup state none)

theorem apportionable_of_supply {t : State} (store : t.store = s.store) {state : SupplyState}
    (supply : t.supply.state = state) :
    t.apportionable = s.setting (budgetSetting state) - s.setting Setting.essentialReserve := by
  rw [State.apportionable, State.budget, State.setting, State.setting, store, supply]
  rfl

/-! ### A change and its reports -/

theorem reports_nodup (state : SupplyState) : (state.reports.map Prod.fst).Nodup := by cases state <;> decide

/-- What a hold or the backup line made of the supply record, the end of the event leaves. -/
theorem finishEvent_supplyMoved_supply (before : State) (f : State → State) :
    (finishEvent before (u.supplyMoved f)).supply = (f u).supply :=
  (changes_finishEvent before _ .supply (by decide)).trans (changes_report _ _ .supply (by decide))

/-- The reports of GRID_DIP and GRID_LOST stand at the end of the event (R68, R69). -/
theorem finishEvent_supplyMoved_reports {f : State → State} (q : u.ev.Quiet) (calm : Calm u (f u)) (before : State) :
    ((finishEvent before (u.supplyMoved f)).cond.recs[Cond.gridDip]).present = ((f u).supply.state == .dip) ∧
      ((finishEvent before (u.supplyMoved f)).cond.recs[Cond.gridLost]).present =
        ((f u).supply.state == .lost || (f u).supply.state == .backup) := by
  obtain ⟨-, -, -, noHolds, -⟩ := q
  have ends := stays_finishEvent (before := before) (settle_zeroHolds (calm_supplyMoved calm) noHolds)
  rw [ends.recs Cond.gridDip (by decide), ends.recs Cond.gridLost (by decide)]
  exact ⟨report_present (reports_nodup _) (by simp [SupplyState.reports]) rfl (by decide),
    report_present (reports_nodup _) (by simp [SupplyState.reports]) rfl (by decide)⟩

end

/-! ### GRID comes back (R59, R62) -/

section
variable {s : State}

/-- The event of a hold that expires. -/
abbrev State.regrid (s : State) : State := finishEvent s (s.supplyMoved (State.changeSupply .grid none))

theorem exec_recoveryHoldExpiry (b : Between s) (runs : s.supply.recovery.isSome = true) :
    exec .recoveryHoldExpiry s = .next s.regrid := 
  expiry_of_running (running := fun s => s.supply.recovery.isSome) b.1 runs

theorem exec_reconnectionHoldExpiry (b : Between s) (runs : s.supply.reconnect.isSome = true) :
    exec .reconnectionHoldExpiry s = .next s.regrid :=
  expiry_of_running (running := fun s => s.supply.reconnect.isSome) b.1 runs

theorem regrid_supply (s : State) : s.regrid.supply = s.supply.move .grid none :=
  (finishEvent_supplyMoved_supply s _).trans (changeSupply_supply s _ _)

theorem regrid_reports (b : Between s) :
    (s.regrid.cond.recs[Cond.gridDip]).present = false ∧ (s.regrid.cond.recs[Cond.gridLost]).present = false := by
  have reports := finishEvent_supplyMoved_reports (quiet_of_between b) (calm_changeSupply s .grid none) s
  rwa [changeSupply_supply, move_grid_state] at reports

theorem changes_regrid (b : Between s) :
    Changes [.app, .supply, .conv, .cool, .align, .routes, .yaw, .cond, .out, .revs] s s.regrid := by
  refine Changes.of_ev ?_ ((finishEvent_ev s _).trans b.2.symm)
  exact (changes_supplyMoved s _ (changes_changeSupply s .grid none)).mono.trans (changes_finishEvent s _).mono

/-- GRID comes back from a dip that a converter rides, no budget falling: the converter is RUNNING, and the claims stay
for the grant opportunity at the end of the event (R29, R34, R85). -/
theorem changeSupply_of_riding (dip : s.supply.state = .dip) (riding : s.conv.state = .riding)
    (rise : s.setting Setting.budgetDip ≤ s.setting Setting.budgetGrid) :
    ∃ flag, s.changeSupply .grid none =
      { s with
        supply := s.supply.move .grid none, conv := { s.conv with state := .running }
        ev := { s.ev with claimEvent := flag } } := by
  let moved : State := { s with supply := s.supply.move .grid none }
  have budget : s.apportionable ≤ moved.apportionable := by
    rw [apportionable_of_supply (s := s) rfl dip,
      apportionable_of_supply (t := moved) (s := s) rfl (move_grid_state _ _)]
    exact Nat.sub_le_sub_right rise _
  have hand (v : State) (conv : v.conv = s.conv) :
      v.handSupply .dip .grid = { v with conv := { s.conv with state := .running } } := by
    simp [State.handSupply, State.setConverter, conv, riding]
  rw [State.changeSupply, State.rebudget, if_neg (Nat.not_lt.mpr budget), dip]
  split
  · exact ⟨_, hand _ rfl⟩
  · exact ⟨_, hand _ rfl⟩

/-- The converter that rode the dip is RUNNING again: the reports tell it nothing, and the stagger timer lets no grant move
its claim (R34, R85). -/
theorem regrid_conv (b : Between s) (judged : Judged s) (runs : StaggerRuns s) (dip : s.supply.state = .dip)
    (riding : s.conv.state = .riding) (rise : s.setting Setting.budgetDip ≤ s.setting Setting.budgetGrid) :
    s.regrid.conv = { s.conv with state := .running } := by
  obtain ⟨flag, change⟩ := changeSupply_of_riding dip riding rise
  obtain ⟨cond, told, onsets, reported⟩ :=
    report_of_goes (s := s.changeSupply .grid none) (g := SupplyState.grid.reports) (by rw [change]; exact judged)
      (reports_nodup _) (by decide)
  have moved : s.supplyMoved (State.changeSupply .grid none) =
      (s.changeSupply .grid none).report SupplyState.grid.reports := by
    rw [State.supplyMoved, changeSupply_supply, move_grid_state]
  rw [reported, change] at moved
  rw [State.regrid, moved, finishEvent_of_settled, closeEvent_of_settled]
  · rfl
  · exact settleClaims_of_staggered runs
  · rw [b.2]; exact ⟨rfl, rfl, rfl⟩
  · exact settleClaims_of_staggered runs
  · rw [b.2]; exact ⟨rfl, rfl, rfl⟩
  · rw [b.2]; rfl

end

/-! ### BACKUP_ONLINE (R61, R175) -/

section
variable {s : State}

/-- The filtered level of a line takes its raw level (R175). -/
def State.filtered (l : Line) (s : State) : State :=
  { s with inputs := { s.inputs with filters := s.inputs.filters.set l ⟨s.inputs.raw.get l, none⟩ } }

theorem filtered_level (l : Line) (s : State) : (s.filtered l).level l = s.inputs.raw.get l :=
  congrArg Filter.level (PerLine.get_set_self _ _ _)

theorem changes_filtered (l : Line) (s : State) : Changes [.inputs] s (s.filtered l) := changes_inputs s _

theorem exec_filterTimerExpiry {l : Line} (b : Between s) (runs : (s.inputs.filters.get l).left.isSome = true) :
    exec (.filterTimerExpiry l) s = .next (finishEvent s (s.filterExpired l)) :=
  expiry_of_running (running := fun s => (s.inputs.filters.get l).left.isSome) b.1 runs

theorem filterExpired_backup_live (live : s.meter.live = true) :
    s.filterExpired .backupOnline = (s.filtered .backupOnline).supplyMoved State.compareBackup := if_pos live

theorem filterExpired_backup_stale (stale : s.meter.live = false) :
    s.filterExpired .backupOnline = s.filtered .backupOnline := if_neg (by simp [stale])

theorem finishEvent_filterExpired_inputs (before : State) (l : Line) :
    (finishEvent before (s.filterExpired l)).inputs = (s.filtered l).inputs :=
  (changes_finishEvent before _ .inputs (by decide)).trans (changes_lineChanged _ _ _ .inputs (by decide))

theorem changes_finishEvent_filterExpired (b : Between s) (l : Line) :
    Changes [.inputs, .app, .supply, .conv, .cool, .align, .routes, .yaw, .cond, .out, .revs] s
      (finishEvent s (s.filterExpired l)) := by
  refine Changes.of_ev ?_ ((finishEvent_ev s _).trans b.2.symm)
  exact (changes_filterExpired s l).mono.trans (changes_finishEvent s _).mono

/-- BACKUP_ONLINE moves LOST to BACKUP and BACKUP to LOST (R61). -/
theorem filterExpired_backup_moves (b : Between s) (live : s.meter.live = true)
    (moves : s.supply.state = .lost ∧ s.inputs.raw.backupOnline = true ∨
      s.supply.state = .backup ∧ s.inputs.raw.backupOnline = false) :
    let t := finishEvent s (s.filterExpired .backupOnline)
    t.supply = { s.supply with state := if s.supply.state = .lost then .backup else .lost } ∧
      t.apportionable =
        s.setting (if s.supply.state = .lost then Setting.budgetBackup else Setting.budgetLost) -
          s.setting Setting.essentialReserve ∧
      (t.cond.recs[Cond.gridDip]).present = false ∧ (t.cond.recs[Cond.gridLost]).present = true := by
  intro t
  have line : (s.filtered .backupOnline).level .backupOnline = s.inputs.raw.backupOnline := filtered_level _ s
  have supply : (s.filtered .backupOnline).compareBackup.supply =
      { s.supply with state := if s.supply.state = .lost then .backup else .lost } := by
    rcases moves with ⟨state, raw⟩ | ⟨state, raw⟩
    · rw [compareBackup_supply (s := s.filtered .backupOnline) (.inl state), line, raw, state]; rfl
    · rw [compareBackup_supply (s := s.filtered .backupOnline) (.inr state), line, raw, state]; rfl
  have event : t = finishEvent s ((s.filtered .backupOnline).supplyMoved State.compareBackup) :=
    congrArg (finishEvent s) (filterExpired_backup_live live)
  have after : t.supply = _ := event ▸ (finishEvent_supplyMoved_supply s _).trans supply
  have store : t.store = s.store := changes_finishEvent_filterExpired b _ .store (by decide)
  obtain ⟨dip, lost⟩ := finishEvent_supplyMoved_reports (u := s.filtered .backupOnline) (quiet_of_between b)
    (calm_compareBackup _) s
  rw [← event, supply] at dip lost
  refine ⟨after, ?_, ?_, ?_⟩
  · rw [apportionable_of_supply store (congrArg Supply.state after)]
    split <;> rfl
  · rw [dip]; split <;> rfl
  · rw [lost]; split <;> rfl

/-- In GRID and DIP a change of BACKUP_ONLINE makes no transition (R61). -/
theorem filterExpired_backup_of_mains (mains : s.supply.state = .grid ∨ s.supply.state = .dip) :
    (finishEvent s (s.filterExpired .backupOnline)).supply = s.supply := by
  cases live : s.meter.live with
  | true =>
    rw [filterExpired_backup_live live, finishEvent_supplyMoved_supply,
      compareBackup_of_mains (s := s.filtered .backupOnline) mains]
    rfl
  | false =>
    rw [filterExpired_backup_stale live]
    exact changes_finishEvent s _ .supply (by decide)

/-- While the stream is STALE the level alone changes (R61). -/
theorem filterExpired_backup_of_stale (b : Between s) (stale : s.meter.live = false) :
    Changes [.inputs, .out, .revs] s (finishEvent s (s.filterExpired .backupOnline)) := by
  rw [filterExpired_backup_stale stale]
  have quiet : (s.filtered .backupOnline).ev.Quiet := quiet_of_between b
  refine Changes.of_ev ?_ ((finishEvent_ev s _).trans b.2.symm)
  exact ((changes_filtered _ s).mono.trans (changes_drive _).mono).trans (changes_finishEvent_quiet quiet).mono

end

/-- Settles O54: a hold's expiry is a change to GRID, and the backup line is compared where the stream is LIVE. -/
theorem holdsBringGridBack : Obligations.HoldsBringGridBack := by
  unfold Obligations.HoldsBringGridBack
  intro s b
  refine ⟨fun runs => ⟨fun live moves => ?_, fun stale => ?_, fun mains => ?_⟩, fun dip runs => ?_, fun cut runs => ?_⟩
  · obtain ⟨supply, budget, dip, lost⟩ := filterExpired_backup_moves b live moves
    exact ⟨_, exec_filterTimerExpiry b runs, supply,
      congrArg (·.filters.backupOnline) (finishEvent_filterExpired_inputs s _), budget, dip, lost,
      changes_finishEvent_filterExpired b _⟩
  · exact ⟨_, exec_filterTimerExpiry b runs, congrArg (·.filters.backupOnline) (finishEvent_filterExpired_inputs s _),
      filterExpired_backup_of_stale b stale⟩
  · exact ⟨_, exec_filterTimerExpiry b runs, filterExpired_backup_of_mains mains⟩
  · obtain ⟨dipGone, lostGone⟩ := regrid_reports b
    refine ⟨_, exec_recoveryHoldExpiry b runs, ?_, dipGone, lostGone,
      fun judged stagger rise riding => regrid_conv b judged stagger dip riding rise, changes_regrid b⟩
    rw [regrid_supply, move_grid_of_dip dip]
  · obtain ⟨dipGone, lostGone⟩ := regrid_reports b
    refine ⟨_, exec_reconnectionHoldExpiry b runs, ?_, dipGone, lostGone, changes_regrid b⟩
    rw [regrid_supply, move_grid_of_cut cut]

end Sys2Proof.Machine
end

section
/-!
What the shared operations keep of the converter's measured values and of the zones' thermal ceilings, and a zone that is
evaluated without a reading (R96, R100, R102 to R104).
-/
namespace Sys2Proof.Machine

section
variable {s t u : State}

/-! ### The measured values of the converter (R93, R94) -/

/-- What the Converter Sequencer measures or computes from accepted frames: Vdc, chopper energy and decay, overvoltage run,
Vmin for the ride-through term. -/
def Converter.measures (c : Converter) : Option Nat × Nat × Option Nat × Nat × Nat :=
  (c.vdc, c.energy, c.decayLeft, c.overvoltRun, c.rideVmin)

/-- From `s` to `t` the measured values stay. -/
def Measured (s t : State) : Prop := t.conv.measures = s.conv.measures

theorem Measured.eq (h : Measured s t) : t.conv.measures = s.conv.measures := h

theorem Measured.refl (s : State) : Measured s s := rfl

theorem Measured.trans (h : Measured s t) (k : Measured t u) : Measured s u := Eq.trans k h

theorem Measured.of_changes {ps : List Piece} (h : Changes ps s t) (apart : Piece.conv ∉ ps := by decide) :
    Measured s t := congrArg Converter.measures (h .conv apart)

theorem Measured.ite {a b : State} {c : Prop} [Decidable c] (ha : Measured s a) (hb : Measured s b) :
    Measured s (if c then a else b) := by
  split <;> assumption

theorem Measured.onlyIf {c : Prop} [Decidable c] (h : Measured s t) (k : Measured t u) :
    Measured s (if c then u else t) := .ite (h.trans k) h

theorem measured_tell (s : State) (told now : Consequences) : Measured s (s.tell told now) := by
  have trips (u : State) : Measured u u.tripConverter := .ite rfl (.refl u)
  have holds (u : State) : Measured u u.holdConverter := .ite rfl (.refl u)
  unfold State.tell
  refine Measured.onlyIf ?_ (.of_changes (changes_claimEvent _))
  refine Measured.onlyIf ?_ (.of_changes (changes_shedService _))
  refine Measured.onlyIf ?_ (.of_changes (changes_stopRunning _ _))
  refine Measured.onlyIf ?_ (holds _)
  exact Measured.onlyIf (.refl s) (trips _)

theorem measured_report (s : State) (g : Group) : Measured s (s.report g) :=
  (Measured.of_changes (changes_takeReports s g)).trans (measured_tell _ _ _)

theorem measured_tellConverter (before s : State) : Measured s (State.tellConverter before s) := by
  have proven (b : Bool) : Measured s { s with conv := { s.conv with flowProven := b } } := rfl
  exact .ite (proven _) (.ite (.ite ((proven false).trans (measured_report _ _)) (proven false)) (.refl s))

theorem measured_tellOwners (before s : State) : Measured s (State.tellOwners before s) :=
  ((Measured.of_changes (changes_tellCooling before s)).trans (measured_tellConverter before _)).trans
    (.of_changes (changes_tellYaw before _))

theorem measured_grantOpportunity (s : State) : Measured s s.grantOpportunity :=
  .ite ((Measured.of_changes (changes_apportionStarting s _)).trans (measured_tellOwners s _)) (.refl s)

theorem changes_askActuator_claims (s : State) (z : Zone) : Changes (.cool :: claimPieces) s (s.askActuator z) :=
  (changes_setZone s _ _).mono.trans (changes_engineRequest _ _ _).mono

theorem measured_driveActuators (s : State) (zs : List Zone) : Measured s (State.driveActuators zs s) :=
  ((Measured.of_changes (Changes.foldl changes_askActuator_claims zs s)).trans
    (.of_changes (changes_noteActuators _ zs))).trans (measured_tellOwners s _)

theorem measured_evaluateZones (s : State) (zs : List Zone) : Measured s (State.evaluateZones zs s) := by
  have zones : Changes [.cool] s (s.evaluatedAll zs) := Changes.foldl (fun t z => changes_setZone t z _) zs s
  refine Measured.trans ?_ (measured_driveActuators _ _)
  refine Measured.trans ?_ (measured_report _ _)
  exact (Measured.of_changes zones).trans (.of_changes (changes_noteZeroHolds s _ zs))

theorem measured_closeEvent (before s : State) : Measured s (closeEvent before s) := by
  have claims : Measured s s.settleClaims := .ite (measured_grantOpportunity s) (.refl s)
  have settled : Measured s s.settle :=
    (claims.trans (.of_changes (changes_settleActuators _))).trans (.ite rfl (.refl _))
  exact settled

theorem measured_finishEvent (before s : State) : Measured s (finishEvent before s) :=
  finishEvent_induct (P := Measured s) (measured_closeEvent before s)
    (fun u z h => ((h.trans (.of_changes (changes_setZone u z _))).trans (measured_evaluateZones _ _)).trans
      (measured_closeEvent u _))
    (fun u h => (h.trans (measured_grantOpportunity { u with app := u.app.idle })).trans (measured_closeEvent u _))

/-! ### The thermal ceilings (R103) -/

/-- From `s` to `t` every zone's thermal ceiling stays. -/
def CeilingsStay (s t : State) : Prop := ∀ z, (t.cool.zones.get z).ceiling = (s.cool.zones.get z).ceiling

theorem CeilingsStay.trans (h : CeilingsStay s t) (k : CeilingsStay t u) : CeilingsStay s u :=
  fun z => (k z).trans (h z)

theorem CeilingsStay.of_changes {ps : List Piece} (h : Changes ps s t) (apart : Piece.cool ∉ ps := by decide) :
    CeilingsStay s t := fun z => congrArg (fun c : Cooling => (c.zones.get z).ceiling) (h .cool apart)

theorem CeilingsStay.foldl {α : Type} {f : State → α → State} (hf : ∀ t x, CeilingsStay t (f t x)) (l : List α)
    (s : State) : CeilingsStay s (l.foldl f s) := by
  induction l generalizing s with
  | nil => exact fun _ => rfl
  | cons x l ih => exact (hf s x).trans (ih _)

theorem ceilingsStay_setZone (s : State) (z : Zone) {r : ZoneRec} (same : r.ceiling = (s.cool.zones.get z).ceiling) :
    CeilingsStay s (s.setZone z r) := by
  intro w
  rw [setZone_zones, PerZone.get_set]
  split
  · next own => rw [own, same]
  · rfl

theorem ceilingsStay_driveActuators (s : State) (zs : List Zone) : CeilingsStay s (State.driveActuators zs s) := by
  have asked (t : State) (z : Zone) : CeilingsStay t (t.askActuator z) :=
    (ceilingsStay_setZone t z (r := { t.cool.zones.get z with actuatorDemand := t.actuatorDemand z }) rfl).trans
      (.of_changes (changes_engineRequest _ _ _))
  have told : Changes judgePieces (zs.foldl State.askActuator s) (State.driveActuators zs s) :=
    (changes_noteActuators _ zs).mono.trans (changes_tellOwners s _)
  exact (CeilingsStay.foldl asked zs s).trans (.of_changes told)

theorem ceilingsStay_refreshActuator (s : State) (z : Zone) : CeilingsStay s (s.refreshActuator z) := by
  have set (e d : Nat) : CeilingsStay s (s.setZone z { s.cool.zones.get z with effective := e, duty := d }) :=
    ceilingsStay_setZone s z rfl
  unfold State.refreshActuator
  simp only
  split
  · exact set _ _
  · intro w
    rw [armFlow_zones]
    exact set _ _ w

theorem ceilingsStay_closeEvent (before s : State) : CeilingsStay s (closeEvent before s) := by
  have settled : CeilingsStay s s.settle :=
    ((CeilingsStay.of_changes (changes_settleClaims s)).trans
      (.foldl ceilingsStay_refreshActuator _ _)).trans (.of_changes (changes_setTripReason _))
  exact (settled.trans (.of_changes (changes_drive _))).trans (.of_changes (changes_revs _ _))

/-- After steps 1 to 4 of an evaluation the ceilings stay. -/
theorem ceilingsStay_evaluatedAll_rest (s : State) (zs : List Zone) :
    CeilingsStay (s.evaluatedAll zs) (State.evaluateZones zs s) := by
  refine CeilingsStay.trans (.of_changes (ps := judgePieces) ?_) (ceilingsStay_driveActuators _ _)
  exact (changes_noteZeroHolds s _ zs).mono.trans (changes_report _ _)

/-! ### A zone without a reading (R100) -/

/-- Zone `z` has no reading and is judged as stale: HOT, at DERATE_FLOOR, its computed level 15 (R102 to R104). -/
structure ReadsStale (z : Zone) (u : State) : Prop where
  temperature : u.temperature z = none
  thermal : (u.cool.zones.get z).thermal = .hot
  ceiling : (u.cool.zones.get z).ceiling = u.setting Setting.derateFloor
  computed : (u.cool.zones.get z).computed = some 15

theorem temperature_congr (meter : t.meter = s.meter) (z : Zone) : t.temperature z = s.temperature z := by
  rw [State.temperature, State.channelValue, meter]
  rfl

theorem ReadsStale.of_stays {z : Zone} {is : List (Fin 32)} (h : ReadsStale z s) (stays : Stays is [] s t)
    (meter : t.meter = s.meter) (ceilings : CeilingsStay s t) : ReadsStale z t where
  temperature := (temperature_congr meter z).trans h.temperature
  thermal := (stays.thermal z List.not_mem_nil).trans h.thermal
  ceiling := by rw [ceilings z, stays.setting]; exact h.ceiling
  computed := (stays.computed z List.not_mem_nil).trans h.computed

theorem ReadsStale.closeEvent {z : Zone} (h : ReadsStale z s) (before : State) : ReadsStale z (closeEvent before s) :=
  h.of_stays (stays_closeEvent before s) (changes_closeEvent before s .meter (by decide))
    (ceilingsStay_closeEvent before s)

/-- An evaluation without a reading, whatever its target level makes of the demand (R102 to R104, R106). -/
theorem readsStale_setZone_evaluated {z : Zone} (stale : s.temperature z = none) :
    ReadsStale z (s.setZone z (s.evaluated z)) := by
  have own : (s.setZone z (s.evaluated z)).cool.zones.get z = s.evaluated z := PerZone.get_set_self _ _ _
  have follow (n h : Nat) (r : ZoneRec) : (r.follow n h).thermal = r.thermal ∧ (r.follow n h).ceiling = r.ceiling ∧
      (r.follow n h).computed = r.computed := by
    unfold ZoneRec.follow
    split
    · exact ⟨rfl, rfl, rfl⟩
    · split <;> exact ⟨rfl, rfl, rfl⟩
  obtain ⟨thermal, ceiling, computed⟩ : (s.evaluated z).thermal = .hot ∧
      (s.evaluated z).ceiling = s.setting Setting.derateFloor ∧ (s.evaluated z).computed = some 15 := by
    unfold State.evaluated
    obtain ⟨thermal, ceiling, computed⟩ := follow _ _ _
    rw [thermal, ceiling, computed, stale]
    exact ⟨rfl, rfl, rfl⟩
  exact ⟨stale, (congrArg ZoneRec.thermal own).trans thermal, (congrArg ZoneRec.ceiling own).trans ceiling,
    (congrArg ZoneRec.computed own).trans computed⟩

/-- Steps 1 to 4 leave a zone without a reading judged as stale, if it is among the zones evaluated or was so judged
before. -/
theorem readsStale_evaluatedAll {z : Zone} {zs : List Zone} (stale : s.temperature z = none)
    (named : z ∈ zs ∨ ReadsStale z s) : ReadsStale z (s.evaluatedAll zs) := by
  unfold State.evaluatedAll
  induction zs generalizing s with
  | nil => exact named.resolve_left List.not_mem_nil
  | cons w zs ih =>
    refine ih (s := s.setZone w (s.evaluated w)) stale ?_
    by_cases own : z = w
    · subst own
      exact .inr (readsStale_setZone_evaluated stale)
    · refine named.imp (fun mem => (List.mem_cons.mp mem).resolve_left own) fun h => ?_
      have other : (s.setZone w (s.evaluated w)).cool.zones.get z = s.cool.zones.get z :=
        PerZone.get_set_other _ _ own
      exact ⟨stale, other ▸ h.thermal, other ▸ h.ceiling, other ▸ h.computed⟩

theorem readsStale_evaluateZones {z : Zone} {zs : List Zone} (stale : s.temperature z = none)
    (named : z ∈ zs ∨ ReadsStale z s) : ReadsStale z (State.evaluateZones zs s) :=
  have noted : ReadsStale z (State.noteZeroHolds s zs (s.evaluatedAll zs)) := by
    obtain ⟨temperature, thermal, ceiling, computed⟩ := readsStale_evaluatedAll stale named
    exact ⟨temperature, thermal, ceiling, computed⟩
  have meter : (State.evaluateZones zs s).meter = s.meter := changes_evaluateZones s zs .meter (by decide)
  noted.of_stays (keeps_evaluatedAll_rest s zs).toStays
    (meter.trans (Changes.foldl (f := fun t z => t.setZone z (t.evaluated z)) (fun t z => changes_setZone t z _) zs s
      .meter (by decide)).symm)
    (ceilingsStay_evaluatedAll_rest s zs)

/-- The expiries that follow at once evaluate a zone without a reading as stale again. -/
theorem ReadsStale.finishEvent {z : Zone} (h : ReadsStale z s) (before : State) : ReadsStale z (finishEvent before s) := by
  refine finishEvent_induct (P := ReadsStale z) (h.closeEvent before) (fun u w p => ?_) (fun u p => ?_)
  · let due : ZoneRec := { u.cool.zones.get w with demand := (u.cool.zones.get w).target, hold := none }
    have expired : ReadsStale z (u.setZone w due) :=
      p.of_stays (is := []) (keeps_setZone u w due rfl rfl rfl).toStays rfl (ceilingsStay_setZone u w rfl)
    exact ReadsStale.closeEvent (s := u.holdExpired w) (readsStale_evaluateZones expired.temperature (.inr expired)) u
  · exact (p.of_stays (stays_staggerExpired u) (changes_staggerExpired u .meter (by decide))
      (.of_changes (changes_staggerExpired u))).closeEvent u

end

end Sys2Proof.Machine
end

section
/-!
The stream goes STALE (R64, R172), and a slow channel's reading lapses (R100, R173).
-/
namespace Sys2Proof.Machine

section
variable {s : State}

/-! ### The stream -/

theorem exec_staleTimerExpiry (b : Between s) (runs : s.meter.staleLeft.isSome = true) :
    exec .staleTimerExpiry s = .next (finishEvent s s.streamStale) :=
  expiry_of_running (running := fun s => s.meter.staleLeft.isSome) b.1 runs

/-- The stream STALE and reported so, before the blocks act on it. -/
def State.silenced (s : State) : State := { s with meter := Meter.silent }.report [(Cond.meterStale, .arrives)]

theorem changes_silenced (s : State) : Changes (.meter :: judgePieces) s s.silenced :=
  (changes_meter s _).mono.trans (changes_report _ _).mono

theorem silenced_reported (s : State) : (s.silenced.cond.recs[Cond.meterStale]).present = true :=
  report_present (s := { s with meter := Meter.silent }) (g := [(Cond.meterStale, .arrives)]) (i := Cond.meterStale)
    (b := true) (by decide) List.mem_cons_self rfl (by decide)

theorem silenced_measures (s : State) : s.silenced.conv.measures = s.conv.measures :=
  measured_report { s with meter := Meter.silent } _

/-- What the Supply Monitor and the Converter Sequencer drop then. -/
def State.dropped (s : State) : State := s.silenced.supplyStale.converterStale

theorem streamStale_eq (s : State) :
    s.streamStale = State.windows Window.mark (State.evaluateZones allZones s.dropped) := rfl

theorem changes_dropped (s : State) : Changes [.supply, .conv] s.silenced s.dropped :=
  (changes_supply s.silenced _).mono.trans (changes_conv s.silenced.supplyStale _).mono

theorem dropped_meter (s : State) : s.dropped.meter = Meter.silent :=
  (changes_dropped s .meter (by decide)).trans
    (changes_report { s with meter := Meter.silent } _ .meter (by decide))

theorem dropped_temperature (s : State) (z : Zone) : s.dropped.temperature z = none := by
  rw [State.temperature, State.channelValue, dropped_meter]
  simp [Meter.silent, Channel.empty]

theorem dropped_supply (s : State) :
    s.dropped.supply = { s.supply with recovery := none, reconnect := none } := by
  have same : s.silenced.supply = s.supply := changes_silenced s .supply (by decide)
  rw [State.dropped, State.converterStale, State.supplyStale, same]

theorem dropped_measures (s : State) :
    s.dropped.conv.measures =
      { s.conv with
        vdc := none, overvoltRun := if s.conv.overvoltRun = 1 then 0 else s.conv.overvoltRun }.measures := by
  have report := silenced_measures s
  simp only [Converter.measures, Prod.mk.injEq] at report
  obtain ⟨-, energy, decay, run, vmin⟩ := report
  simp only [State.dropped, Converter.measures, State.converterStale, State.supplyStale, energy, decay, run, vmin]

theorem changes_streamStale_dropped (s : State) : Changes (.align :: ownerPieces) s.dropped s.streamStale := by
  rw [streamStale_eq]
  exact (changes_evaluateZones _ _).mono.trans (changes_windows _ _).mono

theorem streamStale_measures (s : State) : Measured s.dropped s.streamStale := by
  rw [streamStale_eq]
  exact (measured_evaluateZones s.dropped allZones).trans (.of_changes (changes_windows _ _))

theorem streamStale_reads (s : State) (z : Zone) : ReadsStale z s.streamStale := by
  have all : z ∈ allZones := by cases z <;> decide
  have marked (u : State) : Changes [.align] u (State.windows Window.mark u) := changes_windows u _
  rw [streamStale_eq]
  exact (readsStale_evaluateZones (dropped_temperature s z) (.inl all)).of_stays (is := [])
    (Keeps.of_changes (marked _).mono).toStays (marked _ .meter (by decide)) (.of_changes (marked _))

theorem streamStale_reported (s : State) : (s.streamStale.cond.recs[Cond.meterStale]).present = true := by
  have marked : s.streamStale.cond = (State.evaluateZones allZones s.dropped).cond := by
    rw [streamStale_eq]
    exact changes_windows _ _ .cond (by decide)
  have evaluated := (keeps_evaluateZones s.dropped allZones).recs Cond.meterStale (by decide)
  have dropped : s.dropped.cond = s.silenced.cond := changes_dropped s .cond (by decide)
  rw [marked, evaluated, dropped]
  exact silenced_reported s

/-! ### A slow channel -/

theorem exec_slowChannelAgeExpiry {c : Fin 8} (b : Between s) (runs : (s.meter.channels[c]).ageLeft.isSome = true) :
    exec (.slowChannelAgeExpiry c) s = .next (finishEvent s (s.channelStale c)) :=
  expiry_of_running (running := fun s => (s.meter.channels[c]).ageLeft.isSome) b.1 runs

/-- The channel without a value. -/
def State.lapsed (c : Fin 8) (s : State) : State :=
  { s with meter := { s.meter with channels := s.meter.channels.set c ⟨none, none⟩ } }

theorem channelStale_zone {c : Fin 8} {z : Zone} (carries : channelZone c = some z) :
    s.channelStale c = State.evaluateZones [z] (s.lapsed c) := by
  simp only [State.channelStale, carries]
  rfl

theorem channelStale_other {c : Fin 8} (carries : channelZone c = none) :
    s.channelStale c = if c.val = 7 then State.windows Window.mark (s.lapsed c) else s.lapsed c := by
  simp only [State.channelStale, carries]
  rfl

theorem channelZone_eq {c : Fin 8} {z : Zone} : channelZone c = some z → zoneChannel z = c := by
  revert c z
  decide

theorem channelStale_meter (c : Fin 8) (s : State) : (s.channelStale c).meter = (s.lapsed c).meter := by
  cases carries : channelZone c with
  | some z =>
    rw [channelStale_zone carries]
    exact changes_evaluateZones _ _ .meter (by decide)
  | none =>
    rw [channelStale_other carries]
    split <;> rfl

theorem channelStale_reads {c : Fin 8} {z : Zone} (carries : channelZone c = some z) :
    ReadsStale z (s.channelStale c) := by
  have stale : (s.lapsed c).temperature z = none := by
    rw [State.temperature, State.channelValue, channelZone_eq carries]
    simp [State.lapsed]
  rw [channelStale_zone carries]
  exact readsStale_evaluateZones stale (.inl List.mem_cons_self)

theorem channelStale_ev {c : Fin 8} (carries : channelZone c = none) : (s.channelStale c).ev = s.ev := by
  rw [channelStale_other carries]
  split <;> rfl

theorem changes_channelStale_other {c : Fin 8} (carries : channelZone c = none) :
    Changes [.meter, .align] s (s.channelStale c) := by
  have lapse : Changes [.meter, .align] s (s.lapsed c) := (changes_meter s _).mono
  rw [channelStale_other carries]
  exact .ite (lapse.trans (changes_windows _ _).mono) lapse

end

/-- Settles O52: what the expiry makes of each block stands at the end of its event, since the expiries that follow at once
evaluate a zone without a reading as stale again. -/
theorem goesStale : Obligations.GoesStale := by
  unfold Obligations.GoesStale
  intro s z c
  refine ⟨fun b runs => ?_, fun b runs => ?_⟩
  · have measures : (finishEvent s s.streamStale).conv.measures = _ :=
      ((streamStale_measures s).trans (measured_finishEvent s s.streamStale)).eq.trans (dropped_measures s)
    simp only [Converter.measures, Prod.mk.injEq] at measures
    obtain ⟨vdc, -, -, run, -⟩ := measures
    have ends := changes_finishEvent s s.streamStale
    obtain ⟨temperature, thermal, ceiling, computed⟩ := (streamStale_reads s z).finishEvent s
    have noted := settle_zeroHolds (calm_streamStale s) (congrArg Scratch.zeroHolds b.2)
    have frame : Changes (.ev :: .meter :: .out :: .revs :: plantPieces) s (finishEvent s s.streamStale) :=
      (changes_streamStale s).mono.trans ends.mono
    have stale : Changes (.out :: .revs :: .align :: ownerPieces) s.dropped (finishEvent s s.streamStale) :=
      (changes_streamStale_dropped s).mono.trans ends.mono
    have store : (finishEvent s s.streamStale).store = s.store := frame .store (by decide)
    refine ⟨_, exec_staleTimerExpiry b runs, (stale .meter (by decide)).trans (dropped_meter s),
      (stale .supply (by decide)).trans (dropped_supply s), vdc, run, temperature, thermal, ?_, computed, ?_,
      Changes.of_ev frame.mono ((finishEvent_ev s _).trans b.2.symm), linesDriven_finishEvent s _⟩
    · rw [ceiling, State.setting, store]
      rfl
    · rw [(stays_finishEvent (before := s) noted).recs Cond.meterStale (by decide)]
      exact streamStale_reported s
  · have ends := changes_finishEvent s (s.channelStale c)
    have ev := (finishEvent_ev s (s.channelStale c)).trans b.2.symm
    have frame : Changes (.ev :: .meter :: .out :: .revs :: ownerPieces) s (finishEvent s (s.channelStale c)) :=
      (changes_channelStale s c).mono.trans ends.mono
    refine ⟨_, exec_slowChannelAgeExpiry b runs, (ends .meter (by decide)).trans (channelStale_meter c s),
      fun carries => ?_, fun motion => ?_, fun carries => ?_, Changes.of_ev frame.mono ev⟩
    · obtain ⟨-, thermal, ceiling, computed⟩ := (channelStale_reads carries).finishEvent s
      have store : (finishEvent s (s.channelStale c)).store = s.store := frame .store (by decide)
      refine ⟨thermal, computed, ?_⟩
      rw [ceiling, State.setting, store]
      rfl
    · have carries : channelZone c = none := by
        obtain rfl : c = 7 := Fin.ext motion
        rfl
      have quiet : (s.channelStale c).ev.Quiet := by
        rw [channelStale_ev carries]
        exact quiet_of_between b
      refine (changes_finishEvent_quiet quiet .align (by decide)).trans ?_
      change (s.channelStale c).align = _
      rw [channelStale_other carries, if_pos motion]
      rfl
    · have quiet : (s.channelStale c).ev.Quiet := by
        rw [channelStale_ev carries]
        exact quiet_of_between b
      refine Changes.of_ev ?_ ev
      exact ((changes_channelStale_other carries).mono.trans (changes_drive _).mono).trans
        (changes_finishEvent_quiet quiet).mono

end Sys2Proof.Machine
end

section
/-!
A meter frame at the Supply Monitor: its record after the frame (R55 to R61) and its reports (R68 to R71).
-/
namespace Sys2Proof.Machine

section
variable {s u : State}

/-! ### The record after a frame (R56 to R60) -/

theorem judgeSupply_of_grid (grid : s.supply.state = .grid) (n : Nat) :
    (s.judgeSupply n).supply =
      { (s.countBelow n).supply with state := if n < s.setting (Setting.envelopeLevel 0) then .dip else .grid } := by
  have counted : (s.countBelow n).supply.state = .grid := grid
  unfold State.judgeSupply
  rw [grid]
  dsimp only
  split
  · rw [changeSupply_supply, Supply.move.eq_def, counted]
  · exact state_same counted

/-- The lowest point exceeded is the first found. -/
theorem firstExceeded_of_lowest {k : Fin 6} (own : s.exceeded k = true)
    (lower : ∀ j : Fin 6, j < k → s.exceeded j = false) :
    s.firstExceeded = some k := by
  have place : ∀ (j : Fin 6) (h : j.val < allRoutes.length), allRoutes[j.val] = j := by decide
  have inside : k.val < allRoutes.length := k.isLt
  refine List.find?_eq_some_iff_getElem.mpr ⟨own, k.val, inside, place k inside, fun j less => ?_⟩
  rw [place ⟨j, less.trans k.isLt⟩ (less.trans inside), lower ⟨j, less.trans k.isLt⟩ less]
  rfl

theorem firstExceeded_of_none (none : ∀ j : Fin 6, s.exceeded j = false) : s.firstExceeded = .none :=
  List.find?_eq_none.mpr fun j _ => by simp [none j]

theorem judgeSupply_of_loss (dip : s.supply.state = .dip) {n : Nat} {k : Fin 6}
    (loss : (s.countBelow n).firstExceeded = some k) :
    (s.judgeSupply n).supply =
      { s.supply with
        state := .lost, recovery := none, below := Vector.replicate 6 0, lossPoint := some (k.val + 1) } := by
  have counted : (s.countBelow n).supply.state = .dip := dip
  unfold State.judgeSupply
  rw [dip]
  dsimp only
  rw [loss]
  dsimp only
  rw [changeSupply_supply, Supply.move.eq_def, counted]
  rfl

theorem judgeSupply_of_dip (dip : s.supply.state = .dip) {n : Nat} (none : (s.countBelow n).firstExceeded = none) :
    (s.judgeSupply n).supply =
      { (s.countBelow n).supply with
        recovery :=
          if s.setting Setting.dipRecoveryLevel ≤ n then
            some (s.supply.recovery.getD (s.setting Setting.recoveryHold)) else .none } := by
  unfold State.judgeSupply
  rw [dip]
  dsimp only
  rw [none]
  rfl

theorem judgeSupply_of_cut (cut : s.supply.state = .lost ∨ s.supply.state = .backup) (n : Nat) :
    (s.judgeSupply n).supply =
      { s.supply with
        state := if s.level .backupOnline = true then .backup else .lost
        reconnect :=
          if s.setting Setting.dipRecoveryLevel ≤ n then
            some (s.supply.reconnect.getD (1000 * s.setting Setting.reconnectHold)) else none } := by
  have store : s.compareBackup.store = s.store := changes_compareBackup s .store (by decide)
  have compared : s.judgeSupply n = s.compareBackup.judgeReconnect n := by
    unfold State.judgeSupply
    rcases cut with state | state <;> rw [state]
  rw [compared, State.judgeReconnect, compareBackup_supply cut]
  simp only [State.setting, store]
  rfl

theorem keeps_changeSupply (s : State) (new : SupplyState) (loss : Option Nat) :
    Keeps ownerRecs [] s (s.changeSupply new loss) := by
  have hand (u : State) (a b : SupplyState) : Keeps ownerRecs [] u (u.handSupply a b) := by
    unfold State.handSupply
    split
    · exact keeps_conv u _
    · exact keeps_conv u _
    · exact (keeps_enterTripped u).mono
    · exact Keeps.refl _ _ u
  exact ((Keeps.of_changes (changes_supply s _).mono).trans (keeps_rebudget _ _)).trans (hand _ _ _)

theorem keeps_judgeSupply (s : State) (n : Nat) : Keeps ownerRecs [] s (s.judgeSupply n) := by
  have supply (u : State) (w : Supply) : Keeps ownerRecs [] u { u with supply := w } :=
    .of_changes (changes_supply u w).mono
  have compare (u : State) : Keeps ownerRecs [] u u.compareBackup := by
    unfold State.compareBackup
    split
    · exact keeps_changeSupply u _ _
    · exact keeps_changeSupply u _ _
    · exact Keeps.refl _ _ u
  unfold State.judgeSupply
  split
  · exact Keeps.onlyIf (supply s _) (keeps_changeSupply _ _ _)
  · dsimp only
    split
    · exact (supply s _).trans (keeps_changeSupply _ _ _)
    · exact (supply s _).trans (supply _ _)
  · exact (compare s).trans (supply _ _)
  · exact (compare s).trans (supply _ _)

/-! ### The reports (R68 to R71) -/

/-- The group that the Supply Monitor reports at a frame. -/
def State.supplyReports (f : Fast) (s : State) : Group :=
  let t := s.judgeSupply f.vmin
  t.supply.state.reports ++ envelopeReport s.supply.state t.supply.state s.conv.state ++
    [(Cond.freqOutOfBand, t.freqReport f)]

theorem supplyFrame_eq (f : Fast) (s : State) :
    s.supplyFrame f = (s.judgeSupply f.vmin).report (s.supplyReports f) := rfl

theorem envelopeReport_names (before after : SupplyState) (conv : ConverterState) :
    (envelopeReport before after conv).map Prod.fst = [Cond.envelopeTrip] ∨
      (envelopeReport before after conv).map Prod.fst = [] := by
  unfold envelopeReport
  split
  · exact .inl rfl
  · exact .inr rfl

theorem supplyReports_nodup (f : Fast) (s : State) : ((s.supplyReports f).map Prod.fst).Nodup := by
  have names (state : SupplyState) : state.reports.map Prod.fst = [Cond.gridDip, Cond.gridLost] := rfl
  simp only [State.supplyReports, List.map_append, names, List.map_cons, List.map_nil]
  rcases envelopeReport_names s.supply.state (s.judgeSupply f.vmin).supply.state s.conv.state with e | e <;>
    rw [e] <;> decide

theorem gridDip_mem (f : Fast) (s : State) :
    (Cond.gridDip, causeIs ((s.judgeSupply f.vmin).supply.state == .dip)) ∈ s.supplyReports f :=
  List.mem_append_left _ (List.mem_append_left _ List.mem_cons_self)

theorem gridLost_mem (f : Fast) (s : State) :
    (Cond.gridLost, causeIs ((s.judgeSupply f.vmin).supply.state == .lost ||
      (s.judgeSupply f.vmin).supply.state == .backup)) ∈ s.supplyReports f :=
  List.mem_append_left _ (List.mem_append_left _ (List.mem_cons_of_mem _ List.mem_cons_self))

theorem freqOutOfBand_mem (f : Fast) (s : State) :
    (Cond.freqOutOfBand, causeIs (((s.judgeSupply f.vmin).supply.state == .grid ||
      (s.judgeSupply f.vmin).supply.state == .dip) && (s.judgeSupply f.vmin).outOfBand f)) ∈ s.supplyReports f :=
  List.mem_append_right _ List.mem_cons_self

theorem supplyFrame_present {f : Fast} {i : Fin 32} {b : Bool} (mem : (i, causeIs b) ∈ s.supplyReports f)
    (level : catalogue[i].kind = .level) (shed : i ≠ Cond.claimShed) :
    ((s.supplyFrame f).cond.recs[i]).present = b := report_present (supplyReports_nodup f s) mem level shed

/-- ENVELOPE_TRIP occurs at a loss that found the converter RUNNING or RIDING, and at no other frame (R70). -/
theorem supplyFrame_envelopeTrip (f : Fast) (s : State) :
    (s.supplyFrame f).cond.recs[Cond.envelopeTrip] =
      if s.supply.state = .dip ∧ (s.judgeSupply f.vmin).supply.state = .lost ∧ s.conv.state.delivering = true then
        ((s.cond.recs[Cond.envelopeTrip]).occur s.onsetArgs).1 else s.cond.recs[Cond.envelopeTrip] := by
  have judged := keeps_judgeSupply s f.vmin
  have same : (s.judgeSupply f.vmin).cond.recs[Cond.envelopeTrip] = s.cond.recs[Cond.envelopeTrip] :=
    judged.recs Cond.envelopeTrip (by decide)
  have args : (s.judgeSupply f.vmin).onsetArgs = s.onsetArgs := by
    simp only [State.onsetArgs, State.setting, judged.store]
  rw [supplyFrame_eq]
  split
  · next loss =>
    have mem : (Cond.envelopeTrip, Report.occurs) ∈ s.supplyReports f := by
      simp [State.supplyReports, envelopeReport, loss]
    rw [report_recs (supplyReports_nodup f s) mem (by decide), same, args]
    rfl
  · next other =>
    have names : Cond.envelopeTrip ∉ (s.supplyReports f).map Prod.fst := by
      simp [State.supplyReports, envelopeReport, other, SupplyState.reports]
      decide
    rw [report_recs_other names (by decide), same]

/-! ### The rest of the frame -/

/-- The records at which the other blocks report within a frame and at its end. -/
abbrev frameRecs : List (Fin 32) :=
  Cond.dcOvervolt :: Cond.chopperExhausted :: Cond.motionHigh :: (zoneRecs allZones ++ ownerRecs)

theorem keeps_converterFrame (s : State) (f : Fast) : Keeps frameRecs allZones s (s.converterFrame f) := by
  have conv (u : State) (c : Converter) : Keeps frameRecs allZones u { u with conv := c } := keeps_conv u c
  have sequence (u : State) (n : Nat) : Keeps frameRecs allZones u (u.sequenceFrame n) := by
    unfold State.sequenceFrame
    split
    · exact Keeps.ite (conv u _) (Keeps.refl _ _ u)
    · exact Keeps.ite ((conv u _).trans (keeps_evaluateZones _ _).mono) (Keeps.refl _ _ u)
    · exact Keeps.refl _ _ u
  have names (run : Nat) (b : Bool) :
      (overvoltReport run ++ [(Cond.chopperExhausted, causeIs b)]).map Prod.fst ++ claimRecs ⊆ frameRecs := by
    unfold overvoltReport
    split
    · simp
    · split <;> simp
  exact ((conv s _).trans (sequence _ _)).trans ((keeps_report _ _).mono (names _ _) (List.nil_subset _))

theorem keeps_slowValue (s : State) (c : Fin 8) (v : Int) : Keeps frameRecs allZones s (s.slowValue c v) := by
  have align (u : State) (a : Alignment) : Keeps frameRecs allZones u { u with align := a } := keeps_align u a
  unfold State.slowValue
  split
  · next z _ =>
    have aged : Keeps frameRecs allZones s (s.setZone z { s.cool.zones.get z with age := some 0 }) :=
      keeps_setZone s z _ rfl rfl rfl
    refine aged.trans ((keeps_evaluateZones _ [z]).mono ?_ ?_)
    · cases z <;> decide
    · cases z <;> decide
  · have high (u : State) (rep : Report) : Keeps frameRecs allZones u (u.report [(Cond.motionHigh, rep)]) :=
      (keeps_report u [(Cond.motionHigh, rep)]).mono (by simp)
    refine Keeps.ite (Keeps.ite (align s _) (Keeps.refl _ _ s)) (Keeps.ite ?_ (Keeps.refl _ _ s))
    exact (Keeps.ite ((align s _).trans (align _ _)) (align s _)).trans (high _ _)

/-! ### The whole event -/

/-- The stream LIVE with the frame's values, before the Supply Monitor judges it. -/
def State.received (bytes : List Byte) (s : State) : State :=
  let t := { s with meter := s.meter.take bytes }
  if s.meter.live then t else t.report [(Cond.meterStale, .goes)]

theorem acceptFrame_eq (bytes : List Byte) (s : State) :
    s.acceptFrame bytes =
      (((s.received bytes).supplyFrame (frameFast bytes)).converterFrame (frameFast bytes)).slowValue
        (frameChannel bytes) (frameSlow bytes) := rfl

theorem changes_received (bytes : List Byte) (s : State) : Changes (.meter :: judgePieces) s (s.received bytes) :=
  .ite (changes_meter s _).mono ((changes_meter s _).mono.trans (changes_report _ _).mono)

/-- That METER_STALE goes tells the converter nothing (R165). -/
theorem received_conv (judged : Judged s) (bytes : List Byte) : (s.received bytes).conv = s.conv := by
  obtain ⟨cond, flag, onsets, gone⟩ :=
    report_of_goes (s := { s with meter := s.meter.take bytes }) (g := [(Cond.meterStale, .goes)]) judged
      (by decide) (by decide)
  unfold State.received
  dsimp only
  split
  · rfl
  · rw [gone]

theorem received_recs {i : Fin 32} (stale : i ≠ Cond.meterStale) (shed : i ≠ Cond.claimShed) (bytes : List Byte) :
    (s.received bytes).cond.recs[i] = s.cond.recs[i] := by
  unfold State.received
  dsimp only
  split
  · rfl
  · exact report_recs_other (by simpa using stale) shed

theorem exec_meterFrame {bytes : List Byte} (b : Between s) (accepts : s.meter.accepts bytes = true) :
    exec (.meterFrame bytes) s = .next (finishEvent s (s.acceptFrame bytes)) := by
  simp [exec, execMeterFrame, State.held, b.1, accepts]

theorem changes_acceptFrame_supplied (bytes : List Byte) (s : State) :
    Changes ownerPieces ((s.received bytes).supplyFrame (frameFast bytes)) (s.acceptFrame bytes) := by
  rw [acceptFrame_eq]
  exact (changes_converterFrame _ _).trans (changes_slowValue _ _ _)

/-- The end of a frame's event leaves the supply record as the Supply Monitor has judged it. -/
theorem finishEvent_acceptFrame_supply (before : State) (bytes : List Byte) (s : State) :
    (finishEvent before (s.acceptFrame bytes)).supply =
      ((s.received bytes).judgeSupply (frameFast bytes).vmin).supply := by
  have reported : ((s.received bytes).supplyFrame (frameFast bytes)).supply = _ :=
    changes_report _ _ .supply (by decide)
  exact ((changes_finishEvent before _ .supply (by decide)).trans
    (changes_acceptFrame_supplied bytes s .supply (by decide))).trans reported

theorem finishEvent_acceptFrame_store (before : State) (bytes : List Byte) (s : State) :
    (finishEvent before (s.acceptFrame bytes)).store = s.store :=
  (changes_finishEvent before _ .store (by decide)).trans (calm_acceptFrame s bytes).store

/-- No other block reports at the records of the Supply Monitor. -/
theorem finishEvent_acceptFrame_recs {i : Fin 32} (out : i ∉ frameRecs) (noHolds : s.ev.zeroHolds = [])
    (before : State) (bytes : List Byte) :
    (finishEvent before (s.acceptFrame bytes)).cond.recs[i] =
      ((s.received bytes).supplyFrame (frameFast bytes)).cond.recs[i] := by
  have rest : Keeps frameRecs allZones ((s.received bytes).supplyFrame (frameFast bytes)) (s.acceptFrame bytes) := by
    rw [acceptFrame_eq]
    exact (keeps_converterFrame _ _).trans (keeps_slowValue _ _ _)
  have ends := stays_finishEvent (before := before) (settle_zeroHolds (calm_acceptFrame s bytes) noHolds)
  have below : zoneRecs allZones ++ ownerRecs ⊆ frameRecs := by decide
  exact (ends.recs i fun mem => out (below mem)).trans (rest.recs i out)

/-! ### What the frame meets -/

theorem received_supply (bytes : List Byte) (s : State) : (s.received bytes).supply = s.supply :=
  changes_received bytes s .supply (by decide)

theorem received_store (bytes : List Byte) (s : State) : (s.received bytes).store = s.store :=
  changes_received bytes s .store (by decide)

theorem received_setting (bytes : List Byte) (s : State) (k : Fin 86) : (s.received bytes).setting k = s.setting k := by
  rw [State.setting, State.setting, received_store]

theorem received_level (bytes : List Byte) (s : State) (l : Line) : (s.received bytes).level l = s.level l := by
  have inputs : (s.received bytes).inputs = s.inputs := changes_received bytes s .inputs (by decide)
  rw [State.level, State.level, inputs]

theorem received_countBelow (bytes : List Byte) (s : State) (n : Nat) :
    ((s.received bytes).countBelow n).supply = (s.countBelow n).supply := by
  have after : (s.received bytes).belowAfter n = s.belowAfter n := by
    funext k
    rw [State.belowAfter, State.belowAfter, State.pointInUse, State.pointInUse, received_setting, received_setting,
      received_supply]
  rw [State.countBelow, State.countBelow, after, received_supply]

theorem received_exceeded (bytes : List Byte) (s : State) (n : Nat) (k : Fin 6) :
    ((s.received bytes).countBelow n).exceeded k = (s.countBelow n).exceeded k := by
  have setting (j : Fin 86) : ((s.received bytes).countBelow n).setting j = (s.countBelow n).setting j :=
    received_setting bytes s j
  rw [State.exceeded, State.exceeded, State.pointInUse, State.pointInUse, received_countBelow, setting, setting]

theorem countBelow_below (s : State) (n : Nat) (k : Fin 6) : (s.countBelow n).supply.below[k] = s.belowAfter n k := by
  simp [State.countBelow]

/-- A report of the Supply Monitor at a frame stands at the end of the event. -/
theorem finishEvent_acceptFrame_present {bytes : List Byte} (q : s.ev.Quiet) {i : Fin 32} {b : Bool}
    (mem : (i, causeIs b) ∈ (s.received bytes).supplyReports (frameFast bytes)) (level : catalogue[i].kind = .level)
    (out : i ∉ frameRecs) (before : State) :
    ((finishEvent before (s.acceptFrame bytes)).cond.recs[i]).present = b := by
  obtain ⟨-, -, -, noHolds, -⟩ := q
  have shed : i ≠ Cond.claimShed := fun e => out (by rw [e]; decide)
  rw [finishEvent_acceptFrame_recs out noHolds]
  exact supplyFrame_present mem level shed

end

/-- Settles O51: the end of the event leaves the supply record as it was judged, state by state, and no other block reports
at the records of the Supply Monitor. -/
theorem supplyJudgesFrame : Obligations.SupplyJudgesFrame := by
  unfold Obligations.SupplyJudgesFrame
  rintro s bytes _ k b accepts rfl
  have run := exec_meterFrame b accepts
  have supply := finishEvent_acceptFrame_supply s bytes s
  have store := finishEvent_acceptFrame_store s bytes s
  refine ⟨fun grid => ⟨_, run, ?_, ?_⟩, fun dip => ⟨fun own lower => ⟨_, run, ?_⟩, fun none => ⟨_, run, ?_⟩⟩,
    fun cut => ⟨_, run, ?_, ?_⟩, ⟨_, run, ?_, ?_, ?_, fun judged => ?_⟩⟩
  · rw [supply, judgeSupply_of_grid (by rw [received_supply]; exact grid), received_setting]
  · rw [supply, judgeSupply_of_grid (by rw [received_supply]; exact grid)]
    change ((s.received bytes).countBelow _).supply.below[k] = _
    rw [received_countBelow, countBelow_below, State.belowAfter, State.pointInUse]
    simp only [Bool.and_eq_true, decide_eq_true_eq]
  · have loss := firstExceeded_of_lowest ((received_exceeded bytes s _ k).trans own)
      fun j less => (received_exceeded bytes s _ j).trans (lower j less)
    rw [supply, judgeSupply_of_loss (by rw [received_supply]; exact dip) loss, received_supply]
  · have stays := firstExceeded_of_none fun j => (received_exceeded bytes s _ j).trans (none j)
    rw [supply, judgeSupply_of_dip (by rw [received_supply]; exact dip) stays, received_countBelow, received_setting,
      received_setting, received_supply]
  · rw [supply, judgeSupply_of_cut (by rw [received_supply]; exact cut), received_level, received_setting,
      received_setting, received_supply]
  · have state : (finishEvent s (s.acceptFrame bytes)).supply.state =
        if s.level .backupOnline = true then .backup else .lost := by
      rw [supply, judgeSupply_of_cut (by rw [received_supply]; exact cut), received_level]
    rw [apportionable_of_supply store state]
    split <;> rfl
  · rw [finishEvent_acceptFrame_present (quiet_of_between b) (gridDip_mem _ _) rfl (by decide), supply, beq_iff_eq]
  · rw [finishEvent_acceptFrame_present (quiet_of_between b) (gridLost_mem _ _) rfl (by decide), supply, Bool.or_eq_true,
      beq_iff_eq, beq_iff_eq]
  · have setting (j : Fin 86) : ((s.received bytes).judgeSupply (frameFast bytes).vmin).setting j = s.setting j :=
      ((keeps_judgeSupply _ _).toStays.setting j).trans (received_setting bytes s j)
    rw [finishEvent_acceptFrame_present (quiet_of_between b) (freqOutOfBand_mem _ _) rfl (by decide), supply]
    simp only [Bool.and_eq_true, Bool.or_eq_true, beq_iff_eq, State.outOfBand, decide_eq_true_eq, setting]
  · have args : (s.received bytes).onsetArgs = s.onsetArgs := by
      simp only [State.onsetArgs, received_setting, received_store]
    rw [finishEvent_acceptFrame_recs (by decide) (congrArg Scratch.zeroHolds b.2), supplyFrame_envelopeTrip, supply,
      received_conv judged, received_supply, received_recs (by decide) (by decide), args]
    simp only [ConverterState.delivering, Bool.or_eq_true, beq_iff_eq]

end Sys2Proof.Machine
end

section
/-!
The frame of a whole command, and TRIP brought into force by one report: the converter is TRIPPED with that record as trip
reason (R88, R90, R165).
-/
namespace Sys2Proof.Machine

section
variable {s u : State}

/-! ### The frame of a whole command -/

/-- What an arrival's operation and the end of its event may touch between them. -/
theorem changes_event {ps qs : List Piece} (b : Between s) (h : Changes ps s u) (before : State)
    (own : ps ⊆ .ev :: qs := by decide) (ends : .out :: .revs :: ownerPieces ⊆ .ev :: qs := by decide) :
    Changes qs s (finishEvent before u) :=
  Changes.of_ev ((h.mono own).trans ((changes_finishEvent before u).mono ends)) ((finishEvent_ev before u).trans b.2.symm)

/-- As `changes_event`, where the operation gathers nothing: the end of the event adds lines and revisions alone. -/
theorem changes_event_quiet {ps qs : List Piece} (b : Between s) (h : Changes ps s u) (before : State)
    (noEv : Piece.ev ∉ ps := by decide) (own : ps ⊆ .ev :: qs := by decide)
    (ends : [.out, .revs] ⊆ qs := by decide) : Changes qs s (finishEvent before u) := by
  have quiet : u.ev.Quiet := (h .ev noEv : u.ev = s.ev) ▸ quiet_of_between b
  obtain ⟨out, ends⟩ := List.cons_subset.mp ends
  obtain ⟨revs, -⟩ := List.cons_subset.mp ends
  have driven : Changes (.ev :: qs) u u.drive := (changes_drive u).mono (by simp [out])
  exact Changes.of_ev (((h.mono own).trans driven).trans ((changes_finishEvent_quiet quiet).mono (by simp [revs])))
    ((finishEvent_ev before u).trans b.2.symm)

/-! ### TRIP comes into force -/

section
variable {i : Fin 32} {r : CondRec} {rep : Report}

/-- A record that carries TRIP alone, and holds it, adds TRIP to the consequences in force. -/
theorem inForce_of_tripping (carries : catalogue[i].consequences = onlyTrip) (holds : r.holds catalogue[i] = true) :
    (s.setRec i r).cond.inForce = { s.cond.inForce with trip := true } := by
  have others (f : Consequences → Bool) (off : f onlyTrip = false) :
      (s.setRec i r).cond.inForceBy f = s.cond.inForceBy f := by
    refine Conditions.inForceBy_congr fun j hj => ?_
    have other : j ≠ i := by
      rintro rfl
      rw [carries, off] at hj
      cases hj
    rw [setRec_recs_other s r other]
  have trip : (s.setRec i r).cond.inForceBy (·.trip) = true := by
    refine (Conditions.inForceBy_iff _ _).mpr ⟨i, by rw [carries]; rfl, ?_⟩
    rwa [setRec_recs_self]
  simp only [Conditions.inForce, trip, others (·.hold) rfl, others (·.inhibitYaw) rfl, others (·.suppressAuto) rfl,
    others (·.shedService) rfl]

/-- The record `r` in place `i`, its onset noted and TRIP told, before the converter acts on it. -/
def State.tripTold (i : Fin 32) (r : CondRec) (s : State) : State :=
  { s with
    cond := ⟨s.cond.recs.set i r, { s.cond.told with trip := true }⟩
    ev := { s.ev with onsets := i :: s.ev.onsets } }

theorem changes_tripTold (s : State) (i : Fin 32) (r : CondRec) : Changes [.cond, .ev] s (s.tripTold i r) := by
  intro p outside
  cases p with
  | cond | ev => exact absurd (by decide) outside
  | _ => rfl

/-- A report that puts TRIP in force, and nothing else, is told to the converter alone. -/
theorem report_of_tripping (judged : Judged s) (free : s.tripInForce = false)
    (carries : catalogue[i].consequences = onlyTrip)
    (taken : (s.cond.recs[i]).take catalogue[i].kind rep s.onsetArgs = (r, true))
    (holds : r.holds catalogue[i] = true) : s.report [(i, rep)] = (s.tripTold i r).tripConverter := by
  have report : s.takeReport i rep = { s.setRec i r with ev := { s.ev with onsets := i :: s.ev.onsets } } := by
    rw [State.takeReport, taken]
    rfl
  have inForce : (s.takeReport i rep).cond.inForce = { s.cond.told with trip := true } := by
    rw [report, judged]
    exact inForce_of_tripping carries holds
  have told : (s.takeReport i rep).cond.told.trip = false := by
    rw [takeReport_told, judged]
    exact free
  change (s.takeReport i rep).judge = _
  rw [State.judge, inForce, takeReport_told] at *
  simp only [State.tell, told, Bool.not_false, Bool.and_true, Bool.and_not_self, if_true, Bool.false_eq_true,
    if_false]
  rw [report]
  rfl

/-- The lowest onset of an event with one onset is that one (R90). -/
theorem tripReasonOf_singleton :
    ∀ i : Fin 32, catalogue[i].consequences.trip = true → tripReasonOf [i] = some i := by
  decide

/-- The converter is TRIPPED between `s` and `t` by the record `i`, now `r`: nothing else moves (R76, R88, R90). -/
structure TripsBy (i : Fin 32) (r : CondRec) (s t : State) : Prop where
  conv : t.conv = { s.conv with state := .tripped, step := none, seqLeft := none, tripReason := some i }
  record : t.cond.recs[i] = r
  trip : t.tripInForce = true
  lines : t.out = t.outputs
  rest : Changes [.conv, .cond, .out, .revs] s t

/-- The end of an event in which the converter entered TRIPPED on one record. -/
theorem tripsBy_finishEvent (ev : s.ev = Scratch.empty) (carries : catalogue[i].consequences = onlyTrip)
    (holds : r.holds catalogue[i] = true) (before : State) :
    TripsBy i r s (finishEvent before (s.enterTripped.tripTold i r)) := by
  have reason : tripReasonOf [i] = some i := tripReasonOf_singleton i (by rw [carries]; rfl)
  let u := s.enterTripped.tripTold i r
  have gathered : u.ev = { Scratch.empty with onsets := [i], tripped := true } := by
    simp only [u, State.tripTold, State.enterTripped, ev]
    rfl
  have settled : u.settle = { u with conv := { u.conv with tripReason := some i } } := by
    simp [State.settle, State.settleClaims, State.settleActuators, State.setTripReason, gathered, Scratch.empty, reason]
  have close : finishEvent before u = closeEvent before u := by
    refine finishEvent_of_noZeroTimer ?_ (.inl ?_) <;> rw [settled] <;> exact gathered ▸ rfl
  have moved : Changes [.conv, .cond, .ev] s u.settle := by
    rw [settled]
    exact ((changes_enterTripped s).mono.trans (changes_tripTold _ i r).mono).trans (changes_conv u _).mono
  change TripsBy i r s (finishEvent before u)
  rw [close]
  have ends : closeEvent before u =
      { u.settle.drive with revs := bumpAll before.snapshot u.settle.drive.snapshot u.settle.drive.revs } := rfl
  have frame : Changes [.ev, .conv, .cond, .out, .revs] s (closeEvent before u) := by
    rw [ends]
    exact (moved.mono.trans (changes_drive _).mono).trans (changes_revs _ _).mono
  have cond : (closeEvent before u).cond = u.cond := (congrArg State.cond settled : u.settle.cond = _)
  refine ⟨?_, ?_, ?_, rfl, Changes.of_ev frame ev.symm⟩
  · exact congrArg State.conv settled
  · rw [cond]
    exact setRec_recs_self s i r
  · rw [State.tripInForce, cond]
    exact congrArg Consequences.trip (inForce_of_tripping (s := s) carries holds)

/-- A report that puts TRIP in force, and nothing else, trips an energised converter. -/
theorem tripsBy_report (ev : s.ev = Scratch.empty) (judged : Judged s) (free : s.tripInForce = false)
    (energised : s.conv.state.energised = true) (carries : catalogue[i].consequences = onlyTrip)
    (taken : (s.cond.recs[i]).take catalogue[i].kind rep s.onsetArgs = (r, true))
    (holds : r.holds catalogue[i] = true) (before : State) :
    TripsBy i r s (finishEvent before (s.report [(i, rep)])) := by
  have trips : s.report [(i, rep)] = s.enterTripped.tripTold i r := by
    rw [report_of_tripping judged free carries taken holds]
    exact if_pos energised
  rw [trips]
  exact tripsBy_finishEvent ev carries holds before

/-- As `tripsBy_report`, of a converter that entered TRIPPED on its own account in the event (R86). -/
theorem tripsBy_report_tripped (ev : s.ev = Scratch.empty) (judged : Judged s) (free : s.tripInForce = false)
    (carries : catalogue[i].consequences = onlyTrip)
    (taken : (s.cond.recs[i]).take catalogue[i].kind rep s.onsetArgs = (r, true))
    (holds : r.holds catalogue[i] = true) (before : State) :
    TripsBy i r s (finishEvent before (s.enterTripped.report [(i, rep)])) := by
  rw [report_of_tripping (s := s.enterTripped) judged free carries taken holds]
  exact tripsBy_finishEvent ev carries holds before

/-- The lines of a TRIPPED converter (R76, R77). -/
theorem TripsBy.driven {t : State} (h : TripsBy i r s t) :
    t.out.pulsePermit = false ∧ t.out.chopperPermit = false ∧ t.out.mainK = false ∧ t.out.prechargeK = false ∧
      t.out.dischargeK = true := by
  have state : t.conv.state = .tripped := congrArg Converter.state h.conv
  rw [h.lines]
  simp [State.outputs, State.pulsePermit, State.chopperPermit, Converter.mainK, Converter.prechargeK,
    Converter.dischargeK, state, ConverterState.delivering]

end

/-! ### Records that meet their cause CLEAR -/

theorem occur_of_clear {r : CondRec} (clear : r.state = .clear) (o : OnsetArgs) :
    (r.occur o).1.state = .latched ∧ (r.occur o).2 = true := by
  simp [CondRec.occur, clear, CondRec.enter]

theorem arrive_of_clear {r : CondRec} (clear : r.state = .clear) (absent : r.present = false) (delay : r.delay = 0)
    (o : OnsetArgs) : (r.arrive o).1.state = .active ∧ (r.arrive o).2 = true := by
  simp [CondRec.arrive, clear, absent, delay, CondRec.activate, CondRec.enter]

end

end Sys2Proof.Machine
end

section
/-!
The converter's timers (R80, R81, R86, R94).
-/
namespace Sys2Proof.Machine

section
variable {s : State}

theorem exec_chopperDecayExpiry (b : Between s) (runs : s.conv.decayLeft.isSome = true) :
    exec .chopperDecayExpiry s = .next (finishEvent s s.decay) :=
  expiry_of_running (running := fun s => s.conv.decayLeft.isSome) b.1 runs

/-- The report of the chopper energy leaves the measured values. -/
theorem decay_measures (s : State) :
    s.decay.conv.measures =
      { s.conv with
        energy := s.conv.energy - 10 * s.setting Setting.chopperDecay, decayLeft := some 10 }.measures :=
  measured_report _ _

end

/-- Settles O48: the decay's measures stand at the end of its event. -/
theorem chopperDecays : Obligations.ChopperDecays := by
  intro s b runs
  have measures := (measured_finishEvent s s.decay).eq.trans (decay_measures s)
  simp only [Converter.measures, Prod.mk.injEq] at measures
  obtain ⟨-, energy, decay, -⟩ := measures
  exact ⟨_, exec_chopperDecayExpiry b runs, energy, decay, changes_event b (changes_decay s) s⟩

section
variable {s : State} {n : Fin 32}

/-- DC_SEQUENCE_FAIL and BREAKER_FAIL, CLEAR, latch at an occurrence and hold TRIP (R80, R81, R155). -/
theorem sequence_record (record : n = Cond.dcSequenceFail ∨ n = Cond.breakerFail)
    (clear : (s.cond.recs[n]).state = .clear) :
    catalogue[n].consequences = onlyTrip ∧
      (s.cond.recs[n]).take catalogue[n].kind .occurs s.onsetArgs = (((s.cond.recs[n]).occur s.onsetArgs).1, true) ∧
      ((s.cond.recs[n]).occur s.onsetArgs).1.holds catalogue[n] = true := by
  obtain ⟨latched, onset⟩ := occur_of_clear clear s.onsetArgs
  have spec : catalogue[n].consequences = onlyTrip ∧ catalogue[n].kind = .event ∧ catalogue[n].latching = true := by
    rcases record with rfl | rfl <;> exact ⟨rfl, rfl, rfl⟩
  obtain ⟨carries, kind, latching⟩ := spec
  refine ⟨carries, ?_, ?_⟩
  · rw [kind]
    exact Prod.ext rfl onset
  · simp only [CondRec.holds, latched, latching, Bool.true_or]

/-- The precharge timer, or the breaker timer, expires in its step (R80, R81). -/
theorem tripsBy_sequence (b : Between s) (judged : Judged s) (free : s.tripInForce = false)
    (energised : s.conv.state.energised = true) (record : n = Cond.dcSequenceFail ∨ n = Cond.breakerFail)
    (clear : (s.cond.recs[n]).state = .clear) (before : State) :
    TripsBy n ((s.cond.recs[n]).occur s.onsetArgs).1 s (finishEvent before (s.report [(n, .occurs)])) := by
  obtain ⟨carries, taken, holds⟩ := sequence_record record clear
  exact tripsBy_report b.2 judged free energised carries taken holds before

/-- The discharge timer expires in DISCHARGING (R86). -/
theorem tripsBy_discharge (b : Between s) (judged : Judged s) (free : s.tripInForce = false)
    (clear : (s.cond.recs[Cond.dcSequenceFail]).state = .clear) (before : State) :
    TripsBy Cond.dcSequenceFail ((s.cond.recs[Cond.dcSequenceFail]).occur s.onsetArgs).1 s
      (finishEvent before (s.enterTripped.report [(Cond.dcSequenceFail, .occurs)])) := by
  obtain ⟨carries, taken, holds⟩ := sequence_record (.inl rfl) clear
  exact tripsBy_report_tripped b.2 judged free carries taken holds before

end

/-- Settles O47: each timer's report trips the converter (`TripsBy`). -/
theorem sequenceTimersTrip : Obligations.SequenceTimersTrip := by
  intro s c n b judged free runs which clear
  have trips : ∃ t, exec c s = .next t ∧ TripsBy n ((s.cond.recs[n]).occur s.onsetArgs).1 s t := by
    rcases which with ⟨rfl, state, step, three⟩ | ⟨rfl, state, step, four⟩ | ⟨rfl, state, three⟩
    · obtain rfl : n = Cond.dcSequenceFail := Fin.ext three
      have expired : s.prechargeExpired = s.report [(Cond.dcSequenceFail, .occurs)] := if_pos ⟨state, step⟩
      exact ⟨_, expiry_of_running b.1 runs,
        expired ▸ tripsBy_sequence b judged free (by rw [state]; rfl) (.inl rfl) clear s⟩
    · obtain rfl : n = Cond.breakerFail := Fin.ext four
      have expired : s.breakerExpired = s.report [(Cond.breakerFail, .occurs)] := if_pos ⟨state, step⟩
      exact ⟨_, expiry_of_running b.1 runs,
        expired ▸ tripsBy_sequence b judged free (by rw [state]; rfl) (.inr rfl) clear s⟩
    · obtain rfl : n = Cond.dcSequenceFail := Fin.ext three
      have expired : s.dischargeExpired = s.enterTripped.report [(Cond.dcSequenceFail, .occurs)] := if_pos state
      exact ⟨_, expiry_of_running b.1 runs, expired ▸ tripsBy_discharge b judged free clear s⟩
  obtain ⟨t, run, trips⟩ := trips
  obtain ⟨-, -, main, precharge, discharge⟩ := trips.driven
  exact ⟨t, run, trips.conv, trips.record, trips.trip, discharge, main, precharge, trips.rest, trips.lines⟩

end Sys2Proof.Machine
end

section
/-!
The lines of the converter and the raw lines with their filters (R81, R88, R91, R92, R175).
-/
namespace Sys2Proof.Machine

section
variable {s : State} {l : Line}

/-! ### Raw lines -/

theorem exec_rawLineChange (free : s.hold = none) (c : PinChange) :
    exec (.rawLineChange c) s = .next (s.pinChanges c) := by
  change execRawLineChange c s = _
  rw [execRawLineChange, State.held, free]
  rfl

/-- A raw line that leaves its level starts the filter timer, or cancels it on its return (R175). -/
theorem rawLine_of_ne {level : Bool} (moves : s.inputs.raw.get l ≠ level) :
    s.rawLine l level =
      { s with
        inputs :=
          { s.inputs with
            raw := s.inputs.raw.set l level
            filters := s.inputs.filters.set l ⟨s.level l, if level = s.level l then none else some 20⟩ } } :=
  if_neg moves

/-! ### GATE_FAULT (R91) -/

theorem filterExpired_gateFault (s : State) :
    s.filterExpired .gateFault =
      (s.filtered .gateFault).report [(Cond.gateFault, causeIs s.inputs.raw.gateFault)] := rfl

/-- The report of GATE_FAULT stands at the end of its event: no expiry that follows reports at that record. -/
theorem finishEvent_gateFault_present (b : Between s) (before : State) :
    ((finishEvent before (s.filterExpired .gateFault)).cond.recs[Cond.gateFault]).present =
      s.inputs.raw.gateFault := by
  have quiet : (s.filtered .gateFault).ev.Quiet := quiet_of_between b
  obtain ⟨-, -, -, noHolds, -⟩ := quiet
  have noted := settle_zeroHolds (keeps_report (s.filtered .gateFault) [(Cond.gateFault, causeIs s.inputs.raw.gateFault)])
    noHolds
  rw [filterExpired_gateFault, (stays_finishEvent (before := before) noted).recs Cond.gateFault (by decide)]
  exact report_present (g := [(Cond.gateFault, causeIs s.inputs.raw.gateFault)]) (List.nodup_singleton _)
    List.mem_cons_self rfl (by decide)

/-- An energised converter trips at GATE_FAULT. -/
theorem tripsBy_gateFault (b : Between s) (judged : Judged s) (free : s.tripInForce = false)
    (energised : s.conv.state.energised = true) (raw : s.inputs.raw.gateFault = true)
    (clear : (s.cond.recs[Cond.gateFault]).state = .clear) (absent : (s.cond.recs[Cond.gateFault]).present = false)
    (delay : (s.cond.recs[Cond.gateFault]).delay = 0) (before : State) :
    TripsBy Cond.gateFault ((s.cond.recs[Cond.gateFault]).arrive s.onsetArgs).1 (s.filtered .gateFault)
      (finishEvent before (s.filterExpired .gateFault)) := by
  obtain ⟨active, onset⟩ := arrive_of_clear clear absent delay s.onsetArgs
  rw [filterExpired_gateFault, raw]
  refine tripsBy_report (s := s.filtered .gateFault) (i := Cond.gateFault) (rep := .arrives) b.2 judged free energised
    rfl (Prod.ext rfl onset) ?_ before
  change ((s.cond.recs[Cond.gateFault]).arrive s.onsetArgs).1.holds catalogue[Cond.gateFault] = true
  simp only [CondRec.holds, active]

end

/-- Settles O49: the report of the filtered line puts TRIP in force (`TripsBy`). -/
theorem gateFaultTrips : Obligations.GateFaultTrips := by
  intro s b judged free energised runs raw clear absent delay
  have trips := tripsBy_gateFault b judged free energised raw clear absent delay s
  obtain ⟨pulse, chopper, -, -, discharge⟩ := trips.driven
  obtain ⟨active, -⟩ := arrive_of_clear clear absent delay s.onsetArgs
  have line : s.inputs.raw.get .gateFault = true := raw
  refine ⟨_, exec_filterTimerExpiry b runs, ?_, trips.conv, ?_, pulse, chopper, discharge,
    (changes_filtered .gateFault s).mono.trans trips.rest.mono⟩
  · rw [finishEvent_filterExpired_inputs, State.filtered, line]
    rfl
  · rw [trips.record]
    exact active

section
variable {s : State}

/-! ### MAIN_CLOSED (R81, R92) -/

theorem filterExpired_mainClosed (s : State) :
    s.filterExpired .mainClosed = (s.filtered .mainClosed).mainChanged s.inputs.raw.mainClosed := rfl

/-- Its rise in BREAKER_CLOSING completes the charge, and nothing more. -/
theorem filterExpired_mainClosed_completes (raw : s.inputs.raw.mainClosed = true)
    (closing : s.conv.state = .precharging ∧ s.conv.step = some .breakerClosing) :
    s.filterExpired .mainClosed = { s.filtered .mainClosed with conv := s.conv.completeCharge } := by
  rw [filterExpired_mainClosed, raw]
  exact if_pos closing

theorem breakerClosed_iff (c : ConverterState) :
    c.breakerClosed = true ↔ c = .charged ∨ c = .running ∨ c = .riding := by
  simp [ConverterState.breakerClosed, or_assoc]

/-- Its fall in CHARGED, RUNNING or RIDING is an occurrence of BREAKER_FAIL. -/
theorem filterExpired_mainClosed_opens (raw : s.inputs.raw.mainClosed = false)
    (closed : s.conv.state = .charged ∨ s.conv.state = .running ∨ s.conv.state = .riding) :
    s.filterExpired .mainClosed = (s.filtered .mainClosed).report [(Cond.breakerFail, .occurs)] := by
  rw [filterExpired_mainClosed, raw]
  exact if_pos ((breakerClosed_iff _).mpr closed)

/-- Every other change of MAIN_CLOSED does nothing more. -/
theorem filterExpired_mainClosed_other
    (other : s.inputs.raw.mainClosed = true ∧ ¬(s.conv.state = .precharging ∧ s.conv.step = some .breakerClosing) ∨
      s.inputs.raw.mainClosed = false ∧ s.conv.state ≠ .charged ∧ s.conv.state ≠ .running ∧ s.conv.state ≠ .riding) :
    s.filterExpired .mainClosed = s.filtered .mainClosed := by
  rw [filterExpired_mainClosed]
  rcases other with ⟨raw, not⟩ | ⟨raw, charged, running, riding⟩ <;> rw [raw]
  · exact if_neg not
  · have opened : ¬s.conv.state.breakerClosed = true := by
      rw [breakerClosed_iff]
      exact not_or.mpr ⟨charged, not_or.mpr ⟨running, riding⟩⟩
    exact if_neg opened

/-- The occurrence at BREAKER_FAIL stands at the end of its event. -/
theorem finishEvent_breakerFail (b : Between s) (raw : s.inputs.raw.mainClosed = false)
    (closed : s.conv.state = .charged ∨ s.conv.state = .running ∨ s.conv.state = .riding) (before : State) :
    (finishEvent before (s.filterExpired .mainClosed)).cond.recs[Cond.breakerFail] =
      ((s.cond.recs[Cond.breakerFail]).occur s.onsetArgs).1 := by
  have quiet : (s.filtered .mainClosed).ev.Quiet := quiet_of_between b
  obtain ⟨-, -, -, noHolds, -⟩ := quiet
  have noted := settle_zeroHolds (keeps_report (s.filtered .mainClosed) [(Cond.breakerFail, .occurs)]) noHolds
  rw [filterExpired_mainClosed_opens raw closed,
    (stays_finishEvent (before := before) noted).recs Cond.breakerFail (by decide)]
  exact report_recs (by decide) List.mem_cons_self (by decide)

/-- With TRIP not in force and BREAKER_FAIL CLEAR the fall trips the converter. -/
theorem tripsBy_mainClosed (b : Between s) (judged : Judged s) (free : s.tripInForce = false)
    (raw : s.inputs.raw.mainClosed = false)
    (closed : s.conv.state = .charged ∨ s.conv.state = .running ∨ s.conv.state = .riding)
    (clear : (s.cond.recs[Cond.breakerFail]).state = .clear) (before : State) :
    TripsBy Cond.breakerFail ((s.cond.recs[Cond.breakerFail]).occur s.onsetArgs).1 (s.filtered .mainClosed)
      (finishEvent before (s.filterExpired .mainClosed)) := by
  have energised : s.conv.state.energised = true := by
    rcases closed with state | state | state <;> rw [state] <;> rfl
  rw [filterExpired_mainClosed_opens raw closed]
  exact tripsBy_sequence (s := s.filtered .mainClosed) b judged free energised (.inr rfl) clear before

end

/-- Settles O53: pin by pin, then the filtered change of each line at its owner. -/
theorem lineFiltersSettle : Obligations.LineFiltersSettle := by
  intro s l level f
  refine ⟨fun free => ⟨fun same => ?_, fun moves => ?_, exec_rawLineChange free _, exec_rawLineChange free _,
    exec_rawLineChange free _⟩, fun b runs => ⟨_, exec_filterTimerExpiry b runs, finishEvent_filterExpired_inputs s l,
      ?_, ?_, ?_, ?_, changes_finishEvent_filterExpired b l, linesDriven_finishEvent s _⟩⟩
  · rw [exec_rawLineChange free]
    exact congrArg _ (if_pos same)
  · rw [exec_rawLineChange free]
    exact congrArg _ (rawLine_of_ne moves)
  · rintro rfl
    exact finishEvent_gateFault_present b s
  · rintro rfl raw state step
    have completes := filterExpired_mainClosed_completes raw ⟨state, step⟩
    have quiet : (s.filterExpired .mainClosed).ev.Quiet := completes ▸ quiet_of_between b
    have ends := changes_finishEvent_quiet (before := s) quiet
    have cond : (s.filterExpired .mainClosed).cond = s.cond := by
      rw [completes]
      rfl
    exact ⟨(ends .conv (by decide)).trans (congrArg State.conv completes), (ends .cond (by decide)).trans cond⟩
  · rintro rfl raw closed judged
    refine ⟨finishEvent_breakerFail b raw closed s, fun free clear => ?_⟩
    have trips := tripsBy_mainClosed b judged free raw closed clear s
    obtain ⟨pulse, -, main, -, discharge⟩ := trips.driven
    exact ⟨trips.conv, trips.trip, pulse, main, discharge,
      (changes_filtered .mainClosed s).mono.trans trips.rest.mono⟩
  · rintro rfl other
    rw [filterExpired_mainClosed_other other]
    exact changes_event_quiet b (changes_filtered .mainClosed s) s

end Sys2Proof.Machine
end

section
/-!
The requests of the converter at an idle port (R78, R83, R84, R86, R87).
-/
namespace Sys2Proof.Machine

section
variable {s : State} {c : Instr} {body : State → Answer}

/-! ### Items that are refused, and items that move the converter alone -/

theorem runItem_refused {st : ItemStatus} (r : Ready s) (b : body s.entered = refuse s.entered st) :
    runItem c body s = .next (s.answered st []) :=
  runItem_unmoved r.1 (.inl r.2) b (fun _ => rfl) (quiet_of_between r.1.1) r.1.2.2 rfl

theorem runItem_converter {k : Converter} (r : Ready s) (b : body s.entered = answerOk { s.entered with conv := k }) :
    ∃ revs, runItem c body s = .next { ({ s with conv := k }.answered .ok [] : State) with revs := revs } :=
  ⟨_, runItem_quiet (u := { s with conv := k }) r.1 (.inl r.2) b (fun no => absurd rfl no) (quiet_of_between r.1.1)
    r.1.2.2⟩

/-! ### The answers -/

/-- What START asks for beyond CHARGED (R83). -/
theorem readyToStart_iff (s : State) :
    s.readyToStart = true ↔ (s.claim 1).state = .held ∧ s.conv.flowProven = true ∧ s.tripInForce = false ∧
      s.holdInForce = false ∧ s.supply.state = .grid := by
  simp [State.readyToStart, State.released, isHeld_iff, and_assoc]

theorem doStart_state (not : s.conv.state ≠ .charged) : doStart s = refuse s .state := if_pos not

theorem doStart_notReady (charged : s.conv.state = .charged) (not : s.readyToStart = false) :
    doStart s = refuse s .notReady := by
  simp [doStart, charged, not]

theorem doStart_starts (charged : s.conv.state = .charged) (ready : s.readyToStart = true) :
    doStart s = answerOk { s with conv := { s.conv with state := .running } } := by
  simp [doStart, charged, ready, State.setConverter]

theorem doStop_stops (delivering : s.conv.state = .running ∨ s.conv.state = .riding) :
    doStop s = answerOk { s with conv := { s.conv with state := .charged } } :=
  if_pos ((delivering_iff _).mpr delivering)

theorem doStop_state (running : s.conv.state ≠ .running) (riding : s.conv.state ≠ .riding) :
    doStop s = refuse s .state :=
  if_neg fun delivering => ((delivering_iff _).mp delivering).elim running riding

/-- The converter DISCHARGING, its timer started, no trip reason (R86, R87). -/
def State.discharged (s : State) : Converter :=
  { s.conv with
    state := .discharging, step := none, seqLeft := some (1000 * s.setting Setting.dischargeTimeout),
    tripReason := none }

theorem doDischarge_discharges (charged : s.conv.state = .charged) :
    doDischarge s = answerOk { s with conv := s.discharged } := if_pos charged

theorem doDischarge_state (not : s.conv.state ≠ .charged) : doDischarge s = refuse s .state := if_neg not

theorem doClearTrip_state (not : s.conv.state ≠ .tripped) : doClearTrip s = refuse s .state := if_pos not

theorem doClearTrip_notReady (tripped : s.conv.state = .tripped) (trip : s.tripInForce = true) :
    doClearTrip s = refuse s .notReady := by
  simp [doClearTrip, tripped, trip]

theorem doClearTrip_discharges (tripped : s.conv.state = .tripped) (free : s.tripInForce = false) :
    doClearTrip s = answerOk { s with conv := s.discharged } := by
  simp [doClearTrip, tripped, free]
  rfl

/-! ### A converter stopped -/

/-- In CHARGED both permits are off, MAIN_K is on and the ceiling is 0 (R76, R77, R96). -/
theorem lines_of_charged (lines : s.out = s.outputs) (charged : s.conv.state = .charged) :
    s.out.pulsePermit = false ∧ s.out.chopperPermit = false ∧ s.out.mainK = true ∧ s.ceiling = 0 := by
  refine ⟨?_, ?_, ?_, ceiling_of_not_delivering (by rw [charged]; rfl)⟩
  all_goals
    rw [lines]
    simp [State.outputs, State.pulsePermit, State.chopperPermit, Converter.mainK, charged, ConverterState.delivering]

end

/-- Settles O46: the answer of each request by the converter's state and the permits. -/
theorem converterRequests : Obligations.ConverterRequests := by
  intro s
  refine ⟨fun r => ⟨fun not => ?_, fun charged => ⟨fun lacks => ?_, fun held proven free unheld grid => ?_⟩⟩,
    fun r => ⟨fun delivering => ?_, fun running riding => ?_, fun charged => ?_, fun not => ?_, fun tripped free => ?_,
      fun tripped trip => ?_, fun not => ?_⟩⟩
  · exact runItem_refused (c := .start) r (doStart_state not)
  · have not : s.readyToStart = false := by
      rw [← Bool.not_eq_true, readyToStart_iff]
      rintro ⟨held, proven, free, unheld, grid⟩
      simp [held, proven, free, unheld, grid] at lacks
    exact runItem_refused (c := .start) r (doStart_notReady (s := s.entered) charged not)
  · have ready := (readyToStart_iff s.entered).mpr ⟨held, proven, free, unheld, grid⟩
    obtain ⟨revs, run⟩ := runItem_converter (c := .start) r (doStart_starts (s := s.entered) charged ready)
    exact ⟨_, run, changes_revs _ _⟩
  · obtain ⟨revs, run⟩ := runItem_converter (c := .stopConverter) r (doStop_stops (s := s.entered) delivering)
    exact ⟨_, run, changes_revs _ _, lines_of_charged rfl rfl⟩
  · exact runItem_refused (c := .stopConverter) r (doStop_state (s := s.entered) running riding)
  · obtain ⟨revs, run⟩ := runItem_converter (c := .discharge) r (doDischarge_discharges (s := s.entered) charged)
    exact ⟨_, run, changes_revs _ _⟩
  · exact runItem_refused (c := .discharge) r (doDischarge_state (s := s.entered) not)
  · obtain ⟨revs, run⟩ := runItem_converter (c := .clearTrip) r (doClearTrip_discharges (s := s.entered) tripped free)
    exact ⟨_, run, changes_revs _ _⟩
  · exact runItem_refused (c := .clearTrip) r (doClearTrip_notReady (s := s.entered) tripped trip)
  · exact runItem_refused (c := .clearTrip) r (doClearTrip_state (s := s.entered) not)

end Sys2Proof.Machine
end

section
/-!
What the operations of the apportioner, the yaw engine and the reports leave of the other owners' claims, of the
consequences in force, and of what the event has gathered (R45, R47, R51, R165).
-/
namespace Sys2Proof.Machine

section
variable {s t u : State}

/-! ### The Load Apportioner -/

/-- From `s` to `t` the claims have moved, and CLAIM_SHED with them, which carries no consequence (R51). -/
structure ClaimsMove (s t : State) : Prop where
  inForce : t.cond.inForce = s.cond.inForce
  told : t.cond.told = s.cond.told
  tripped : t.ev.tripped = s.ev.tripped
  actuators : t.ev.actuators = s.ev.actuators
  rest : Changes claimPieces s t

theorem ClaimsMove.refl (s : State) : ClaimsMove s s := ⟨rfl, rfl, rfl, rfl, Changes.refl _ s⟩

theorem claimsMove_apportion (s : State) (f : Apportioner → Apportioner) : ClaimsMove s (s.apportion f) := by
  obtain ⟨onsets, ev⟩ : ∃ onsets, (s.apportion f).ev = { s.ev with onsets := onsets } :=
    putRec_ev { s with app := f s.app } Cond.claimShed _
  exact ⟨apportion_inForce s f, apportion_told s f, by rw [ev], by rw [ev], changes_apportion s f⟩

theorem claimsMove_apportionStarting (s : State) (f : Apportioner → Apportioner) :
    ClaimsMove s (s.apportionStarting f) := by
  obtain ⟨inForce, told, tripped, actuators, -⟩ := claimsMove_apportion s f
  exact ⟨inForce, told, tripped, actuators, changes_apportionStarting s f⟩

theorem claimsMove_engineRequest (s : State) (i : Fin 16) (n : Nat) : ClaimsMove s (s.engineRequest i n) := by
  unfold State.engineRequest State.claimRequest
  split
  · exact .refl s
  · obtain ⟨inForce, told, tripped, actuators, rest⟩ :=
      claimsMove_apportion s (Apportioner.engineAsk i (s.setting ⟨25 + min i.val 5, by omega⟩) n)
    exact ⟨inForce, told, tripped, actuators, rest.trans (changes_claimEvent _).mono⟩

/-- An engine's request touches its own slot alone (R45). -/
theorem engineRequest_other (s : State) {i j : Fin 16} (n : Nat) (other : j ≠ i) :
    ((s.engineRequest i n).claim j).state = (s.claim j).state := by
  have out : j ∉ [i] := List.mem_singleton.not.mpr other
  rw [State.claim, State.engineRequest, claimRequest_app]
  unfold Apportioner.engineAsk
  simp only
  split
  · split
    · rfl
    · exact (sameOff_openSlot s.app i ..).state out
  · split
    · exact (sameOff_release s.app i).state out
    · exact (sameOff_amend s.app i _).state out

/-! ### The yaw engine -/

/-- From `s` to `t` the yaw engine has acted: of the claims on its own alone, and with no consequence. -/
structure YawActs (s t : State) : Prop where
  claims : ∀ i : Fin 16, i ≠ 0 → (t.claim i).state = (s.claim i).state
  inForce : t.cond.inForce = s.cond.inForce
  told : t.cond.told = s.cond.told
  tripped : t.ev.tripped = s.ev.tripped
  actuators : t.ev.actuators = s.ev.actuators
  rest : Changes yawPieces s t

theorem YawActs.refl (s : State) : YawActs s s := ⟨fun _ _ => rfl, rfl, rfl, rfl, rfl, Changes.refl _ s⟩

theorem YawActs.trans (h : YawActs s t) (k : YawActs t u) : YawActs s u :=
  ⟨fun i own => (k.claims i own).trans (h.claims i own), k.inForce.trans h.inForce, k.told.trans h.told,
    k.tripped.trans h.tripped, k.actuators.trans h.actuators, h.rest.trans k.rest⟩

theorem YawActs.ite {a b : State} {c : Prop} [Decidable c] (ha : YawActs s a) (hb : YawActs s b) :
    YawActs s (if c then a else b) := by
  split <;> assumption

theorem YawActs.of_changes (h : Changes [.yaw, .routes, .align] s t) : YawActs s t := by
  have app : t.app = s.app := h .app (by decide)
  have cond : t.cond = s.cond := h .cond (by decide)
  have ev : t.ev = s.ev := h .ev (by decide)
  refine ⟨fun i _ => ?_, by rw [cond], by rw [cond], by rw [ev], by rw [ev], h.mono⟩
  rw [State.claim, State.claim, app]

theorem yawActs_engineRequest (s : State) (n : Nat) : YawActs s (s.engineRequest 0 n) := by
  obtain ⟨inForce, told, tripped, actuators, rest⟩ := claimsMove_engineRequest s 0 n
  exact ⟨fun i other => engineRequest_other s n other, inForce, told, tripped, actuators, rest.mono⟩

theorem yawActs_yaw (s : State) (y : Yaw) : YawActs s { s with yaw := y } := .of_changes (changes_yaw s y).mono

theorem yawActs_park (s : State) : YawActs s s.park := by
  unfold State.park
  refine YawActs.trans ?_ (yawActs_engineRequest _ _)
  exact (yawActs_yaw s _).trans (.of_changes (changes_openWindows _).mono)

theorem yawActs_leaveBraking (s : State) : YawActs s s.leaveBraking := by
  have releases (v : State) : YawActs v v.enterReleasing := .of_changes (changes_enterReleasing v).mono
  unfold State.leaveBraking
  split
  · exact yawActs_park s
  · split
    · exact (yawActs_yaw s _).trans (releases _)
    · split
      · split
        · exact yawActs_yaw s _
        · exact (YawActs.of_changes (changes_advance s).mono).trans (releases _)
      · exact yawActs_park s

theorem yawActs_enterBraking (s : State) : YawActs s s.enterBraking := by
  have brake : YawActs s s.applyBrake := .of_changes (changes_applyBrake s).mono
  exact .ite brake (brake.trans (yawActs_leaveBraking _))

theorem yawActs_stopPath (s : State) : YawActs s s.stopPath := by
  unfold State.stopPath
  split
  · exact yawActs_park s
  · exact yawActs_enterBraking s
  · exact .of_changes (changes_enterSettling s).mono
  · exact yawActs_park s
  · exact .refl s
  · exact .refl s
  · exact .refl s

theorem yawActs_stopRunning (s : State) (o : RouteOutcome) : YawActs s (s.stopRunning o) :=
  .ite ((YawActs.of_changes (changes_endRoute s o).mono).trans (yawActs_stopPath _)) (.refl s)

theorem yawActs_tellYaw (before s : State) : YawActs s (State.tellYaw before s) :=
  .ite (.ite (.of_changes (changes_enterReleasing s).mono) (.refl s))
    (.ite ((yawActs_yaw s _).trans (yawActs_stopRunning _ _)) (.refl s))

/-! ### The reports -/

/-- From `s` to `t` no claim of an actuator has become HELD or ceased to be: none is noted, and the pump's proof stands. -/
structure HomesStay (s t : State) : Prop where
  homes : ∀ z : Zone, t.isHeld (homeSlot z) = s.isHeld (homeSlot z)
  actuators : t.ev.actuators = s.ev.actuators
  proven : t.conv.flowProven = s.conv.flowProven
  rest : Changes judgePieces s t

theorem HomesStay.trans (h : HomesStay s t) (k : HomesStay t u) : HomesStay s u :=
  ⟨fun z => (k.homes z).trans (h.homes z), k.actuators.trans h.actuators, k.proven.trans h.proven, h.rest.trans k.rest⟩

theorem HomesStay.of_pieces (app : t.app = s.app) (actuators : t.ev.actuators = s.ev.actuators)
    (proven : t.conv.flowProven = s.conv.flowProven) (rest : Changes judgePieces s t) : HomesStay s t := by
  refine ⟨fun z => ?_, actuators, proven, rest⟩
  rw [State.isHeld, State.isHeld, app]

theorem HomesStay.refl (s : State) : HomesStay s s := .of_pieces rfl rfl rfl (Changes.refl _ s)

theorem HomesStay.ite {a b : State} {c : Prop} [Decidable c] (ha : HomesStay s a) (hb : HomesStay s b) :
    HomesStay s (if c then a else b) := by
  split <;> assumption

theorem HomesStay.onlyIf {c : Prop} [Decidable c] (h : HomesStay s t) (k : HomesStay t u) :
    HomesStay s (if c then u else t) := .ite (h.trans k) h

theorem YawActs.homesStay (h : YawActs s t) : HomesStay s t := by
  have conv : t.conv = s.conv := h.rest .conv (by decide)
  refine ⟨fun z => ?_, h.actuators, by rw [conv], h.rest.mono⟩
  have state := h.claims (homeSlot z) (by cases z <;> decide)
  rw [State.claim, State.claim] at state
  rw [State.isHeld, State.isHeld, state]

/-- SHED_SERVICE sheds link claims alone (R49). -/
theorem engineSame_serviceShed (prio stagger : Nat) (a : Apportioner) : a.EngineSame (a.serviceShed prio stagger) := by
  have sheds (is : List (Fin 16)) (link : ∀ i ∈ is, 6 ≤ i.val) :
      ∀ b : Apportioner, b.EngineSame (is.foldl (fun b i => b.shed i) b) := by
    induction is with
    | nil => exact fun b => .refl b
    | cons i is ih =>
      exact fun b => (engineSame_shed b (link i List.mem_cons_self)).trans
        (ih (fun j mem => link j (List.mem_cons_of_mem i mem)) _)
  have covered : ∀ i ∈ a.serviceClaims prio, 6 ≤ i.val := by
    intro i mem
    have covered := List.of_mem_filter mem
    simp only [Apportioner.covered, decide_eq_true_eq] at covered
    exact covered.1
  unfold Apportioner.serviceShed
  split
  · exact .refl a
  · next is _ => exact (sheds _ covered a).trans (engineSame_of_claims rfl)

theorem homesStay_shedService (s : State) : HomesStay s s.shedService := by
  obtain ⟨-, -, -, actuators, rest⟩ := claimsMove_apportionStarting s
    (Apportioner.serviceShed (s.setting Setting.serviceShedPrio) (s.setting Setting.stagger))
  have same := engineSame_serviceShed (s.setting Setting.serviceShedPrio) (s.setting Setting.stagger) s.app
  have conv : s.shedService.conv = s.conv := rest .conv (by decide)
  have app : s.shedService.app = s.app.serviceShed (s.setting Setting.serviceShedPrio) (s.setting Setting.stagger) :=
    apportion_app s _
  refine ⟨fun z => ?_, actuators, by rw [conv], rest.mono⟩
  rw [State.isHeld, State.isHeld, app, (same (homeSlot z) (by cases z <;> decide)).1]

theorem homesStay_tell (s : State) (told now : Consequences) : HomesStay s (s.tell told now) := by
  have trips (v : State) : HomesStay v v.tripConverter :=
    .ite (.of_pieces rfl rfl rfl (changes_enterTripped v).mono) (.refl v)
  have holds (v : State) : HomesStay v v.holdConverter :=
    .ite (.of_pieces rfl rfl rfl (changes_setConverter v _).mono) (.refl v)
  have notes (v : State) : HomesStay v v.claimEvent := .of_pieces rfl rfl rfl (changes_claimEvent v).mono
  unfold State.tell
  refine HomesStay.onlyIf ?_ (notes _)
  refine HomesStay.onlyIf ?_ (homesStay_shedService _)
  refine HomesStay.onlyIf ?_ (yawActs_stopRunning _ _).homesStay
  refine HomesStay.onlyIf ?_ (holds _)
  exact HomesStay.onlyIf (.refl s) (trips _)

theorem homesStay_takeReports (s : State) (g : Group) : HomesStay s (s.takeReports g) := by
  induction g generalizing s with
  | nil => exact .refl s
  | cons p g ih =>
    have rest := changes_takeReport s p.1 p.2
    have conv : (s.takeReport p.1 p.2).conv = s.conv := rest .conv (by decide)
    have actuators : (s.takeReport p.1 p.2).ev.actuators = s.ev.actuators := by
      obtain ⟨onsets, ev⟩ := putRec_ev s p.1 ((s.cond.recs[p.1]).take catalogue[p.1].kind p.2 s.onsetArgs)
      rw [State.takeReport, ev]
    exact (HomesStay.of_pieces (rest .app (by decide)) actuators (by rw [conv]) rest.mono).trans (ih _)

theorem homesStay_report (s : State) (g : Group) : HomesStay s (s.report g) := by
  have heard (v : State) (k : Consequences) : HomesStay v { v with cond := { v.cond with told := k } } := by
    refine .of_pieces rfl rfl rfl fun p outside => ?_
    cases p with
    | cond => exact absurd (by decide) outside
    | _ => rfl
  have judged (v : State) : HomesStay v v.judge := (heard v v.cond.inForce).trans (homesStay_tell _ _ _)
  exact (homesStay_takeReports s g).trans (judged _)

end

end Sys2Proof.Machine
end

section
/-!
The owners told, the actuators settled, and the flow check of a pump through an event (R47, R82, R110, R112).
-/
namespace Sys2Proof.Machine

section
variable {s t u : State}

/-! ### The actuators noted (R110) -/

/-- From `s` to `t` the actuators stand as they were, and each whose claim became HELD or ceased to be is noted. -/
structure Notes (s t : State) : Prop where
  cool : t.cool = s.cool
  inputs : t.inputs = s.inputs
  noted : s.ev.actuators ⊆ t.ev.actuators
  homes : ∀ z : Zone, z ∈ t.ev.actuators ∨ t.isHeld (homeSlot z) = s.isHeld (homeSlot z)

theorem Notes.refl (s : State) : Notes s s := ⟨rfl, rfl, List.Subset.refl _, fun _ => .inr rfl⟩

theorem Notes.trans (h : Notes s t) (k : Notes t u) : Notes s u where
  cool := k.cool.trans h.cool
  inputs := k.inputs.trans h.inputs
  noted := List.Subset.trans h.noted k.noted
  homes z := by
    rcases k.homes z with noted | same
    · exact .inl noted
    · exact (h.homes z).imp (fun mem => k.noted mem) same.trans

theorem HomesStay.notes (h : HomesStay s t) : Notes s t :=
  ⟨h.rest .cool (by decide), h.rest .inputs (by decide), h.actuators ▸ List.Subset.refl _, fun z => .inr (h.homes z)⟩

theorem notes_tellConverter (before s : State) : Notes s (State.tellConverter before s) := by
  have proven (b : Bool) : Notes s { s with conv := { s.conv with flowProven := b } } :=
    ⟨rfl, rfl, List.Subset.refl _, fun _ => .inr rfl⟩
  unfold State.tellConverter
  split
  · exact proven _
  · split
    · simp only
      split
      · exact (proven false).trans (homesStay_report _ _).notes
      · exact proven false
    · exact .refl s

/-- The Cooling Controller notes each actuator whose claim an operation of the apportioner moved (R47). -/
theorem notes_tellOwners (move : ClaimsMove s t) : Notes s (State.tellOwners s t) := by
  have cooling : Notes s (State.tellCooling s t) := by
    refine ⟨move.rest .cool (by decide), move.rest .inputs (by decide), ?_, fun z => ?_⟩
    · rw [State.tellCooling, noteActuators_actuators, move.actuators]
      exact List.subset_append_left _ _
    · by_cases moved : claimMoved s t (homeSlot z) = true
      · refine .inl (List.mem_append_right _ (List.mem_filter.mpr ⟨?_, moved⟩))
        cases z <;> decide
      · refine .inr ?_
        simp only [claimMoved, Bool.or_eq_true, bne_iff_ne, not_or, not_not, State.claim] at moved
        change t.isHeld (homeSlot z) = _
        rw [State.isHeld, State.isHeld, moved.1]
  exact (cooling.trans (notes_tellConverter s _)).trans (yawActs_tellYaw s _).homesStay.notes

theorem notes_grantOpportunity (s : State) : Notes s s.grantOpportunity := by
  unfold State.grantOpportunity
  split
  · exact notes_tellOwners (claimsMove_apportionStarting s _)
  · exact .refl s

theorem notes_settleClaims (s : State) : Notes s s.settleClaims := by
  unfold State.settleClaims
  split
  · exact notes_grantOpportunity s
  · exact .refl s

theorem notes_staggerExpired (s : State) : Notes s s.staggerExpired :=
  Notes.trans (t := { s with app := s.app.idle }) ⟨rfl, rfl, List.Subset.refl _, fun _ => .inr rfl⟩
    (notes_grantOpportunity _)

/-! ### The actuators settled (R110) -/

theorem armFlow_flow_other {p q : Pump} (other : q ≠ p) (s : State) :
    (s.armFlow p).cool.flow.get q = s.cool.flow.get q := by
  have set (f : FlowCheck) : (s.setFlow p f).cool.flow.get q = s.cool.flow.get q := by
    rw [setFlow_flow, PerPump.get_set, if_neg other]
  unfold State.armFlow
  simp only
  repeat' split
  all_goals first
    | exact set _
    | rfl

theorem zonePump_eq {z : Zone} {p : Pump} : zonePump z = some p ↔ z = pumpZone p := by
  cases z <;> cases p <;> decide

theorem refreshActuator_zones (s : State) (z w : Zone) :
    (s.refreshActuator z).cool.zones.get w = if w = z then (s.refreshActuator z).cool.zones.get z
      else s.cool.zones.get w := by
  split
  · next own => rw [own]
  · next other =>
    unfold State.refreshActuator
    simp only
    split
    · exact PerZone.get_set_other _ _ other
    · rw [armFlow_zones]
      exact PerZone.get_set_other _ _ other

/-- Another actuator's settling leaves a pump's flow check. -/
theorem refreshActuator_flow_other {z : Zone} {p : Pump} (other : z ≠ pumpZone p) (s : State) :
    (s.refreshActuator z).cool.flow.get p = s.cool.flow.get p := by
  unfold State.refreshActuator
  simp only
  split
  · rfl
  · next q pump =>
    have pumps : p ≠ q := by
      rintro rfl
      exact other (zonePump_eq.mp pump)
    exact armFlow_flow_other pumps _

theorem refreshActuator_app (s : State) (z : Zone) : (s.refreshActuator z).app = s.app :=
  changes_refreshActuator s z .app (by decide)

theorem refreshActuator_isHeld (s : State) (z : Zone) (i : Fin 16) : (s.refreshActuator z).isHeld i = s.isHeld i := by
  rw [State.isHeld, State.isHeld, refreshActuator_app]

theorem refreshActuator_demand (s : State) (z w : Zone) :
    ((s.refreshActuator z).cool.zones.get w).actuatorDemand = (s.cool.zones.get w).actuatorDemand := by
  rw [refreshActuator_zones]
  split
  · next own => rw [refreshActuator_zone, own]
  · rfl

theorem settleActuators_demand (s : State) (w : Zone) :
    (s.settleActuators.cool.zones.get w).actuatorDemand = (s.cool.zones.get w).actuatorDemand := by
  unfold State.settleActuators
  generalize (consumerOrder.filter fun z => s.ev.actuators.contains z) = zs
  induction zs generalizing s with
  | nil => rfl
  | cons z zs ih => exact (ih (s.refreshActuator z)).trans (refreshActuator_demand s z w)

end

/-! ### A flow check that is not FAILED, its line active (R112) -/

section
variable {s t u : State} {p : Pump}

/-- The flow check of a pump whose line is active, as its arming has it: FLOWING where armed, else IDLE (R112). -/
def State.ArmedFlow (p : Pump) (s : State) : Prop :=
  s.cool.flow.get p =
    if s.isHeld (homeSlot (pumpZone p)) = true ∧ 1 ≤ (s.cool.zones.get (pumpZone p)).effective then ⟨.flowing, none⟩
    else ⟨.idle, none⟩

/-- A flow check whose line is active, between the acts of an event: armed as it should be, or its actuator noted. -/
structure State.FlowFollows (p : Pump) (s : State) : Prop where
  line : s.level (pumpLine p) = true
  flow : s.cool.flow.get p = ⟨.flowing, none⟩ ∨ s.cool.flow.get p = ⟨.idle, none⟩
  armed : pumpZone p ∈ s.ev.actuators ∨ s.ArmedFlow p

theorem State.ArmedFlow.flow (h : s.ArmedFlow p) :
    s.cool.flow.get p = ⟨.flowing, none⟩ ∨ s.cool.flow.get p = ⟨.idle, none⟩ := by
  unfold State.ArmedFlow at h
  split at h
  · exact .inl h
  · exact .inr h

theorem State.ArmedFlow.congr (h : s.ArmedFlow p) (cool : t.cool = s.cool)
    (held : t.isHeld (homeSlot (pumpZone p)) = s.isHeld (homeSlot (pumpZone p))) : t.ArmedFlow p := by
  unfold State.ArmedFlow
  rw [cool, held]
  exact h

theorem State.FlowFollows.notes (h : s.FlowFollows p) (n : Notes s t) : t.FlowFollows p where
  line := by rw [State.level, n.inputs]; exact h.line
  flow := by rw [n.cool]; exact h.flow
  armed := by
    rcases n.homes (pumpZone p) with noted | same
    · exact .inl noted
    · exact h.armed.imp (fun mem => n.noted mem) fun armed => armed.congr n.cool same

/-- The check of an active line, not FAILED, follows its arming (R112). -/
theorem armFlow_armed (line : s.level (pumpLine p) = true)
    (flow : s.cool.flow.get p = ⟨.flowing, none⟩ ∨ s.cool.flow.get p = ⟨.idle, none⟩) : (s.armFlow p).ArmedFlow p := by
  have app : (s.armFlow p).app = s.app := changes_armFlow s p .app (by decide)
  have held : (s.armFlow p).isHeld (homeSlot (pumpZone p)) = s.isHeld (homeSlot (pumpZone p)) := by
    rw [State.isHeld, State.isHeld, app]
  unfold State.ArmedFlow
  rw [armFlow_zones, held]
  unfold State.armFlow
  by_cases armed : s.isHeld (homeSlot (pumpZone p)) = true ∧ 1 ≤ (s.cool.zones.get (pumpZone p)).effective
  · rcases flow with flow | flow <;> simp [flow, line, armed]
  · have unarmed : (s.isHeld (homeSlot (pumpZone p)) &&
        decide (1 ≤ (s.cool.zones.get (pumpZone p)).effective)) = false := by simpa using armed
    rcases flow with flow | flow <;> simp only [flow, unarmed, armed] <;> simp [flow]

/-- Its own actuator settled, a flow check is as its arming has it. -/
theorem refreshActuator_armed (line : s.level (pumpLine p) = true)
    (flow : s.cool.flow.get p = ⟨.flowing, none⟩ ∨ s.cool.flow.get p = ⟨.idle, none⟩) :
    (s.refreshActuator (pumpZone p)).ArmedFlow p := by
  have pump : zonePump (pumpZone p) = some p := zonePump_eq.mpr rfl
  unfold State.refreshActuator
  simp only [pump]
  exact armFlow_armed (s := s.setZone _ _) line flow

theorem foldl_refreshActuator_armed {zs : List Zone} (line : s.level (pumpLine p) = true)
    (flow : s.cool.flow.get p = ⟨.flowing, none⟩ ∨ s.cool.flow.get p = ⟨.idle, none⟩)
    (armed : pumpZone p ∈ zs ∨ s.ArmedFlow p) : (zs.foldl State.refreshActuator s).ArmedFlow p := by
  induction zs generalizing s with
  | nil => exact armed.resolve_left List.not_mem_nil
  | cons z zs ih =>
    have level : (s.refreshActuator z).level (pumpLine p) = true := by
      rw [State.level, changes_refreshActuator s z .inputs (by decide)]
      exact line
    by_cases own : z = pumpZone p
    · subst own
      have settled := refreshActuator_armed line flow
      exact ih level settled.flow (.inr settled)
    · have same := refreshActuator_flow_other own s
      refine ih level (by rw [same]; exact flow) (armed.imp (fun mem => ?_) fun armed => ?_)
      · exact (List.mem_cons.mp mem).resolve_left (Ne.symm own)
      · unfold State.ArmedFlow
        rw [same, refreshActuator_zones, if_neg (Ne.symm own), refreshActuator_isHeld]
        exact armed

theorem State.FlowFollows.settleActuators (h : s.FlowFollows p) : s.settleActuators.ArmedFlow p := by
  refine foldl_refreshActuator_armed h.line h.flow (h.armed.imp_left fun mem => ?_)
  refine List.mem_filter.mpr ⟨?_, by simpa using mem⟩
  cases p <;> decide

theorem State.FlowFollows.closeEvent (h : s.FlowFollows p) (before : State) :
    (closeEvent before s).level (pumpLine p) = true ∧ (closeEvent before s).ArmedFlow p := by
  have claims := h.notes (notes_settleClaims s)
  have app : s.settle.app = s.settleClaims.settleActuators.app := changes_setTripReason _ .app (by decide)
  have settled : s.settle.ArmedFlow p :=
    claims.settleActuators.congr (changes_setTripReason _ .cool (by decide)) (by rw [State.isHeld, State.isHeld, app])
  refine ⟨?_, settled⟩
  rw [State.level, changes_closeEvent before s .inputs (by decide)]
  exact h.line

/-- At the end of the event, and of the stagger expiries that follow it at once, the check is as its arming has it. -/
theorem State.FlowFollows.finishEvent (h : s.FlowFollows p) (noted : s.settle.ev.zeroHolds ⊆ []) (before : State) :
    (finishEvent before s).ArmedFlow p :=
  (finishEvent_induct_noted (P := fun u => u.level (pumpLine p) = true ∧ u.ArmedFlow p) (h.closeEvent before)
    (fun _ _ mem => absurd (noted mem) List.not_mem_nil)
    fun u ⟨line, armed⟩ => State.FlowFollows.closeEvent
      (State.FlowFollows.notes ⟨line, armed.flow, .inr armed⟩ (notes_staggerExpired u)) u).2

/-! ### The actuator demand, and a check that is FAILED -/

theorem finishEvent_demand (noted : s.settle.ev.zeroHolds ⊆ []) (before : State) (z : Zone) :
    ((finishEvent before s).cool.zones.get z).actuatorDemand = (s.cool.zones.get z).actuatorDemand := by
  have close (b u : State) :
      ((closeEvent b u).cool.zones.get z).actuatorDemand = (u.cool.zones.get z).actuatorDemand := by
    have cool : (closeEvent b u).cool = u.settleClaims.settleActuators.cool := changes_setTripReason _ .cool (by decide)
    rw [cool, settleActuators_demand, (notes_settleClaims u).cool]
  refine finishEvent_induct_noted
    (P := fun u => (u.cool.zones.get z).actuatorDemand = (s.cool.zones.get z).actuatorDemand) (close before s)
    (fun _ _ mem => absurd (noted mem) List.not_mem_nil) fun u same => ?_
  rw [close, (notes_staggerExpired u).cool]
  exact same

/-- FAILED is not left by the arming (R112). -/
theorem refreshActuator_failed (failed : s.cool.flow.get p = ⟨.failed, none⟩) (z : Zone) :
    (s.refreshActuator z).cool.flow.get p = ⟨.failed, none⟩ := by
  by_cases own : z = pumpZone p
  · have pump : zonePump z = some p := zonePump_eq.mpr own
    unfold State.refreshActuator State.armFlow
    simp [pump, failed]
  · rw [refreshActuator_flow_other own, failed]

theorem finishEvent_failed (noted : s.settle.ev.zeroHolds ⊆ []) (failed : s.cool.flow.get p = ⟨.failed, none⟩)
    (before : State) : (finishEvent before s).cool.flow.get p = ⟨.failed, none⟩ := by
  have settles (u : State) (h : u.cool.flow.get p = ⟨.failed, none⟩) :
      u.settleActuators.cool.flow.get p = ⟨.failed, none⟩ := by
    unfold State.settleActuators
    generalize (consumerOrder.filter fun z => u.ev.actuators.contains z) = zs
    induction zs generalizing u with
    | nil => exact h
    | cons z zs ih => exact ih _ (refreshActuator_failed h z)
  have close (b u : State) (h : u.cool.flow.get p = ⟨.failed, none⟩) :
      (closeEvent b u).cool.flow.get p = ⟨.failed, none⟩ := by
    have cool : (closeEvent b u).cool = u.settleClaims.settleActuators.cool := changes_setTripReason _ .cool (by decide)
    rw [cool]
    exact settles _ (by rw [(notes_settleClaims u).cool]; exact h)
  refine finishEvent_induct_noted (P := fun u => u.cool.flow.get p = ⟨.failed, none⟩) (close before s failed)
    (fun _ _ mem => absurd (noted mem) List.not_mem_nil) fun u h => close u _ ?_
  rw [(notes_staggerExpired u).cool]
  exact h

/-! ### The proof of the converter's pump (R82) -/

/-- While FLOW_CONV is active, the converter's pump is proven where slot 1 is HELD. -/
def State.ProvesFlow (s : State) : Prop :=
  s.level .flowConv = true ∧ (s.isHeld 1 = true → s.conv.flowProven = true)

theorem State.ProvesFlow.homesStay (h : s.ProvesFlow) (k : HomesStay s t) : t.ProvesFlow := by
  obtain ⟨line, proven⟩ := h
  have held : t.isHeld 1 = s.isHeld 1 := k.homes .conv
  unfold State.ProvesFlow State.level
  rw [k.rest .inputs (by decide), k.proven, held]
  exact ⟨line, proven⟩

/-- A claim of slot 1 that becomes HELD while the line is active proves the pump at once. -/
theorem State.ProvesFlow.tellOwners (h : s.ProvesFlow) (move : ClaimsMove s t) : (State.tellOwners s t).ProvesFlow := by
  obtain ⟨line, proven⟩ := h
  have conv : t.conv = s.conv := move.rest .conv (by decide)
  have inputs : t.inputs = s.inputs := move.rest .inputs (by decide)
  have told : (State.tellConverter s (State.tellCooling s t)).ProvesFlow := by
    change State.ProvesFlow (State.tellConverter s (t.noteActuators _))
    generalize noted : t.noteActuators (consumerOrder.filter fun z => claimMoved s t (homeSlot z)) = v
    have level : v.level .flowConv = true := by rw [← noted, State.level, noteActuators_inputs, inputs]; exact line
    have same : v.conv = s.conv := by rw [← noted]; exact conv
    unfold State.tellConverter
    split
    · exact ⟨level, fun _ => level⟩
    · next notNew =>
      split
      · next left =>
        simp only [Bool.and_eq_true, Bool.not_eq_true'] at left
        have dropped : State.ProvesFlow { v with conv := { v.conv with flowProven := false } } :=
          ⟨level, fun held => absurd held (by change v.isHeld 1 ≠ true; rw [left.2]; exact nofun)⟩
        simp only
        split
        · exact dropped.homesStay (homesStay_report _ _)
        · exact dropped
      · refine ⟨level, fun held => ?_⟩
        rw [same]
        simp only [held, Bool.and_true, Bool.not_eq_true', Bool.not_eq_false] at notNew
        exact proven notNew
  exact told.homesStay (yawActs_tellYaw s _).homesStay

theorem State.ProvesFlow.grantOpportunity (h : s.ProvesFlow) : s.grantOpportunity.ProvesFlow := by
  unfold State.grantOpportunity
  split
  · exact h.tellOwners (claimsMove_apportionStarting s _)
  · exact h

theorem State.ProvesFlow.closeEvent (h : s.ProvesFlow) (before : State) : (closeEvent before s).ProvesFlow := by
  have claims : s.settleClaims.ProvesFlow := by
    unfold State.settleClaims
    split
    · exact h.grantOpportunity
    · exact h
  obtain ⟨line, proven⟩ := claims
  have settled := changes_settleActuators s.settleClaims
  have same : s.settleClaims.settleActuators.ProvesFlow := by
    unfold State.ProvesFlow State.level State.isHeld
    rw [settled .inputs (by decide), settled .app (by decide), settled .conv (by decide)]
    exact ⟨line, proven⟩
  change s.settleClaims.settleActuators.setTripReason.ProvesFlow
  unfold State.setTripReason
  split
  · exact same
  · exact same

theorem State.ProvesFlow.finishEvent (h : s.ProvesFlow) (noted : s.settle.ev.zeroHolds ⊆ []) (before : State) :
    (finishEvent before s).ProvesFlow :=
  finishEvent_induct_noted (P := State.ProvesFlow) (h.closeEvent before)
    (fun _ _ mem => absurd (noted mem) List.not_mem_nil)
    fun u p => (State.ProvesFlow.grantOpportunity (s := { u with app := u.app.idle }) (by exact p)).closeEvent u

end

end Sys2Proof.Machine
end

section
/-!
The flow lines and the flow timers (R82, R112 to R114).
-/
namespace Sys2Proof.Machine

section
variable {s : State} {p : Pump}

/-! ### A flow line -/

/-- A flow line becomes active: the flow check first, then for the converter's pump its proof (R82, R112, R114). -/
def State.flowRises (p : Pump) (s : State) : State :=
  match p with
  | .conv => (s.flowChanged .conv true).proveFlow
  | .gen => s.flowChanged .gen true

theorem filterExpired_flow_rises (raw : s.inputs.raw.get (pumpLine p) = true) :
    s.filterExpired (pumpLine p) = (s.filtered (pumpLine p)).flowRises p := by
  unfold State.filterExpired
  simp only [raw]
  unfold State.filtered
  rw [raw]
  cases p <;> rfl

theorem filterExpired_flow_falls (raw : s.inputs.raw.get (pumpLine p) = false) :
    s.filterExpired (pumpLine p) = (s.filtered (pumpLine p)).flowChanged p false := by
  unfold State.filterExpired
  simp only [raw]
  unfold State.filtered
  rw [raw]
  cases p <;> rfl

/-! The flow check at each change of its line (R112, R114). -/

theorem flowChanged_idle (idle : (s.cool.flow.get p).state = .idle) (active : Bool) : s.flowChanged p active = s := by
  simp only [State.flowChanged, idle]

theorem flowChanged_rises (waits : (s.cool.flow.get p).state = .awaiting ∨ (s.cool.flow.get p).state = .flowing) :
    s.flowChanged p true = s.setFlow p ⟨.flowing, none⟩ := by
  rcases waits with state | state <;> simp [State.flowChanged, state]

theorem flowChanged_recovers (failed : (s.cool.flow.get p).state = .failed) :
    s.flowChanged p true = s.flowRecovered p := by
  simp [State.flowChanged, failed]

theorem flowChanged_falls (s : State) (p : Pump) :
    s.flowChanged p false =
      if (s.cool.flow.get p).state = .flowing then
        s.setFlow p ⟨.flowing, some (1000 * s.setting Setting.flowLossTime)⟩ else s := by
  cases state : (s.cool.flow.get p).state <;> simp [State.flowChanged, state]

/-- The proof of the pump on top of a flow check (R82). -/
theorem flowRises_eq (s : State) (p : Pump) :
    s.flowRises p = (s.flowChanged p true) ∨ p = .conv ∧ s.flowRises p = (s.flowChanged p true).proveFlow := by
  cases p
  · exact .inr ⟨rfl, rfl⟩
  · exact .inl rfl

theorem changes_flowRises (s : State) (p : Pump) : Changes [.conv] (s.flowChanged p true) (s.flowRises p) := by
  rcases flowRises_eq s p with same | ⟨-, proved⟩
  · rw [same]
    exact Changes.refl _ _
  · rw [proved]
    exact changes_proveFlow _

theorem proveFlow_conv (s : State) :
    s.proveFlow.conv = { s.conv with flowProven := s.conv.flowProven || s.isHeld 1 } := by
  unfold State.proveFlow
  split
  · next held => simp [held]
  · next free => simp [free]

/-! ### A line that becomes active, the check not FAILED -/

/-- The flow check is FLOWING, or left IDLE; nothing is gathered. -/
theorem changes_flowRises_sound (sound : (s.cool.flow.get p).state ≠ .failed) :
    Changes [.cool, .conv] s (s.flowRises p) := by
  refine Changes.trans ?_ (changes_flowRises s p).mono
  cases state : (s.cool.flow.get p).state with
  | failed => exact absurd state sound
  | idle =>
    rw [flowChanged_idle state]
    exact Changes.refl _ s
  | awaiting =>
    rw [flowChanged_rises (.inl state)]
    exact (changes_setFlow s _ _).mono
  | flowing =>
    rw [flowChanged_rises (.inr state)]
    exact (changes_setFlow s _ _).mono

theorem flowRises_conv_sound (sound : (s.cool.flow.get .conv).state ≠ .failed) :
    (s.flowRises .conv).conv = { s.conv with flowProven := s.conv.flowProven || s.isHeld 1 } := by
  have same : (s.flowChanged .conv true).conv = s.conv ∧ (s.flowChanged .conv true).isHeld 1 = s.isHeld 1 := by
    cases state : (s.cool.flow.get .conv).state with
    | failed => exact absurd state sound
    | idle => rw [flowChanged_idle state]; exact ⟨rfl, rfl⟩
    | awaiting => rw [flowChanged_rises (.inl state)]; exact ⟨rfl, rfl⟩
    | flowing => rw [flowChanged_rises (.inr state)]; exact ⟨rfl, rfl⟩
  obtain ⟨conv, held⟩ := same
  change (s.flowChanged .conv true).proveFlow.conv = _
  rw [proveFlow_conv, conv, held]

/-- With FLOW_CONV active, its rise proves the pump that slot 1 holds (R82). -/
theorem provesFlow_flowRises (line : s.level .flowConv = true) : (s.flowRises .conv).ProvesFlow := by
  have inputs : (s.flowRises .conv).inputs = s.inputs :=
    (changes_flowRises s .conv .inputs (by decide)).trans (changes_flowChanged s _ _ .inputs (by decide))
  have held : (s.flowRises .conv).isHeld 1 = (s.flowChanged .conv true).isHeld 1 := by
    rw [State.isHeld, State.isHeld, changes_flowRises s .conv .app (by decide)]
  have conv : (s.flowRises .conv).conv = (s.flowChanged .conv true).proveFlow.conv := rfl
  refine ⟨by rw [State.level, inputs]; exact line, fun isHeld => ?_⟩
  rw [conv, proveFlow_conv, ← held, isHeld]
  exact Bool.or_true _

/-! ### A loss of flow, and its end (R113, R114) -/

/-- The flow check set, its report made, its actuator's demand recomputed. -/
def State.flowReported (p : Pump) (f : FlowCheck) (rep : Report) (s : State) : State :=
  (s.setFlow p f).report [(Cond.pumpNoFlow p, rep)]

theorem flowLost_eq (s : State) (p : Pump) :
    s.flowLost p = (s.flowReported p ⟨.failed, none⟩ .arrives).driveActuators [pumpZone p] := rfl

theorem flowRecovered_eq (s : State) (p : Pump) :
    s.flowRecovered p = (s.flowReported p ⟨.idle, none⟩ .goes).driveActuators [pumpZone p] := rfl

theorem flowReported_cool (s : State) (p : Pump) (f : FlowCheck) (rep : Report) :
    (s.flowReported p f rep).cool = (s.setFlow p f).cool := changes_report _ _ .cool (by decide)

theorem keeps_flowReported (s : State) (p : Pump) (f : FlowCheck) (rep : Report) :
    Keeps (Cond.pumpNoFlow p :: ownerRecs) [] s ((s.flowReported p f rep).driveActuators [pumpZone p]) := by
  have report : Keeps (Cond.pumpNoFlow p :: claimRecs) [] (s.setFlow p f) (s.flowReported p f rep) :=
    keeps_report _ [(Cond.pumpNoFlow p, rep)]
  refine ((keeps_setFlow s p f).mono (List.nil_subset _)).trans ((report.mono ?_).trans
    ((keeps_driveActuators _ _).mono (List.subset_cons_self _ _)))
  cases p <;> decide

theorem keeps_flowRises (s : State) (p : Pump) : Keeps (Cond.pumpNoFlow p :: ownerRecs) [] s (s.flowRises p) := by
  have set (f : FlowCheck) : Keeps (Cond.pumpNoFlow p :: ownerRecs) [] s (s.setFlow p f) :=
    (keeps_setFlow s p f).mono (List.nil_subset _)
  have changed : Keeps (Cond.pumpNoFlow p :: ownerRecs) [] s (s.flowChanged p true) := by
    cases state : (s.cool.flow.get p).state with
    | idle =>
      rw [flowChanged_idle state]
      exact Keeps.refl _ _ s
    | awaiting => exact flowChanged_rises (.inl state) ▸ set _
    | flowing => exact flowChanged_rises (.inr state) ▸ set _
    | failed => exact flowChanged_recovers state ▸ keeps_flowReported s p _ _
  exact changed.trans (.of_changes (changes_flowRises s p).mono)

/-- What the report made of PUMP_NO_FLOW, the recomputed demand leaves. -/
theorem flowReported_present (s : State) (p : Pump) (f : FlowCheck) (b : Bool) :
    (((s.flowReported p f (causeIs b)).driveActuators [pumpZone p]).cond.recs[Cond.pumpNoFlow p]).present = b := by
  rw [(keeps_driveActuators _ _).recs _ (by cases p <;> decide)]
  exact report_present (g := [(Cond.pumpNoFlow p, causeIs b)]) (List.nodup_singleton _) List.mem_cons_self
    (by cases p <;> rfl) (by cases p <;> decide)

/-- No expiry that follows reports at PUMP_NO_FLOW. -/
theorem finishEvent_pumpNoFlow {u : State} (noted : u.settle.ev.zeroHolds ⊆ []) (before : State) (p : Pump) :
    (finishEvent before u).cond.recs[Cond.pumpNoFlow p] = u.cond.recs[Cond.pumpNoFlow p] :=
  (stays_finishEvent (before := before) noted).recs _ (by cases p <;> decide)

/-! The demand recomputed. -/

/-- An actuator noted stays so while the owners are told. -/
theorem tellOwners_noted (before s : State) : s.ev.actuators ⊆ (State.tellOwners before s).ev.actuators := by
  have cooling : s.ev.actuators ⊆ (State.tellCooling before s).ev.actuators := List.subset_append_left _ _
  have conv := (notes_tellConverter before (State.tellCooling before s)).noted
  have yaw := (yawActs_tellYaw before (State.tellConverter before (State.tellCooling before s))).actuators
  exact List.Subset.trans cooling (List.Subset.trans conv (yaw ▸ List.Subset.refl _))

/-- One actuator driven: its demand recomputed, its claim asked for, and itself noted (R109, R110). -/
theorem driveActuators_single (s : State) (z : Zone) :
    (s.driveActuators [z]).cool.flow = s.cool.flow ∧
      ((s.driveActuators [z]).cool.zones.get z).actuatorDemand = s.actuatorDemand z ∧
      z ∈ (s.driveActuators [z]).ev.actuators ∧ (s.driveActuators [z]).inputs = s.inputs := by
  have asked : (s.askActuator z).cool =
      (s.setZone z { s.cool.zones.get z with actuatorDemand := s.actuatorDemand z }).cool :=
    changes_engineRequest _ _ _ .cool (by decide)
  have told := changes_tellOwners s ((s.askActuator z).noteActuators [z])
  have cool : (s.driveActuators [z]).cool = (s.askActuator z).cool := told .cool (by decide)
  refine ⟨by rw [cool, asked]; rfl, ?_, ?_, changes_driveActuators s [z] .inputs (by decide)⟩
  · rw [cool, asked, setZone_zones, PerZone.get_set_self]
  · exact tellOwners_noted s _ (List.mem_append_right _ List.mem_cons_self)

theorem actuatorDemand_pump (s : State) (p : Pump) :
    s.actuatorDemand (pumpZone p) =
      max (if (s.cool.flow.get p).state = .failed then 1 else 0) (s.cool.zones.get (pumpZone p)).demand := by
  cases p <;> rfl

/-- FAILED, the proving minimum raises the demand to 1 at least (R113). -/
theorem flowLost_cool (s : State) (p : Pump) :
    (s.flowLost p).cool.flow.get p = ⟨.failed, none⟩ ∧
      1 ≤ ((s.flowLost p).cool.zones.get (pumpZone p)).actuatorDemand := by
  obtain ⟨flow, demand, -⟩ := driveActuators_single (s.flowReported p ⟨.failed, none⟩ .arrives) (pumpZone p)
  have own : (s.flowReported p ⟨.failed, none⟩ .arrives).cool.flow.get p = ⟨.failed, none⟩ := by
    rw [flowReported_cool, setFlow_flow, PerPump.get_set_self]
  rw [flowLost_eq, flow, demand, actuatorDemand_pump, own]
  exact ⟨rfl, le_max_left _ _⟩

/-- The fault ended, the proving minimum is lifted and the check waits for its arming (R114). -/
theorem flowRecovered_cool (line : s.level (pumpLine p) = true) :
    (s.flowRecovered p).FlowFollows p ∧
      ((s.flowRecovered p).cool.zones.get (pumpZone p)).actuatorDemand = (s.cool.zones.get (pumpZone p)).demand := by
  obtain ⟨flow, demand, noted, inputs⟩ :=
    driveActuators_single (s.flowReported p ⟨.idle, none⟩ .goes) (pumpZone p)
  have own : (s.flowReported p ⟨.idle, none⟩ .goes).cool.flow.get p = ⟨.idle, none⟩ := by
    rw [flowReported_cool, setFlow_flow, PerPump.get_set_self]
  have same : (s.flowReported p ⟨.idle, none⟩ .goes).inputs = s.inputs := changes_report _ _ .inputs (by decide)
  rw [flowRecovered_eq]
  refine ⟨⟨?_, .inr (by rw [flow, own]), .inl noted⟩, ?_⟩
  · rw [State.level, inputs, same]
    exact line
  · rw [demand, actuatorDemand_pump, own, flowReported_cool]
    exact Nat.zero_max _

theorem flowRises_recovers (line : s.level (pumpLine p) = true) (failed : (s.cool.flow.get p).state = .failed) :
    (s.flowRises p).FlowFollows p ∧
      ((s.flowRises p).cool.zones.get (pumpZone p)).actuatorDemand = (s.cool.zones.get (pumpZone p)).demand := by
  obtain ⟨follows, demand⟩ := flowRecovered_cool line
  have proves := changes_flowRises s p
  rw [flowChanged_recovers failed] at proves
  have cool : (s.flowRises p).cool = (s.flowRecovered p).cool := proves .cool (by decide)
  refine ⟨follows.notes ⟨cool, proves .inputs (by decide), ?_, fun z => .inr ?_⟩, by rw [cool]; exact demand⟩
  · rw [(proves .ev (by decide) : (s.flowRises p).ev = _)]
    exact List.Subset.refl _
  · rw [State.isHeld, State.isHeld, proves .app (by decide)]

/-! ### The events -/

theorem exec_flowTimer {c : Instr} (b : Between s)
    (which : c = .flowWindowExpiry p ∧ (s.cool.flow.get p).state = .awaiting ∨
      c = .flowLossTimerExpiry p ∧ (s.cool.flow.get p).state = .flowing)
    (runs : (s.cool.flow.get p).left.isSome = true) : exec c s = .next (finishEvent s (s.flowLost p)) := by
  rcases which with ⟨rfl, state⟩ | ⟨rfl, state⟩
  · exact expiry_of_running (running := fun s => s.flowRuns p .awaiting) b.1 (by simp [State.flowRuns, runs, state])
  · exact expiry_of_running (running := fun s => s.flowRuns p .flowing) b.1 (by simp [State.flowRuns, runs, state])

/-- An event that gathers nothing ends with the Cooling Controller and the converter as its own operation left them. -/
theorem finishEvent_cool_conv_quiet (quiet : s.ev.Quiet) (before : State) :
    (finishEvent before s).cool = s.cool ∧ (finishEvent before s).conv = s.conv := by
  have same := changes_finishEvent_quiet (before := before) quiet
  exact ⟨same .cool (by decide), same .conv (by decide)⟩

/-- The line rises, the check not FAILED: nothing but the check, and the pump's proof, moves (R82, R112). -/
theorem flowRises_event_sound {w : State} (b : Between s) (line : Changes [.inputs] s w)
    (sound : (s.cool.flow.get p).state ≠ .failed) :
    (finishEvent s (w.flowRises p)).cool = (w.flowChanged p true).cool ∧
      (finishEvent s (w.flowRises p)).conv = (w.flowRises p).conv ∧
      Changes [.inputs, .cool, .conv, .out, .revs] s (finishEvent s (w.flowRises p)) := by
  have cool : w.cool = s.cool := line .cool (by decide)
  have rises := changes_flowRises_sound (s := w) (p := p) (by rw [cool]; exact sound)
  have own : Changes [.inputs, .cool, .conv] s (w.flowRises p) := line.mono.trans rises.mono
  have quiet : (w.flowRises p).ev.Quiet := (own .ev (by decide) : _ = s.ev) ▸ quiet_of_between b
  obtain ⟨endCool, endConv⟩ := finishEvent_cool_conv_quiet quiet s
  exact ⟨endCool.trans (changes_flowRises w p .cool (by decide)), endConv, changes_event_quiet b own s⟩

/-- No expiry of a HOLD timer follows the rise of the line. -/
theorem flowRises_noted {w : State} (b : Between s) (line : Changes [.inputs] s w) :
    (w.flowRises p).settle.ev.zeroHolds ⊆ [] := by
  have free : w.ev.zeroHolds = [] := by
    rw [(line .ev (by decide) : w.ev = s.ev), b.2]
    rfl
  exact settle_zeroHolds (keeps_flowRises w p) free

/-- The line rises, the check FAILED: the fault goes, the demand with it, and the check follows its arming (R114). -/
theorem flowRises_event_failed {w : State} (b : Between s) (line : Changes [.inputs] s w)
    (active : w.level (pumpLine p) = true) (failed : (w.cool.flow.get p).state = .failed) :
    ((finishEvent s (w.flowRises p)).cond.recs[Cond.pumpNoFlow p]).present = false ∧
      ((finishEvent s (w.flowRises p)).cool.zones.get (pumpZone p)).actuatorDemand =
        (w.cool.zones.get (pumpZone p)).demand ∧ (finishEvent s (w.flowRises p)).ArmedFlow p := by
  have noted := flowRises_noted (p := p) b line
  obtain ⟨follows, demand⟩ := flowRises_recovers active failed
  have proves := changes_flowRises w p
  rw [flowChanged_recovers failed] at proves
  refine ⟨?_, by rw [finishEvent_demand noted, demand], follows.finishEvent noted s⟩
  rw [finishEvent_pumpNoFlow noted, proves .cond (by decide)]
  exact flowReported_present w p _ false

/-- The line falls: a FLOWING check waits for its loss timer, another stands (R112, R113). -/
theorem flowFalls_event {w : State} (b : Between s) (line : Changes [.inputs] s w) :
    (finishEvent s (w.flowChanged p false)).cool.flow.get p =
        (if (s.cool.flow.get p).state = .flowing then
          ⟨.flowing, some (1000 * s.setting Setting.flowLossTime)⟩ else s.cool.flow.get p) ∧
      Changes [.inputs, .cool, .out, .revs] s (finishEvent s (w.flowChanged p false)) := by
  have cool : w.cool = s.cool := line .cool (by decide)
  have setting : w.setting Setting.flowLossTime = s.setting Setting.flowLossTime := by
    rw [State.setting, State.setting, line .store (by decide)]
  have falls : Changes [.cool] w (w.flowChanged p false) := by
    rw [flowChanged_falls]
    split
    · exact changes_setFlow w _ _
    · exact Changes.refl _ w
  have own : Changes [.inputs, .cool] s (w.flowChanged p false) := line.mono.trans falls.mono
  have quiet : (w.flowChanged p false).ev.Quiet := (own .ev (by decide) : _ = s.ev) ▸ quiet_of_between b
  refine ⟨?_, changes_event_quiet b own s⟩
  rw [(finishEvent_cool_conv_quiet quiet s).1, flowChanged_falls, cool, setting]
  split
  · rw [setFlow_flow, PerPump.get_set_self]
  · rw [cool]

theorem armedFlow_iff : s.ArmedFlow p ↔ s.cool.flow.get p =
    if (s.claim (homeSlot (pumpZone p))).state = .held ∧ 1 ≤ (s.cool.zones.get (pumpZone p)).effective then
      ⟨.flowing, none⟩ else ⟨.idle, none⟩ := by
  unfold State.ArmedFlow
  simp only [isHeld_iff]

end

/-- Settles O56: the line and the timers at the flow check, and what the end of the event makes of them: the check follows
its arming (`FlowFollows`), and the pump's proof follows the claim (`ProvesFlow`). -/
theorem flowIsLost : Obligations.FlowIsLost := by
  unfold Obligations.FlowIsLost
  intro s p c l b
  refine ⟨?_, fun which runs => ?_⟩
  · rintro rfl runs
    refine ⟨fun raw => ⟨_, exec_filterTimerExpiry b runs, ?_⟩, fun raw => ⟨_, exec_filterTimerExpiry b runs, ?_⟩⟩
    · have active : (s.filtered (pumpLine p)).level (pumpLine p) = true := (filtered_level _ s).trans raw
      have line := changes_filtered (pumpLine p) s
      rw [filterExpired_flow_rises raw]
      generalize s.filtered (pumpLine p) = w at *
      have cool : w.cool = s.cool := line .cool (by decide)
      have conv : w.conv = s.conv := line .conv (by decide)
      have held : w.isHeld 1 = s.isHeld 1 := by rw [State.isHeld, State.isHeld, line .app (by decide)]
      refine ⟨fun idle => ?_, fun waits => ?_, fun failed => ?_, ?_, ?_, ?_⟩
      · obtain ⟨same, -, -⟩ := flowRises_event_sound (p := p) b line (by rw [idle]; exact nofun)
        rw [same, flowChanged_idle (by rw [cool]; exact idle), cool]
      · obtain ⟨same, -, rest⟩ :=
          flowRises_event_sound (p := p) b line (by rcases waits with h | h <;> rw [h] <;> exact nofun)
        refine ⟨?_, rest .app (by decide), rest .cond (by decide)⟩
        rw [same, flowChanged_rises (by rw [cool]; exact waits), setFlow_flow, PerPump.get_set_self]
      · obtain ⟨present, demand, armed⟩ := flowRises_event_failed b line active (by rw [cool]; exact failed)
        exact ⟨present, by rw [demand, cool], armedFlow_iff.mp armed⟩
      · rintro rfl sound
        obtain ⟨-, same, -⟩ := flowRises_event_sound b line sound
        rw [same, flowRises_conv_sound (by rw [cool]; exact sound), conv, held]
      · rintro rfl claim
        exact ((provesFlow_flowRises active).finishEvent (flowRises_noted b line) s).2 ((isHeld_iff _ 1).mpr claim)
      · have changed : Changes ownerPieces w (w.flowRises p) :=
          (changes_flowChanged w p true).trans (changes_flowRises w p).mono
        have own : Changes (.inputs :: ownerPieces) s (w.flowRises p) := line.mono.trans changed.mono
        exact changes_event b own s
    · have line := changes_filtered (pumpLine p) s
      rw [filterExpired_flow_falls raw]
      exact flowFalls_event b line
  · obtain ⟨failed, demand⟩ := flowLost_cool s p
    have noted : (s.flowLost p).settle.ev.zeroHolds ⊆ [] :=
      settle_zeroHolds (keeps_flowReported s p ⟨.failed, none⟩ .arrives) (congrArg Scratch.zeroHolds b.2)
    refine ⟨_, exec_flowTimer b which runs, finishEvent_failed noted failed s, ?_, ?_, changes_event b (changes_flowLost s p) s⟩
    · rw [finishEvent_pumpNoFlow noted]
      exact flowReported_present s p _ true
    · rw [finishEvent_demand noted]
      exact demand

end Sys2Proof.Machine
end

section
/-!
CHARGE (R79): an event that the converter, not delivering, spends untouched but for its pump's proof, and what such an
event leaves where the stagger timer runs (R34, R47, R82, R103).
-/
namespace Sys2Proof.Machine

section
variable {s t u : State}

/-! ### The converter spared -/

/-- From `s` to `t` the converter keeps all but its pump's proof, and no consequence comes into force or goes. -/
structure Spares (s t : State) : Prop where
  conv : t.conv = { s.conv with flowProven := t.conv.flowProven }
  inForce : t.cond.inForce = s.cond.inForce
  told : t.cond.told = s.cond.told
  tripped : t.ev.tripped = s.ev.tripped

theorem Spares.refl (s : State) : Spares s s := ⟨rfl, rfl, rfl, rfl⟩

theorem Spares.trans (h : Spares s t) (k : Spares t u) : Spares s u :=
  ⟨by rw [k.conv, h.conv], k.inForce.trans h.inForce, k.told.trans h.told, k.tripped.trans h.tripped⟩

theorem Spares.of_pieces (conv : t.conv = s.conv) (cond : t.cond = s.cond) (tripped : t.ev.tripped = s.ev.tripped) :
    Spares s t :=
  ⟨by rw [conv], by rw [cond], by rw [cond], tripped⟩

/-- What the Load Apportioner and the Cooling Controller do to their own parts. -/
theorem Spares.of_changes (h : Changes [.app, .cool] s t) : Spares s t :=
  .of_pieces (h .conv (by decide)) (h .cond (by decide)) (by rw [h .ev (by decide)])

theorem ClaimsMove.spares (h : ClaimsMove s t) : Spares s t :=
  ⟨by rw [h.rest .conv (by decide)], h.inForce, h.told, h.tripped⟩

theorem YawActs.spares (h : YawActs s t) : Spares s t :=
  ⟨by rw [h.rest .conv (by decide)], h.inForce, h.told, h.tripped⟩

/-- The converter of `t` delivers only where that of `s` does. -/
theorem Spares.still (h : Spares s t) (still : s.conv.state.delivering = false) :
    t.conv.state.delivering = false := by
  rw [h.conv]
  exact still

theorem Spares.judged (h : Spares s t) (judged : Judged s) : Judged t := by
  rw [Judged, h.told, h.inForce]
  exact judged

/-- A converter that does not deliver loses at most its pump's proof with the pump's claim (R82, R95). -/
theorem tellConverter_of_still (still : s.conv.state.delivering = false) (before : State) :
    ∃ proven, State.tellConverter before s = { s with conv := { s.conv with flowProven := proven } } := by
  unfold State.tellConverter
  split
  · exact ⟨_, rfl⟩
  · split
    · simp only [still]
      exact ⟨false, rfl⟩
    · exact ⟨s.conv.flowProven, rfl⟩

theorem spares_tellOwners (still : s.conv.state.delivering = false) (before : State) :
    Spares s (State.tellOwners before s) := by
  have cooling : Spares s (State.tellCooling before s) := .of_pieces rfl rfl rfl
  obtain ⟨proven, told⟩ := tellConverter_of_still (cooling.still still) before
  have converter : Spares s (State.tellConverter before (State.tellCooling before s)) := by
    rw [told]
    exact ⟨rfl, rfl, rfl, rfl⟩
  exact converter.trans (yawActs_tellYaw before _).spares

theorem spares_askActuator (s : State) (z : Zone) : Spares s (s.askActuator z) :=
  (Spares.of_changes (changes_setZone s z _).mono).trans (claimsMove_engineRequest _ _ _).spares

theorem spares_driveActuators (still : s.conv.state.delivering = false) (homes : List Zone) :
    Spares s (s.driveActuators homes) := by
  have asks (zs : List Zone) : ∀ v : State, Spares v (zs.foldl State.askActuator v) := by
    induction zs with
    | nil => exact .refl
    | cons z zs ih => exact fun v => (spares_askActuator v z).trans (ih _)
  have noted : Spares s ((homes.foldl State.askActuator s).noteActuators homes) :=
    (asks homes s).trans (.of_pieces rfl rfl rfl)
  exact noted.trans (spares_tellOwners (noted.still still) s)

theorem spares_grantOpportunity (still : s.conv.state.delivering = false) : Spares s s.grantOpportunity := by
  unfold State.grantOpportunity
  split
  · have grants := (claimsMove_apportionStarting s (Apportioner.opportunity s.grantArgs)).spares
    exact grants.trans (spares_tellOwners (grants.still still) s)
  · exact .refl s

theorem spares_staggerExpired (still : s.conv.state.delivering = false) : Spares s s.staggerExpired := by
  have idle : Spares s { s with app := s.app.idle } := .of_pieces rfl rfl rfl
  exact idle.trans (spares_grantOpportunity (idle.still still))

/-- The end of an event in which the converter did not trip. -/
theorem spares_closeEvent (still : s.conv.state.delivering = false) (free : s.ev.tripped = false) (before : State) :
    Spares s (closeEvent before s) := by
  have claims : Spares s s.settleClaims := by
    unfold State.settleClaims
    split
    · exact spares_grantOpportunity still
    · exact .refl s
  have settled : Spares s s.settleClaims.settleActuators :=
    claims.trans (.of_changes (changes_settleActuators _).mono)
  have reason : s.settle = s.settleClaims.settleActuators := by
    rw [State.settle, State.setTripReason, settled.tripped, free]
    rfl
  have conv : (closeEvent before s).conv = s.settle.conv := rfl
  have cond : (closeEvent before s).cond = s.settle.cond := rfl
  refine settled.trans (.of_pieces (by rw [conv, reason]) (by rw [cond, reason]) ?_)
  rw [settled.tripped, free]
  rfl

/-! ### The evaluation of a zone that is not CRITICAL (R103) -/

/-- A record that carries TRIP alone puts nothing in force, and takes nothing away, where its cause goes and TRIP is not
in force. -/
theorem takeReport_goes_inForce {i : Fin 32} (carries : catalogue[i].consequences = onlyTrip)
    (free : s.cond.inForce.trip = false) : (s.takeReport i .goes).cond.inForce = s.cond.inForce := by
  have trip : (s.takeReport i .goes).cond.inForceBy (·.trip) = s.cond.inForceBy (·.trip) := by
    have faded := fades_takeReport_goes s i (·.trip)
    have before : s.cond.inForceBy (·.trip) = false := free
    rw [before] at faded ⊢
    exact Bool.eq_false_iff.mpr fun inForce => absurd (faded inForce) nofun
  have others (f : Consequences → Bool) (off : f onlyTrip = false) :
      (s.takeReport i .goes).cond.inForceBy f = s.cond.inForceBy f := by
    refine Conditions.inForceBy_congr fun j carried => ?_
    have other : j ≠ i := by
      rintro rfl
      rw [carries, off] at carried
      cases carried
    rw [takeReport_other s _ other]
  simp only [Conditions.inForce, trip, others (·.hold) rfl, others (·.inhibitYaw) rfl, others (·.suppressAuto) rfl,
    others (·.shedService) rfl]

/-- The reports of the CONV zone, not CRITICAL, change no consequence: the blocks are told nothing. -/
theorem report_convReports {st : ThermalState} (calm : st ≠ .critical) (judged : Judged s)
    (free : s.cond.inForce.trip = false) :
    s.report (zoneReports .conv st) = s.takeReports (zoneReports .conv st) ∧
      Spares s (s.takeReports (zoneReports .conv st)) := by
  have take (v : State) (i : Fin 32) (rep : Report) (same : (v.takeReport i rep).cond.inForce = v.cond.inForce) :
      Spares v (v.takeReport i rep) := by
    have conv : (v.takeReport i rep).conv = v.conv := changes_takeReport v i rep .conv (by decide)
    obtain ⟨onsets, ev⟩ := putRec_ev v i ((v.cond.recs[i]).take catalogue[i].kind rep v.onsetArgs)
    exact ⟨by rw [conv], same, takeReport_told v i rep, by rw [State.takeReport, ev]⟩
  have goes : causeIs (st == .critical) = .goes := by
    cases st with
    | critical => exact absurd rfl calm
    | _ => rfl
  have hot := take s (Cond.zoneHot .conv) (causeIs (st == .hot || st == .critical)) (takeReport_inForce s _ rfl)
  have critical := take (s.takeReport (Cond.zoneHot .conv) (causeIs (st == .hot || st == .critical)))
    (Cond.zoneCritical .conv) .goes (takeReport_goes_inForce rfl (by rw [hot.inForce]; exact free))
  have both : Spares s (s.takeReports (zoneReports .conv st)) := by
    rw [zoneReports, goes]
    exact hot.trans critical
  exact ⟨judge_of_judged (both.judged judged), both⟩

/-- What the evaluation of the CONV zone needs to leave the converter alone: it does not deliver, TRIP is not in force, and
the zone is not found CRITICAL. -/
structure State.ConvCalm (s : State) : Prop where
  still : s.conv.state.delivering = false
  judged : Judged s
  free : s.cond.inForce.trip = false
  calm : s.cool.zones.conv.limits.judge s.cool.zones.conv.thermal (s.temperature .conv) ≠ .critical

/-- The actuators that serve the CONV zone (R108). -/
def convActuators : List Zone := consumerOrder.filter fun home => (zonesServed home).any fun z => [Zone.conv].contains z

/-- The CONV zone evaluated, up to its reports. -/
def State.convJudged (s : State) : State :=
  (State.noteZeroHolds s [.conv] (s.evaluatedAll [.conv])).takeReports
    (zoneReports .conv (s.evaluated .conv).thermal)

theorem evaluated_thermal (s : State) (z : Zone) : (s.evaluated z).thermal =
    (s.cool.zones.get z).limits.judge (s.cool.zones.get z).thermal (s.temperature z) := by
  unfold State.evaluated ZoneRec.follow
  simp only
  split
  · rfl
  · split <;> rfl

theorem State.ConvCalm.evaluateZones_eq (h : s.ConvCalm) :
    State.evaluateZones [.conv] s = s.convJudged.driveActuators convActuators ∧ Spares s s.convJudged := by
  obtain ⟨still, judged, free, calm⟩ := h
  have own : (s.evaluated .conv).thermal ≠ .critical := by
    rw [evaluated_thermal]
    exact calm
  obtain ⟨told, spares⟩ :=
    report_convReports (s := State.noteZeroHolds s [.conv] (s.evaluatedAll [.conv])) own judged free
  refine ⟨congrArg (State.driveActuators convActuators) told, Spares.trans ?_ spares⟩
  exact .of_pieces rfl rfl rfl

theorem State.ConvCalm.spares_evaluateZones (h : s.ConvCalm) : Spares s (State.evaluateZones [.conv] s) := by
  obtain ⟨same, spares⟩ := h.evaluateZones_eq
  rw [same]
  exact spares.trans (spares_driveActuators (spares.still h.still) _)

/-! ### The event of an evaluation -/

/-- In `u`, an event that began with the evaluation of the CONV zone in `s` has gone on: the zone is judged, the converter
spared. -/
structure State.ChargesOn (s u : State) : Prop where
  judgedAs : s.JudgedAs .conv u
  spares : Spares s u

theorem State.ChargesOn.closeEvent (h : s.ChargesOn u) (still : s.conv.state.delivering = false)
    (free : s.ev.tripped = false) (before : State) : s.ChargesOn (closeEvent before u) :=
  ⟨h.judgedAs.closeEvent before,
    h.spares.trans (spares_closeEvent (h.spares.still still) (h.spares.tripped.trans free) before)⟩

theorem State.ChargesOn.staggerExpired (h : s.ChargesOn u) (still : s.conv.state.delivering = false) :
    s.ChargesOn u.staggerExpired :=
  ⟨h.judgedAs.of_stays (stays_staggerExpired u) (changes_staggerExpired u .meter (by decide)),
    h.spares.trans (spares_staggerExpired (h.spares.still still))⟩

/-- The state in which the expiry of the CONV zone's decrease hold evaluates the zone (R106). -/
def State.holdTaken (s : State) : State :=
  s.setZone .conv { s.cool.zones.get .conv with demand := (s.cool.zones.get .conv).target, hold := none }

theorem holdExpired_conv (s : State) : s.holdExpired .conv = State.evaluateZones [.conv] s.holdTaken := rfl

/-- Judged a second time by the same reading, the zone is no more CRITICAL than at first (R102). -/
theorem State.ChargesOn.convCalm (h : s.ChargesOn u) (calm : s.ConvCalm) : u.holdTaken.ConvCalm := by
  obtain ⟨⟨meter, limits, thermal, -⟩, spares⟩ := h
  refine ⟨spares.still calm.still, spares.judged calm.judged, ?_, ?_⟩
  · change u.cond.inForce.trip = false
    rw [spares.inForce]
    exact calm.free
  · have reading : u.holdTaken.temperature .conv = s.temperature .conv := by
      rw [State.temperature, State.channelValue, State.temperature, State.channelValue]
      exact meter ▸ rfl
    have same : u.holdTaken.cool.zones.conv.limits = s.cool.zones.conv.limits := limits
    have state : u.holdTaken.cool.zones.conv.thermal =
        s.cool.zones.conv.limits.judge s.cool.zones.conv.thermal (s.temperature .conv) := thermal
    rw [reading, same, state, judge_judge]
    exact calm.calm

theorem State.ChargesOn.holdExpired (h : s.ChargesOn u) (calm : s.ConvCalm) : s.ChargesOn (u.holdExpired .conv) := by
  have again := (h.convCalm calm).spares_evaluateZones
  obtain ⟨meter, limits, thermal, -⟩ := h.judgedAs
  refine ⟨judgedAs_evaluateZones (u := u.holdTaken) meter limits ?_, (h.spares.trans ?_).trans again⟩
  · change s.cool.zones.conv.limits.judge u.cool.zones.conv.thermal _ = _
    rw [show u.cool.zones.conv.thermal = _ from thermal]
    exact judge_judge _ _ _
  · exact .of_changes (changes_setZone u .conv _).mono

theorem State.ConvCalm.chargesOn (h : s.ConvCalm) : s.ChargesOn (State.evaluateZones [.conv] s) :=
  ⟨judgedAs_evaluateZones rfl rfl rfl, h.spares_evaluateZones⟩

theorem evaluateConv_noted (ev : s.ev = Scratch.empty) : (State.evaluateZones [.conv] s).settle.ev.zeroHolds ⊆ [.conv] :=
  settle_zeroHolds (keeps_evaluateZones s [.conv]) (congrArg Scratch.zeroHolds ev)

theorem State.ConvCalm.finishEvent (h : s.ConvCalm) (ev : s.ev = Scratch.empty) (before : State) :
    s.ChargesOn (finishEvent before (State.evaluateZones [.conv] s)) := by
  have free : s.ev.tripped = false := congrArg Scratch.tripped ev
  refine finishEvent_induct_noted (h.chargesOn.closeEvent h.still free before) (fun u z noted on => ?_) fun u on =>
    (on.staggerExpired h.still).closeEvent h.still free u
  obtain rfl : z = .conv := List.mem_singleton.mp (evaluateConv_noted ev noted)
  exact (on.holdExpired h).closeEvent h.still free u

end

/-! ### The same, while the stagger timer runs: the yaw rests (R34) -/

section
variable {s t u : State}

/-- From `s` to `t` the stagger timer, slot 0 and the yaw stand, and no stagger timer is started. -/
structure Rests (s t : State) : Prop where
  slot : (t.claim 0).state = (s.claim 0).state
  stagger : t.app.stagger = s.app.stagger
  zeroStagger : t.ev.zeroStagger = s.ev.zeroStagger
  rest : Changes [.app, .conv, .cool, .cond, .ev, .out, .revs] s t

theorem Rests.refl (s : State) : Rests s s := ⟨rfl, rfl, rfl, Changes.refl _ s⟩

theorem Rests.trans (h : Rests s t) (k : Rests t u) : Rests s u :=
  ⟨k.slot.trans h.slot, k.stagger.trans h.stagger, k.zeroStagger.trans h.zeroStagger, h.rest.trans k.rest⟩

theorem Rests.of_changes (h : Changes [.conv, .cool, .cond, .ev] s t) (zeroStagger : t.ev.zeroStagger = s.ev.zeroStagger) :
    Rests s t := by
  have app : t.app = s.app := h .app (by decide)
  exact ⟨by rw [State.claim, State.claim, app], by rw [app], zeroStagger, h.mono⟩

theorem engineAsk_stagger (i : Fin 16) (priority asked : Nat) (a : Apportioner) :
    (a.engineAsk i priority asked).stagger = a.stagger := by
  unfold Apportioner.engineAsk
  simp only
  split
  · split
    · rfl
    · exact openSlot_stagger a i ..
  · split
    · rfl
    · exact amend_stagger a i _

theorem rests_engineRequest (s : State) {i : Fin 16} (other : 0 ≠ i) (n : Nat) : Rests s (s.engineRequest i n) := by
  refine ⟨engineRequest_other s n other, ?_, claimRequest_zeroStagger s _, (claimsMove_engineRequest s i n).rest.mono⟩
  rw [State.engineRequest, claimRequest_app, engineAsk_stagger]

theorem rests_askActuator (s : State) (z : Zone) : Rests s (s.askActuator z) :=
  (Rests.of_changes (changes_setZone s z _).mono rfl).trans (rests_engineRequest _ (by cases z <;> decide) _)

/-- Slot 0 neither granted nor shed, the yaw hears nothing. -/
theorem tellYaw_of_slot (slot : (t.claim 0).state = (s.claim 0).state) : State.tellYaw s t = t := by
  have held : t.isHeld 0 = s.isHeld 0 := by
    rw [Bool.eq_iff_iff, isHeld_iff, isHeld_iff, slot]
  rw [State.tellYaw, held, slot]
  simp

theorem Rests.tellOwners (h : Rests s t) (still : t.conv.state.delivering = false) :
    Rests s (State.tellOwners s t) := by
  have cooling : Rests s (State.tellCooling s t) :=
    h.trans (.of_changes (changes_tellCooling s t).mono rfl)
  obtain ⟨proven, told⟩ := tellConverter_of_still (s := State.tellCooling s t) still s
  have converter : Rests s (State.tellConverter s (State.tellCooling s t)) := by
    rw [told]
    exact cooling.trans (.of_changes (changes_conv _ _).mono rfl)
  rw [State.tellOwners, tellYaw_of_slot converter.slot]
  exact converter

theorem rests_driveActuators (still : s.conv.state.delivering = false) (homes : List Zone) :
    Rests s (s.driveActuators homes) := by
  have asks (zs : List Zone) : ∀ v : State, Rests v (zs.foldl State.askActuator v) := by
    induction zs with
    | nil => exact .refl
    | cons z zs ih => exact fun v => (rests_askActuator v z).trans (ih _)
  have noted : Rests s ((homes.foldl State.askActuator s).noteActuators homes) :=
    (asks homes s).trans (.of_changes (changes_noteActuators _ homes).mono rfl)
  have conv : (homes.foldl State.askActuator s).conv = s.conv :=
    Changes.foldl (ps := .cool :: claimPieces) (fun v z => (changes_setZone v z _).mono.trans
      (claimsMove_engineRequest _ _ _).rest.mono) homes s .conv (by decide)
  refine noted.tellOwners ?_
  change (homes.foldl State.askActuator s).conv.state.delivering = false
  rw [conv]
  exact still

theorem rests_takeReports (s : State) (g : Group) : Rests s (s.takeReports g) := by
  induction g generalizing s with
  | nil => exact .refl s
  | cons p g ih =>
    obtain ⟨onsets, ev⟩ := putRec_ev s p.1 ((s.cond.recs[p.1]).take catalogue[p.1].kind p.2 s.onsetArgs)
    have taken : Rests s (s.takeReport p.1 p.2) :=
      .of_changes (changes_takeReport s p.1 p.2).mono (by rw [State.takeReport, ev])
    exact taken.trans (ih _)

theorem rests_convJudged (s : State) : Rests s s.convJudged := by
  have judged : Changes [.cool] s (s.evaluatedAll [.conv]) := changes_setZone s .conv _
  refine Rests.trans (t := State.noteZeroHolds s [.conv] (s.evaluatedAll [.conv])) (.of_changes ?_ rfl)
    (rests_takeReports _ _)
  exact judged.mono.trans (changes_noteZeroHolds s _ _).mono

theorem State.ConvCalm.rests_evaluateZones (h : s.ConvCalm) : Rests s (State.evaluateZones [.conv] s) := by
  obtain ⟨same, spares⟩ := h.evaluateZones_eq
  rw [same]
  exact (rests_convJudged s).trans (rests_driveActuators (spares.still h.still) _)

/-- While the stagger timer runs the end of an event grants nothing (R34). -/
theorem rests_settle (runs : StaggerRuns s) : Rests s s.settle := by
  rw [State.settle, settleClaims_of_staggered runs]
  have actuators := changes_settleActuators s
  have settled : Changes [.conv, .cool] s s.settleActuators.setTripReason :=
    actuators.mono.trans (changes_setTripReason _).mono
  exact .of_changes settled.mono (by rw [settled .ev (by decide)])

theorem rests_closeEvent (runs : StaggerRuns s) (none : s.ev.zeroStagger = false) (before : State) :
    Rests s (closeEvent before s) := by
  obtain ⟨slot, stagger, -, rest⟩ := rests_settle runs
  refine ⟨slot, stagger, none.symm, rest.trans ?_⟩
  intro p outside
  cases p with
  | app | conv | cool | cond | ev | out | revs => exact absurd (by decide) outside
  | _ => rfl

/-- The end of an event in which the stagger timer ran on: the decrease holds noted expire, nothing is granted. -/
theorem finishEvent_induct_unstarted {P : State → Prop} {before s : State} (none : s.settle.ev.zeroStagger = false)
    (close : P (closeEvent before s))
    (hold : ∀ u, ∀ z ∈ s.settle.ev.zeroHolds, P u →
      (u.holdExpired z).settle.ev.zeroStagger = false ∧ P (closeEvent u (u.holdExpired z))) : P (finishEvent before s) := by
  have holds (zs : List Zone) : zs ⊆ s.settle.ev.zeroHolds → ∀ u, P u → P (zs.foldl State.expireZeroHold u) := by
    induction zs with
    | nil => exact fun _ _ p => p
    | cons z zs ih =>
      intro sub u p
      obtain ⟨own, rest⟩ := List.cons_subset.mp sub
      obtain ⟨unstarted, closed⟩ := hold u z own p
      refine ih rest _ ?_
      unfold State.expireZeroHold
      split
      · rw [endEvent_of_noZeroStagger unstarted]
        exact closed
      · exact p
  refine holds _ (List.Subset.refl _) _ ?_
  rw [endEvent_of_noZeroStagger none]
  exact close

theorem State.ConvCalm.rests_finishEvent (h : s.ConvCalm) (ev : s.ev = Scratch.empty) (runs : StaggerRuns s)
    (before : State) : Rests s (Machine.finishEvent before (State.evaluateZones [.conv] s)) := by
  have free : s.ev.tripped = false := congrArg Scratch.tripped ev
  have none : s.ev.zeroStagger = false := congrArg Scratch.zeroStagger ev
  have settles {v : State} (rests : Rests s v) : v.settle.ev.zeroStagger = false ∧ ∀ b, Rests s (closeEvent b v) := by
    have going : StaggerRuns v := by
      rw [StaggerRuns, rests.stagger]
      exact runs
    refine ⟨?_, fun b => rests.trans (rests_closeEvent going (rests.zeroStagger.trans none) b)⟩
    rw [(rests_settle going).zeroStagger, rests.zeroStagger, none]
  obtain ⟨unstarted, closed⟩ := settles h.rests_evaluateZones
  refine (finishEvent_induct_unstarted (P := fun u => s.ChargesOn u ∧ Rests s u) unstarted
    ⟨h.chargesOn.closeEvent h.still free before, closed before⟩ fun u z noted on => ?_).2
  obtain rfl : z = .conv := List.mem_singleton.mp (evaluateConv_noted ev noted)
  obtain ⟨on, rests⟩ := on
  have taken : Rests u u.holdTaken := .of_changes (changes_setZone u .conv _).mono rfl
  obtain ⟨unstarted, closed⟩ := settles ((rests.trans taken).trans (on.convCalm h).rests_evaluateZones)
  exact ⟨unstarted, (on.holdExpired h).closeEvent h.still free u, closed u⟩

end

/-! ### CHARGE -/

section
variable {s : State}

/-- The converter in LINK_CHARGING, before the CONV zone is evaluated (R79). -/
def State.charging (s : State) : State :=
  { s with
    conv :=
      { s.conv with
        state := .precharging, step := some .linkCharging,
        seqLeft := some (s.setting Setting.prechargeTimeout) } }

theorem doCharge_state (not : s.conv.state ≠ .off) : doCharge s = refuse s .state := if_pos not

theorem doCharge_notReady (off : s.conv.state = .off)
    (not : s.supply.state ≠ .grid ∨ s.tripInForce = true ∨ s.holdInForce = true) : doCharge s = refuse s .notReady := by
  rw [doCharge, if_neg (not_not.mpr off), if_pos]
  rcases not with supply | trip | hold
  · simp [supply]
  · simp [State.released, trip]
  · simp [State.released, hold]

theorem doCharge_charges (off : s.conv.state = .off) (grid : s.supply.state = .grid) (free : s.tripInForce = false)
    (released : s.holdInForce = false) : doCharge s = answerOk s.charging.offChanged := by
  rw [doCharge, if_neg (not_not.mpr off), if_neg (by simp [grid, State.released, free, released])]
  rfl

theorem changes_charging (s : State) : Changes [.conv] s s.charging := changes_conv s _

/-- What the event of CHARGE comes to, up to the answer. -/
def State.charged (s : State) : State := finishEvent s.entered s.entered.charging.offChanged

/-- What CHARGE comes to, its answer given. -/
def State.chargeAnswered (s : State) : State := { s.charged with port := s.port.answered .ok [] }

theorem charging_conv (s : State) (proven : Bool) : { s.entered.charging.conv with flowProven := proven } =
    { s.conv with
      state := .precharging, step := some .linkCharging,
      seqLeft := some (s.setting Setting.prechargeTimeout), flowProven := proven } := rfl

theorem changes_chargeAnswered (s : State) : Changes [.port] s.charged s.chargeAnswered := changes_port _ _

theorem exec_charge (r : Ready s) (off : s.conv.state = .off) (grid : s.supply.state = .grid)
    (free : s.tripInForce = false) (released : s.holdInForce = false) :
    exec .charge s = .next s.chargeAnswered :=
  runItem_idle (i := .charge) r.1 (.inl r.2) (doCharge_charges (s := s.entered) off grid free released)
    (fun no => absurd rfl no) (changes_offChanged s.entered.charging .port (by decide)) r.1.2.2

theorem convCalm_charging (judged : Judged s) (free : s.tripInForce = false)
    (calm : s.cool.zones.conv.limits.judge s.cool.zones.conv.thermal (s.temperature .conv) ≠ .critical) :
    s.entered.charging.ConvCalm :=
  ⟨rfl, judged, free, calm⟩

/-- Whatever the event of CHARGE changed among the blocks and the lines, with the answer the rest is as it was. -/
theorem changes_charge_answered {qs : List Piece} (between : Between s)
    (h : Changes (.ev :: qs) s.entered.charging s.charged) (port : .port ∈ qs := by decide)
    (conv : .conv ∈ qs := by decide) : Changes qs s s.chargeAnswered := by
  have enter : Changes (.ev :: qs) s s.entered.charging :=
    ((changes_entered s).mono (by simp [port])).trans ((changes_charging s.entered).mono (by simp [conv]))
  have done : Changes qs s s.charged :=
    Changes.of_ev (enter.trans h) ((finishEvent_ev s.entered _).trans between.2.symm)
  exact done.trans ((changes_chargeAnswered s).mono (by simp [port]))

end

/-- Settles O45: CHARGE with the CONV zone not CRITICAL spares the converter in LINK_CHARGING (`ConvCalm.finishEvent`), and
while the stagger timer runs the yaw rests (`ConvCalm.rests_finishEvent`). -/
theorem chargeStartsPrecharge : Obligations.ChargeStartsPrecharge := by
  unfold Obligations.ChargeStartsPrecharge
  intro s r
  refine ⟨fun not => runItem_refused (c := .charge) r (doCharge_state (s := s.entered) not),
    fun off not => runItem_refused (c := .charge) r (doCharge_notReady (s := s.entered) off not), ?_⟩
  intro judged off grid free released calm
  have ev : s.entered.charging.ev = Scratch.empty := r.1.1.2
  have convCalm := convCalm_charging judged free calm
  refine ⟨s.chargeAnswered, exec_charge r off grid free released, ?_, rfl, fun runs => ?_, ?_, ?_⟩
  · have spares : Spares s.entered.charging s.charged := (convCalm.finishEvent ev s.entered).spares
    have answered : s.chargeAnswered.conv = s.charged.conv := changes_chargeAnswered s .conv (by decide)
    rw [answered, ← charging_conv]
    exact spares.conv
  · have rests := convCalm.rests_finishEvent ev runs s.entered
    exact changes_charge_answered r.1.1 rests.rest.mono
  · have owners := changes_offChanged s.entered.charging
    exact changes_charge_answered r.1.1 (owners.mono.trans (changes_finishEvent _ _).mono)
  · exact linesDriven_of_apart (linesDriven_finishEvent _ _) (changes_chargeAnswered s).mono

end Sys2Proof.Machine
end

section
/-!
The computed level and the thermal state of a zone at an evaluation (R102, R104).
-/
namespace Sys2Proof.Machine

/-! ### The computed level (R104) -/

section
variable {l : Thresholds} {T : Int}

/-- A quotient rounded up is the least whole number whose product is not below the dividend. -/
theorem ceilDiv_bounds {b : Nat} (a : Nat) (pos : 0 < b) : a ≤ ceilDiv a b * b ∧ ceilDiv a b * b < a + b := by
  have below : ceilDiv a b * b ≤ a + b - 1 := Nat.div_mul_le_self _ _
  have above : a + b - 1 < ceilDiv a b * b + b := Nat.lt_div_mul_add pos
  omega

theorem level_of_le_start (low : T ≤ l.start) : l.level (some T) = 0 := if_pos low

theorem level_of_full_le (order : l.start < l.full) (high : (l.full : Int) ≤ T) : l.level (some T) = 15 := by
  have above : ¬T ≤ l.start := by omega
  exact (if_neg above).trans (if_pos high)

/-- Between START and FULL the level is the fifteenths of the span reached, rounded up. -/
theorem level_bounds (above : (l.start : Int) < T) (below : T < l.full) :
    15 * (T - l.start) ≤ l.level (some T) * ((l.full : Int) - l.start) ∧
      ((l.level (some T) : Int) - 1) * ((l.full : Int) - l.start) < 15 * (T - l.start) := by
  have level : l.level (some T) = ceilDiv (15 * (T - l.start).toNat) (l.full - l.start) :=
    (if_neg (by omega)).trans (if_neg (by omega))
  obtain ⟨lower, upper⟩ :=
    ceilDiv_bounds (15 * (T - l.start).toNat) (show 0 < l.full - l.start by omega)
  rw [← level] at lower upper
  have span : ((l.full - l.start : Nat) : Int) = l.full - l.start := by omega
  zify at lower upper
  rw [span] at lower upper
  rw [sub_mul]
  omega

/-- The level is `k` at a reading of exactly `k` fifteenths of the span. -/
theorem level_of_fifteenths {k : Nat} (order : l.start < l.full) (le : k ≤ 15)
    (exactly : 15 * (T - l.start) = (k : Int) * ((l.full : Int) - l.start)) : l.level (some T) = k := by
  have span : (0 : Int) < l.full - l.start := by omega
  by_cases low : T ≤ l.start
  · have : (k : Int) ≤ 0 := le_of_mul_le_mul_right (by omega) span
    rw [level_of_le_start low]
    omega
  by_cases high : (l.full : Int) ≤ T
  · have : (15 : Int) ≤ k := le_of_mul_le_mul_right (by omega) span
    rw [level_of_full_le order high]
    omega
  obtain ⟨lower, upper⟩ := level_bounds (not_le.mp low) (not_le.mp high)
  rw [exactly] at lower upper
  have atLeast : (k : Int) ≤ l.level (some T) := le_of_mul_le_mul_right lower span
  have atMost : (l.level (some T) : Int) - 1 < k := lt_of_mul_lt_mul_right upper span.le
  omega

end

/-- Settles O12. -/
theorem computedLevel : Obligations.ComputedLevel := by
  unfold Obligations.ComputedLevel
  intro l T k order
  exact ⟨level_of_le_start, level_of_full_le order, level_bounds,
    level_of_fifteenths order (Nat.le_of_lt_succ k.isLt), rfl⟩

/-! ### The thermal state (R102) -/

section
variable {l : Thresholds} {T : Int}

theorem rising_of_band {st : ThermalState} (warm : l.warm < l.hot) (hot : l.hot < l.critical)
    (band : st = .normal ∧ T < l.warm ∨ st = .warm ∧ (l.warm : Int) ≤ T ∧ T < l.hot ∨
      st = .hot ∧ (l.hot : Int) ≤ T ∧ T < l.critical ∨ st = .critical ∧ (l.critical : Int) ≤ T) :
    l.rising T = st := by
  unfold Thresholds.rising
  obtain ⟨rfl, high⟩ | ⟨rfl, low, high⟩ | ⟨rfl, low, high⟩ | ⟨rfl, low⟩ := band
  · rw [if_neg (by omega), if_neg (by omega), if_neg (by omega)]
  · rw [if_neg (by omega), if_neg (by omega), if_pos low]
  · rw [if_neg (by omega), if_pos low]
  · rw [if_pos low]

/-- The rising state is not above the present one where the reading is below the entry threshold of the next. -/
theorem rising_le_present {present : ThermalState} (warm : l.warm < l.hot) (hot : l.hot < l.critical)
    (low : T < l.warm ∨ T < l.hot ∧ 1 ≤ present.code ∨ T < l.critical ∧ 2 ≤ present.code ∨ 3 ≤ present.code) :
    (l.rising T).code ≤ present.code := by
  unfold Thresholds.rising
  split
  · change 3 ≤ present.code
    omega
  split
  · change 2 ≤ present.code
    omega
  split
  · change 1 ≤ present.code
    omega
  · exact Nat.zero_le _

/-- The reading holds a zone in a state: NORMAL, or one whose entry threshold less 2.0 °C it exceeds. -/
def Thresholds.Sustains (l : Thresholds) (T : Int) (st : ThermalState) : Prop :=
  st = .normal ∨ st = .warm ∧ (l.warm : Int) - 20 < T ∨ st = .hot ∧ (l.hot : Int) - 20 < T ∨
    st = .critical ∧ (l.critical : Int) - 20 < T

/-- A zone does not fall from a state that the reading holds it in. -/
theorem falling_of_sustains {st : ThermalState} (holds : l.Sustains T st) : l.falling st T = st := by
  obtain rfl | ⟨rfl, above⟩ | ⟨rfl, above⟩ | ⟨rfl, above⟩ := holds
  · rfl
  all_goals exact if_pos above

theorem sustains_fallFromWarm (l : Thresholds) (T : Int) : l.Sustains T (l.fallFromWarm T) := by
  unfold Thresholds.fallFromWarm
  split
  · next above => exact .inr (.inl ⟨rfl, above⟩)
  · exact .inl rfl

theorem sustains_fallFromHot (l : Thresholds) (T : Int) : l.Sustains T (l.fallFromHot T) := by
  unfold Thresholds.fallFromHot
  split
  · next above => exact .inr (.inr (.inl ⟨rfl, above⟩))
  · exact sustains_fallFromWarm l T

theorem sustains_fallFromCritical (l : Thresholds) (T : Int) : l.Sustains T (l.fallFromCritical T) := by
  unfold Thresholds.fallFromCritical
  split
  · next above => exact .inr (.inr (.inr ⟨rfl, above⟩))
  · exact sustains_fallFromHot l T

theorem sustains_falling (l : Thresholds) (present : ThermalState) (T : Int) :
    l.Sustains T (l.falling present T) := by
  cases present with
  | normal => exact .inl rfl
  | warm => exact sustains_fallFromWarm l T
  | hot => exact sustains_fallFromHot l T
  | critical => exact sustains_fallFromCritical l T

/-- From a higher state a zone falls no lower. -/
theorem falling_mono {p q : ThermalState} (le : p.code ≤ q.code) :
    (l.falling p T).code ≤ (l.falling q T).code := by
  have warmHot := fallFromWarm_le_fallFromHot l T
  have hotCritical := fallFromHot_le_fallFromCritical l T
  cases p with
  | normal => exact Nat.zero_le _
  | warm =>
    cases q with
    | normal => exact absurd le (by decide)
    | warm => exact Nat.le_refl _
    | hot => exact warmHot
    | critical => exact warmHot.trans hotCritical
  | hot =>
    cases q with
    | normal | warm => exact absurd le (by decide)
    | hot => exact Nat.le_refl _
    | critical => exact hotCritical
  | critical =>
    cases q with
    | normal | warm | hot => exact absurd le (by decide)
    | critical => exact Nat.le_refl _

theorem falling_le (l : Thresholds) (present : ThermalState) (T : Int) :
    (l.falling present T).code ≤ present.code := by
  have warm : (l.fallFromWarm T).code ≤ 1 := by
    unfold Thresholds.fallFromWarm
    split <;> decide
  have hot : (l.fallFromHot T).code ≤ 2 := by
    unfold Thresholds.fallFromHot
    split
    · exact Nat.le_refl _
    · exact warm.trans (by decide)
  cases present with
  | normal => exact Nat.le_refl _
  | warm => exact warm
  | hot => exact hot
  | critical =>
    change (l.fallFromCritical T).code ≤ 3
    unfold Thresholds.fallFromCritical
    split
    · exact Nat.le_refl _
    · exact hot.trans (by decide)

/-- A zone falls to the highest state at or below its own that the reading holds it in. -/
theorem le_falling {present st : ThermalState} (below : st.code ≤ present.code) (holds : l.Sustains T st) :
    st.code ≤ (l.falling present T).code := by
  have mono : (l.falling st T).code ≤ (l.falling present T).code := falling_mono below
  rwa [falling_of_sustains holds] at mono

end

/-- Settles O13: at a reading that raises the zone the judgement is the rising state, at any other the state the zone falls
to. -/
theorem thermalStateJudged : Obligations.ThermalStateJudged := by
  unfold Obligations.ThermalStateJudged
  intro l present st T warm hot
  refine ⟨fun band higher => ?_, fun low => ?_, rfl, by decide⟩
  · rw [← rising_of_band warm hot band] at higher ⊢
    exact judge_rises higher
  · rw [judge_falls (rising_le_present warm hot low)]
    exact ⟨falling_le l present T, sustains_falling l present T, le_falling⟩

end Sys2Proof.Machine
end

section
/-!
The demand level (R105, R106): what the shared operations keep of the zone records and of what an evaluation reads, and a
zone evaluated.
-/
namespace Sys2Proof.Machine

section
variable {s t u : State}

/-! ### What stays apart from an evaluation -/

/-- A zone record but for the three fields of the actuator shown in it. -/
def ZoneRec.withoutActuator (r : ZoneRec) : ZoneRec := { r with actuatorDemand := 0, effective := 0, duty := 0 }

/-- From `s` to `t` what an evaluation reads beside the zone's own record (the settings, the readings, whether the
converter is OFF) stays, with the first-evaluation timer and every zone's thresholds, and every zone not in `zs` but for its
actuator. -/
structure Steady (zs : List Zone) (s t : State) : Prop where
  store : t.store = s.store
  meter : t.meter = s.meter
  off : t.conv.state = .off ↔ s.conv.state = .off
  firstEval : t.cool.firstEval = s.cool.firstEval
  limits : ∀ z, (t.cool.zones.get z).limits = (s.cool.zones.get z).limits
  zone : ∀ z, z ∉ zs → (t.cool.zones.get z).withoutActuator = (s.cool.zones.get z).withoutActuator

variable {zs ws : List Zone}

theorem Steady.demand (h : Steady zs s t) {z : Zone} (out : z ∉ zs) :
    (t.cool.zones.get z).demand = (s.cool.zones.get z).demand := (congrArg ZoneRec.demand (h.zone z out) :)

theorem Steady.target (h : Steady zs s t) {z : Zone} (out : z ∉ zs) :
    (t.cool.zones.get z).target = (s.cool.zones.get z).target := (congrArg ZoneRec.target (h.zone z out) :)

theorem Steady.hold (h : Steady zs s t) {z : Zone} (out : z ∉ zs) :
    (t.cool.zones.get z).hold = (s.cool.zones.get z).hold := (congrArg ZoneRec.hold (h.zone z out) :)

theorem Steady.refl (zs : List Zone) (s : State) : Steady zs s s := ⟨rfl, rfl, .rfl, rfl, fun _ => rfl, fun _ _ => rfl⟩

theorem Steady.trans (h : Steady zs s t) (k : Steady zs t u) : Steady zs s u :=
  ⟨k.store.trans h.store, k.meter.trans h.meter, k.off.trans h.off, k.firstEval.trans h.firstEval,
    fun z => (k.limits z).trans (h.limits z), fun z out => (k.zone z out).trans (h.zone z out)⟩

theorem Steady.mono (h : Steady zs s t) (sub : zs ⊆ ws) : Steady ws s t :=
  { h with zone := fun z out => h.zone z fun mem => out (sub mem) }

theorem Steady.widen (h : Steady [] s t) : Steady zs s t := h.mono (List.nil_subset zs)

/-- The pieces that the relation reads nothing of. -/
abbrev apartPieces : List Piece :=
  [.revs, .port, .inputs, .app, .supply, .align, .routes, .yaw, .cond, .out, .hold, .ev, .choices, .pending]

theorem Steady.of_changes (h : Changes apartPieces s t) : Steady zs s t := by
  have conv : t.conv = s.conv := h .conv (by decide)
  have cool : t.cool = s.cool := h .cool (by decide)
  exact ⟨h .store (by decide), h .meter (by decide), by rw [conv], by rw [cool],
    fun _ => by rw [cool], fun _ _ => by rw [cool]⟩

theorem Steady.ite {a b : State} {c : Prop} [Decidable c] (ha : Steady zs s a) (hb : Steady zs s b) :
    Steady zs s (if c then a else b) := by
  split <;> assumption

theorem Steady.onlyIf {c : Prop} [Decidable c] (h : Steady zs s t) (k : Steady zs t u) :
    Steady zs s (if c then u else t) := .ite (h.trans k) h

theorem Steady.foldl {α : Type} {f : State → α → State} (hf : ∀ v x, Steady zs v (f v x)) (l : List α) (s : State) :
    Steady zs s (l.foldl f s) := by
  induction l generalizing s with
  | nil => exact .refl zs s
  | cons x l ih => exact (hf s x).trans (ih _)

/-! ### The converter, told of consequences and of its claim: neither is a way into or out of OFF -/

theorem steady_conv (s : State) {c : Converter} (off : c.state = .off ↔ s.conv.state = .off) :
    Steady zs s { s with conv := c } := ⟨rfl, rfl, off, rfl, fun _ => rfl, fun _ _ => rfl⟩

theorem steady_tripConverter (s : State) : Steady zs s s.tripConverter := by
  unfold State.tripConverter
  split
  · next energised =>
    have on : s.conv.state ≠ .off := fun off => by rw [off] at energised; cases energised
    have tripped : s.enterTripped.conv.state = .off ↔ s.conv.state = .off := ⟨nofun, fun off => absurd off on⟩
    exact ⟨rfl, rfl, tripped, rfl, fun _ => rfl, fun _ _ => rfl⟩
  · exact .refl zs s

theorem steady_holdConverter (s : State) : Steady zs s s.holdConverter := by
  unfold State.holdConverter
  split
  · next delivers =>
    have on : s.conv.state ≠ .off := fun off => by rw [off] at delivers; cases delivers
    exact steady_conv s ⟨nofun, fun off => absurd off on⟩
  · exact .refl zs s

theorem steady_tell (s : State) (told now : Consequences) : Steady zs s (s.tell told now) := by
  unfold State.tell
  refine Steady.onlyIf ?_ (.of_changes (changes_claimEvent _).mono)
  refine Steady.onlyIf ?_ (.of_changes (changes_shedService _).mono)
  refine Steady.onlyIf ?_ (.of_changes (changes_stopRunning _ _).mono)
  refine Steady.onlyIf ?_ (steady_holdConverter _)
  exact Steady.onlyIf (.refl zs s) (steady_tripConverter _)

theorem steady_report (s : State) (g : Group) : Steady zs s (s.report g) := by
  have judged (v : State) : Steady zs v v.judge :=
    Steady.trans (t := { v with cond := { v.cond with told := v.cond.inForce } })
      ⟨rfl, rfl, .rfl, rfl, fun _ => rfl, fun _ _ => rfl⟩ (steady_tell _ _ _)
  exact (Steady.of_changes (changes_takeReports s g).mono).trans (judged _)

theorem steady_tellConverter (before s : State) : Steady zs s (State.tellConverter before s) := by
  have proven (b : Bool) : Steady zs s { s with conv := { s.conv with flowProven := b } } := steady_conv s .rfl
  exact .ite (proven _) (.ite (.ite ((proven false).trans (steady_report _ _)) (proven false)) (.refl zs s))

theorem steady_tellOwners (before s : State) : Steady zs s (State.tellOwners before s) :=
  ((Steady.of_changes (changes_tellCooling before s).mono).trans (steady_tellConverter before _)).trans
    (.of_changes (changes_tellYaw before _).mono)

theorem steady_grantOpportunity (s : State) : Steady zs s s.grantOpportunity :=
  .ite ((Steady.of_changes (changes_apportionStarting s _).mono).trans (steady_tellOwners s _)) (.refl zs s)

/-! ### Actuators -/

theorem steady_setZone (s : State) (z : Zone) {r : ZoneRec} (limits : r.limits = (s.cool.zones.get z).limits) :
    Steady [z] s (s.setZone z r) := by
  refine ⟨rfl, rfl, .rfl, rfl, fun w => ?_, fun w out => ?_⟩
  · rw [setZone_zones, PerZone.get_set]
    split
    · next own => rw [own, limits]
    · rfl
  · rw [setZone_zones, PerZone.get_set_other _ _ (by simpa using out)]

theorem steady_setZone_actuator (s : State) (z : Zone) {r : ZoneRec}
    (same : r.withoutActuator = (s.cool.zones.get z).withoutActuator) : Steady zs s (s.setZone z r) := by
  have limits : r.limits = (s.cool.zones.get z).limits := (congrArg ZoneRec.limits same :)
  refine { (steady_setZone s z limits) with zone := fun w _ => ?_ }
  rw [setZone_zones, PerZone.get_set]
  split
  · next own => rw [own, same]
  · rfl

theorem steady_driveActuators (s : State) (homes : List Zone) : Steady zs s (s.driveActuators homes) := by
  have asked (v : State) (z : Zone) : Steady zs v (v.askActuator z) :=
    (steady_setZone_actuator v z (r := { v.cool.zones.get z with actuatorDemand := v.actuatorDemand z }) rfl).trans
      (.of_changes (changes_engineRequest _ _ _).mono)
  exact ((Steady.foldl asked homes s).trans (.of_changes (changes_noteActuators _ homes).mono)).trans
    (steady_tellOwners s _)

theorem steady_armFlow (s : State) (p : Pump) : Steady zs s (s.armFlow p) := by
  have set (f : FlowCheck) : Steady zs s (s.setFlow p f) := ⟨rfl, rfl, .rfl, rfl, fun _ => rfl, fun _ _ => rfl⟩
  unfold State.armFlow
  dsimp only
  split
  · exact .ite (.ite (set _) (set _)) (.refl zs s)
  · exact .ite (.refl zs s) (set _)
  · exact .ite (.refl zs s) (set _)
  · exact .refl zs s

theorem steady_refreshActuator (s : State) (z : Zone) : Steady zs s (s.refreshActuator z) := by
  have set (e d : Nat) : Steady zs s (s.setZone z { s.cool.zones.get z with effective := e, duty := d }) :=
    steady_setZone_actuator s z rfl
  unfold State.refreshActuator
  dsimp only
  split
  · exact set _ _
  · exact (set _ _).trans (steady_armFlow _ _)

/-! ### The ends of events -/

theorem steady_settle (s : State) : Steady zs s s.settle := by
  have claims : Steady zs s s.settleClaims := .ite (steady_grantOpportunity s) (.refl zs s)
  have reason (v : State) : Steady zs v v.setTripReason := .ite (steady_conv v .rfl) (.refl zs v)
  exact (claims.trans (.foldl steady_refreshActuator _ _)).trans (reason _)

theorem steady_closeEvent (before s : State) : Steady zs s (closeEvent before s) :=
  ((steady_settle s).trans (.of_changes (changes_drive _).mono)).trans (.of_changes (changes_revs _ _).mono)

theorem steady_staggerExpired (s : State) : Steady zs s s.staggerExpired := by
  have idle : Steady zs s { s with app := s.app.idle } := ⟨rfl, rfl, .rfl, rfl, fun _ => rfl, fun _ _ => rfl⟩
  exact idle.trans (steady_grantOpportunity _)

theorem steady_endEvent (before s : State) : Steady zs s (endEvent before s) := by
  have staggers (n : Nat) : ∀ v : State, Steady zs v (v.expireZeroStagger n) := by
    induction n with
    | zero => exact .refl zs
    | succ n ih =>
      exact fun v => .ite (((steady_staggerExpired v).trans (steady_closeEvent v _)).trans (ih _)) (.refl zs v)
  exact .ite ((steady_closeEvent before s).trans (staggers _ _)) (steady_closeEvent before s)

/-! ### Evaluations -/

theorem steady_evaluatedAll (zs : List Zone) (s : State) : Steady zs s (s.evaluatedAll zs) := by
  unfold State.evaluatedAll
  induction zs generalizing s with
  | nil => exact .refl [] s
  | cons z zs ih =>
    have first : Steady (z :: zs) s (s.setZone z (s.evaluated z)) :=
      (steady_setZone s z (evaluated_limits s z)).mono (by simp)
    exact first.trans ((ih _).mono (List.subset_cons_self z zs))

/-- After steps 1 to 4 of an evaluation its noting of holds, its reports and its requests leave every zone. -/
theorem steady_evaluatedAll_rest (s : State) (zs : List Zone) :
    Steady [] (s.evaluatedAll zs) (State.evaluateZones zs s) :=
  ((Steady.of_changes (changes_noteZeroHolds s _ zs).mono).trans (steady_report _ _)).trans (steady_driveActuators _ _)

theorem steady_evaluateZones (s : State) (zs : List Zone) : Steady zs s (State.evaluateZones zs s) :=
  (steady_evaluatedAll zs s).trans (steady_evaluatedAll_rest s zs).widen

/-- The zone whose decrease hold expires, its demand at the target, before it is evaluated (R106). -/
def State.holdEnded (z : Zone) (s : State) : State :=
  s.setZone z { s.cool.zones.get z with demand := (s.cool.zones.get z).target, hold := none }

theorem holdExpired_eq (z : Zone) (s : State) : s.holdExpired z = State.evaluateZones [z] (s.holdEnded z) := rfl

theorem holdEnded_self (z : Zone) (s : State) : (s.holdEnded z).cool.zones.get z =
    { s.cool.zones.get z with demand := (s.cool.zones.get z).target, hold := none } := PerZone.get_set_self _ _ _

theorem steady_holdEnded (z : Zone) (s : State) : Steady [z] s (s.holdEnded z) := steady_setZone s z rfl

theorem steady_holdExpired (z : Zone) (s : State) : Steady [z] s (s.holdExpired z) :=
  (steady_holdEnded z s).trans (steady_evaluateZones _ [z])

theorem steady_expireZeroHold (s : State) (z : Zone) : Steady [z] s (s.expireZeroHold z) :=
  .ite ((steady_holdExpired z s).trans (steady_endEvent s _)) (.refl [z] s)

/-- The end of an arrival's event and the expiries that follow it at once: of the zones only those whose decrease hold was
noted are evaluated. -/
theorem steady_finishEvent {before : State} (noted : s.settle.ev.zeroHolds ⊆ zs) :
    Steady zs s (finishEvent before s) := by
  have holds (l : List Zone) : l ⊆ zs → ∀ v : State, Steady zs v (l.foldl State.expireZeroHold v) := by
    induction l with
    | nil => exact fun _ => .refl zs
    | cons z l ih =>
      intro sub v
      obtain ⟨own, rest⟩ := List.cons_subset.mp sub
      exact ((steady_expireZeroHold v z).mono (by simpa using own)).trans (ih rest _)
  exact (steady_endEvent before s).trans (holds _ noted _)

/-! ### The target level, followed (R105, R106) -/

/-- The target level that an evaluation of the zone gives it (R104, R105). -/
def State.aim (s : State) (z : Zone) : Nat :=
  s.targetLevel z ((s.cool.zones.get z).limits.level (s.temperature z))

theorem Steady.aim (h : Steady zs s t) (z : Zone) : t.aim z = s.aim z := by
  have reading := temperature_congr h.meter z
  have least : t.setting Setting.convMinLevel = s.setting Setting.convMinLevel := by
    rw [State.setting, State.setting, h.store]
  simp only [State.aim, State.targetLevel, h.limits, reading, least, ne_eq, h.off]

theorem follow_demand (n hold : Nat) (r : ZoneRec) : (r.follow n hold).demand = max r.demand n := by
  unfold ZoneRec.follow
  split
  · next above => exact (max_eq_right above.le).symm
  · next low =>
    split <;> exact (max_eq_left (not_lt.mp low)).symm

theorem follow_target (n hold : Nat) (r : ZoneRec) : (r.follow n hold).target = n := by
  unfold ZoneRec.follow
  split
  · rfl
  · split <;> rfl

/-- A target at the demand or above it ends a decrease hold; one below starts the hold, or leaves it running. -/
theorem follow_hold (n hold : Nat) (r : ZoneRec) :
    (r.follow n hold).hold = if r.demand ≤ n then none else some (r.hold.getD hold) := by
  unfold ZoneRec.follow
  split
  · rw [if_pos (by omega)]
  split
  · rw [if_pos (by omega)]
  · rw [if_neg (by omega)]

theorem evaluateZones_own (s : State) (z : Zone) :
    ((State.evaluateZones [z] s).cool.zones.get z).withoutActuator = (s.evaluated z).withoutActuator := by
  have own : (s.evaluatedAll [z]).cool.zones.get z = s.evaluated z := PerZone.get_set_self _ _ _
  rw [(steady_evaluatedAll_rest s [z]).zone z List.not_mem_nil, own]

/-- What the evaluation of one zone makes of its demand: raised to the target at once (R106). -/
theorem evaluateZones_demand (s : State) (z : Zone) :
    ((State.evaluateZones [z] s).cool.zones.get z).demand = max (s.cool.zones.get z).demand (s.aim z) :=
  (congrArg ZoneRec.demand (evaluateZones_own s z)).trans (follow_demand _ _ _)

theorem evaluateZones_target (s : State) (z : Zone) :
    ((State.evaluateZones [z] s).cool.zones.get z).target = s.aim z :=
  (congrArg ZoneRec.target (evaluateZones_own s z)).trans (follow_target _ _ _)

theorem evaluateZones_hold (s : State) (z : Zone) :
    ((State.evaluateZones [z] s).cool.zones.get z).hold =
      if (s.cool.zones.get z).demand ≤ s.aim z then none
      else some ((s.cool.zones.get z).hold.getD (1000 * s.setting Setting.levelDecreaseHold)) :=
  (congrArg ZoneRec.hold (evaluateZones_own s z)).trans (follow_hold _ _ _)

/-! ### A decrease hold of 0 (R106) -/

/-- No decrease hold of the zone runs but one that the event has started at 0 and noted. -/
def State.HoldNoted (s : State) (z : Zone) : Prop :=
  (s.cool.zones.get z).hold = none ∨ (s.cool.zones.get z).hold = some 0 ∧ z ∈ s.ev.zeroHolds

theorem State.HoldNoted.of_keeps {is : List (Fin 32)} {z : Zone} (h : s.HoldNoted z) (keeps : Keeps is zs s t)
    (hold : (t.cool.zones.get z).hold = (s.cool.zones.get z).hold) : t.HoldNoted z := by
  obtain ⟨l, -, noted, -⟩ := keeps.holds
  rw [State.HoldNoted, hold, noted]
  exact h.imp id fun ⟨zero, mem⟩ => ⟨zero, List.mem_append_left l mem⟩

/-- An evaluation with LEVEL_DECREASE_HOLD at 0 notes the hold that it starts. -/
theorem State.HoldNoted.evaluate {z : Zone} (h : s.HoldNoted z) (zero : s.setting Setting.levelDecreaseHold = 0) :
    (State.evaluateZones [z] s).HoldNoted z := by
  have started : ((s.evaluatedAll [z]).cool.zones.get z).hold = ((State.evaluateZones [z] s).cool.zones.get z).hold :=
    ((steady_evaluatedAll_rest s [z]).hold List.not_mem_nil).symm
  have own := evaluateZones_hold s z
  split at own
  · exact .inl own
  · have length : (s.cool.zones.get z).hold.getD (1000 * s.setting Setting.levelDecreaseHold) = 0 := by
      rw [zero]
      obtain none | ⟨some, -⟩ := h
      · rw [none]; rfl
      · rw [some]; rfl
    rw [length] at own
    refine .inr ⟨own, ?_⟩
    obtain ⟨l, -, noted, -⟩ := (keeps_evaluatedAll_rest s [z]).holds
    rw [noted, noteZeroHolds_zeroHolds]
    refine List.mem_append_left l ?_
    obtain none | ⟨-, mem⟩ := h
    · refine List.mem_append_right _ (List.mem_filter.mpr ⟨List.mem_cons_self, ?_⟩)
      rw [zeroHoldStarted, none, started, own]
      rfl
    · exact List.mem_append_left _ (show z ∈ s.ev.zeroHolds from mem)

/-- The zone's demand level is its target level, no decrease hold running. -/
structure State.AtAim (s : State) (z : Zone) : Prop where
  demand : (s.cool.zones.get z).demand = s.aim z
  hold : (s.cool.zones.get z).hold = none

/-- The zone's target level is that of its readings, and its demand level takes it when a decrease hold at 0 expires. -/
structure State.AimDue (s : State) (z : Zone) : Prop where
  target : (s.cool.zones.get z).target = s.aim z
  hold : (s.cool.zones.get z).hold = some 0

theorem State.AtAim.steady {z : Zone} (h : s.AtAim z) (k : Steady zs s t) (out : z ∉ zs) : t.AtAim z :=
  ⟨by rw [k.demand out, k.aim, h.demand], (k.hold out).trans h.hold⟩

theorem State.AimDue.steady {z : Zone} (h : s.AimDue z) (k : Steady zs s t) (out : z ∉ zs) : t.AimDue z :=
  ⟨by rw [k.target out, k.aim, h.target], (k.hold out).trans h.hold⟩

/-- A demand level not above the target level is at it after the evaluation. -/
theorem atAim_evaluateZones {z : Zone} (low : (s.cool.zones.get z).demand ≤ s.aim z) :
    (State.evaluateZones [z] s).AtAim z :=
  ⟨by rw [evaluateZones_demand, (steady_evaluateZones s [z]).aim, max_eq_right low],
    (evaluateZones_hold s z).trans (if_pos low)⟩

theorem State.AimDue.expire {z : Zone} (h : s.AimDue z) : (s.expireZeroHold z).AtAim z := by
  have low : ((s.holdEnded z).cool.zones.get z).demand ≤ (s.holdEnded z).aim z := by
    rw [holdEnded_self, (steady_holdEnded z s).aim]
    exact h.target.le
  rw [State.expireZeroHold, if_pos h.hold, holdExpired_eq]
  exact (atAim_evaluateZones low).steady (steady_endEvent s _) List.not_mem_nil

theorem State.AtAim.expire {z : Zone} (h : s.AtAim z) (w : Zone) : (s.expireZeroHold w).AtAim z := by
  by_cases own : z = w
  · subst own
    have running : (s.cool.zones.get z).hold ≠ some 0 := by rw [h.hold]; exact nofun
    rwa [State.expireZeroHold, if_neg running]
  · exact h.steady (steady_expireZeroHold s w) (by simpa using own)

/-- After an event that leaves the demand at the target, or notes the decrease hold that brings it there, the demand is the
target. -/
theorem atAim_finishEvent {z : Zone} (h : s.AtAim z ∨ s.AimDue z ∧ z ∈ s.settle.ev.zeroHolds) (before : State) :
    (finishEvent before s).AtAim z := by
  have expires (l : List Zone) :
      ∀ v : State, v.AtAim z ∨ v.AimDue z ∧ z ∈ l → (l.foldl State.expireZeroHold v).AtAim z := by
    induction l with
    | nil => exact fun v h => h.elim id fun due => absurd due.2 List.not_mem_nil
    | cons w l ih =>
      refine fun v h => ih _ ?_
      obtain reached | ⟨due, mem⟩ := h
      · exact .inl (reached.expire w)
      by_cases own : z = w
      · subst own
        exact .inl due.expire
      · exact .inr ⟨due.steady (steady_expireZeroHold v w) (by simpa using own), (List.mem_cons.mp mem).resolve_left own⟩
  have ends : Steady [] s (endEvent before s) := steady_endEvent before s
  exact expires _ _ (h.imp (·.steady ends List.not_mem_nil) fun ⟨due, mem⟩ => ⟨due.steady ends List.not_mem_nil, mem⟩)

/-- With LEVEL_DECREASE_HOLD at 0 the demand level of a zone evaluated is its target level once the event and the expiries
that follow it at once are over (R106; log 24). -/
theorem State.HoldNoted.atAim {z : Zone} (h : s.HoldNoted z) (zero : s.setting Setting.levelDecreaseHold = 0)
    (before : State) : (finishEvent before (State.evaluateZones [z] s)).AtAim z := by
  refine atAim_finishEvent ?_ before
  by_cases low : (s.cool.zones.get z).demand ≤ s.aim z
  · exact .inl (atAim_evaluateZones low)
  have noted := h.evaluate zero
  have hold := (evaluateZones_hold s z).trans (if_neg low)
  obtain none | ⟨started, mem⟩ := noted
  · rw [none] at hold
    cases hold
  · obtain ⟨l, -, kept, -⟩ := (keeps_settle (State.evaluateZones [z] s)).holds
    refine .inr ⟨⟨?_, started⟩, kept ▸ List.mem_append_left l mem⟩
    rw [evaluateZones_target, (steady_evaluateZones s [z]).aim]

end

end Sys2Proof.Machine
end

section
/-!
The first-evaluation timer and the decrease hold (R101, R106, R117), and a fresh reading with LEVEL_DECREASE_HOLD at 0
(R100, R106).
-/
namespace Sys2Proof.Machine

section
variable {s : State}

/-! ### The first-evaluation timer (R101, R117) -/

theorem exec_firstEvaluationTimerExpiry (b : Between s) (runs : s.cool.firstEval.isSome = true) :
    exec .firstEvaluationTimerExpiry s = .next (finishEvent s s.firstEvaluation) :=
  expiry_of_running (running := fun s => s.cool.firstEval.isSome) b.1 runs

/-- The zones not yet evaluated. -/
def State.unevaluated (s : State) : List Zone := allZones.filter fun z => (s.cool.zones.get z).computed.isNone

theorem mem_unevaluated {z : Zone} : z ∈ s.unevaluated ↔ (s.cool.zones.get z).computed = none := by
  have all : z ∈ allZones := by cases z <;> decide
  rw [State.unevaluated, List.mem_filter, Option.isNone_iff_eq_none]
  exact and_iff_right all

/-- The first-evaluation timer stopped. -/
def State.firstEvalEnded (s : State) : State := { s with cool := { s.cool with firstEval := none } }

theorem changes_firstEvaluation (s : State) : Changes ownerPieces s s.firstEvaluation := by
  have ended : Changes [.cool] s s.firstEvalEnded := by
    intro p hp; cases p <;> first | rfl | exact absurd (by decide) hp
  exact ended.mono.trans (changes_evaluateZones _ _)

/-- The event of the first-evaluation timer evaluates no zone but those not yet evaluated. -/
theorem steady_firstEvaluation (ev : s.ev = Scratch.empty) :
    Steady s.unevaluated s.firstEvalEnded (finishEvent s s.firstEvaluation) := by
  have noted : s.firstEvaluation.settle.ev.zeroHolds ⊆ s.unevaluated :=
    settle_zeroHolds (keeps_evaluateZones s.firstEvalEnded s.unevaluated) (congrArg Scratch.zeroHolds ev)
  exact (steady_evaluateZones s.firstEvalEnded s.unevaluated).trans (steady_finishEvent noted)

/-! ### The expiry of a decrease hold (R106) -/

theorem exec_decreaseHoldExpiry {z : Zone} (b : Between s) (runs : (s.cool.zones.get z).hold.isSome = true) :
    exec (.decreaseHoldExpiry z) s = .next (finishEvent s (s.holdExpired z)) :=
  expiry_of_running (running := fun s => (s.cool.zones.get z).hold.isSome) b.1 runs

theorem steady_finishEvent_holdExpired (ev : s.ev = Scratch.empty) (z : Zone) (before : State) :
    Steady [z] s (finishEvent before (s.holdExpired z)) :=
  (steady_holdExpired z s).trans
    (steady_finishEvent (settle_zeroHolds (keeps_holdExpired s z) (congrArg Scratch.zeroHolds ev)))

/-- With LEVEL_DECREASE_HOLD at 1 or more an event starts no decrease hold at 0. -/
theorem settle_zeroHolds_of_one {is : List (Fin 32)} {zs : List Zone} {u : State} (k : Keeps is zs s u)
    (ev : s.ev = Scratch.empty) (one : 1 ≤ s.setting Setting.levelDecreaseHold) : u.settle.ev.zeroHolds = [] := by
  obtain ⟨l, -, noted, none⟩ := (k.all.trans (keeps_settle u).all).holds
  rw [noted, none one, ev]
  rfl

/-- The demand level at the expiry of its hold: the target of the last evaluation, or the higher one of the evaluation that
follows; with LEVEL_DECREASE_HOLD at 0 the latter (R106; log 24). -/
theorem finishEvent_holdExpired_demand (ev : s.ev = Scratch.empty) (z : Zone) (before : State) :
    ((finishEvent before (s.holdExpired z)).cool.zones.get z).demand =
      if s.setting Setting.levelDecreaseHold = 0 then s.aim z else max (s.cool.zones.get z).target (s.aim z) := by
  split
  · next zero =>
    have ended : (s.holdEnded z).HoldNoted z := .inl (congrArg ZoneRec.hold (holdEnded_self z s))
    have reached := (ended.atAim zero before).demand
    rw [← holdExpired_eq] at reached
    rw [reached, (steady_finishEvent_holdExpired ev z before).aim]
  · next one =>
    have noted : (s.holdExpired z).settle.ev.zeroHolds = [] :=
      settle_zeroHolds_of_one (keeps_holdExpired s z) ev (Nat.pos_of_ne_zero one)
    have ends : Steady [] (s.holdExpired z) (finishEvent before (s.holdExpired z)) :=
      steady_finishEvent (noted ▸ List.Subset.refl [])
    rw [ends.demand List.not_mem_nil, holdExpired_eq, evaluateZones_demand, (steady_holdEnded z s).aim, holdEnded_self]

/-! ### A fresh reading (R100) -/

theorem rebudget_cool (s : State) (n : Nat) : (s.rebudget n).cool = s.cool := by
  unfold State.rebudget
  split
  · exact ((changes_apportionStarting s _).mono.trans (changes_tellOwners s _)) .cool (by decide)
  · split <;> rfl

theorem changeSupply_cool (s : State) (new : SupplyState) (loss : Option Nat) :
    (s.changeSupply new loss).cool = s.cool :=
  (changes_handSupply _ _ _ .cool (by decide)).trans (rebudget_cool _ _)

theorem compareBackup_cool (s : State) : s.compareBackup.cool = s.cool := by
  unfold State.compareBackup
  split
  · exact changeSupply_cool s _ _
  · exact changeSupply_cool s _ _
  · rfl

/-- The Supply Monitor's judgement leaves the Cooling Controller alone. -/
theorem judgeSupply_cool (s : State) (n : Nat) : (s.judgeSupply n).cool = s.cool := by
  unfold State.judgeSupply
  split
  · dsimp only
    split
    · exact changeSupply_cool _ _ _
    · rfl
  · dsimp only
    split
    · exact changeSupply_cool _ _ _
    · rfl
  · exact compareBackup_cool s
  · exact compareBackup_cool s

theorem supplyFrame_cool (s : State) (f : Fast) : (s.supplyFrame f).cool = s.cool :=
  (changes_report _ _ .cool (by decide)).trans (judgeSupply_cool s _)

theorem State.HoldNoted.report {z : Zone} (h : s.HoldNoted z) (g : Group) : (s.report g).HoldNoted z :=
  h.of_keeps (keeps_report s g) ((steady_report (zs := []) s g).hold List.not_mem_nil)

/-- The evaluation of the CONV zone at an entry to OFF notes the decrease hold that it starts at 0 (R105, R106). -/
theorem State.HoldNoted.offChanged {z : Zone} (h : s.HoldNoted z) (zero : s.setting Setting.levelDecreaseHold = 0) :
    s.offChanged.HoldNoted z := by
  by_cases own : z = .conv
  · subst own
    exact h.evaluate zero
  · exact h.of_keeps (keeps_evaluateZones s [.conv]) ((steady_evaluateZones s [.conv]).hold (by simpa using own))

theorem State.HoldNoted.sequenceFrame {z : Zone} (h : s.HoldNoted z)
    (zero : s.setting Setting.levelDecreaseHold = 0) (n : Nat) : (s.sequenceFrame n).HoldNoted z := by
  unfold State.sequenceFrame
  split
  · split <;> exact h
  · split
    · exact State.HoldNoted.offChanged (s := { s with conv := { s.conv with state := .off, seqLeft := none } }) h zero
    · exact h
  · exact h

theorem State.HoldNoted.converterFrame {z : Zone} (h : s.HoldNoted z)
    (zero : s.setting Setting.levelDecreaseHold = 0) (f : Fast) : (s.converterFrame f).HoldNoted z :=
  (State.HoldNoted.sequenceFrame (s := s.measureFrame f) h zero _).report _

/-- The state in which the zone of a frame's slow channel is evaluated with its reading. -/
def State.readFresh (bytes : List Byte) (z : Zone) (s : State) : State :=
  let t := ((s.received bytes).supplyFrame (frameFast bytes)).converterFrame (frameFast bytes)
  t.setZone z { t.cool.zones.get z with age := some 0 }

theorem acceptFrame_zone {bytes : List Byte} {z : Zone} (carries : channelZone (frameChannel bytes) = some z) :
    s.acceptFrame bytes = State.evaluateZones [z] (s.readFresh bytes z) := by
  rw [acceptFrame_eq, State.slowValue, carries]
  rfl

theorem changes_readFresh (bytes : List Byte) (z : Zone) (s : State) :
    Changes plantPieces (s.received bytes) (s.readFresh bytes z) :=
  ((changes_supplyFrame _ _).trans (changes_converterFrame _ _).mono).trans (changes_setZone _ _ _).mono

theorem received_meter (bytes : List Byte) (s : State) : (s.received bytes).meter = s.meter.take bytes := by
  unfold State.received
  dsimp only
  split
  · rfl
  · exact changes_report _ _ .meter (by decide)

theorem temperature_of_taken {bytes : List Byte} {z : Zone} {t : State}
    (carries : channelZone (frameChannel bytes) = some z) (taken : t.meter = s.meter.take bytes) :
    t.temperature z = some (frameSlow bytes) := by
  rw [State.temperature, State.channelValue, taken, channelZone_eq carries]
  simp [Meter.take]

theorem readFresh_setting (bytes : List Byte) (z : Zone) (s : State) (k : Fin 86) :
    (s.readFresh bytes z).setting k = s.setting k := by
  rw [State.setting, changes_readFresh bytes z s .store (by decide)]
  exact received_setting bytes s k

theorem holdNoted_readFresh {z : Zone} (none : (s.cool.zones.get z).hold = none)
    (zero : s.setting Setting.levelDecreaseHold = 0) (bytes : List Byte) : (s.readFresh bytes z).HoldNoted z := by
  generalize supplied : (s.received bytes).supplyFrame (frameFast bytes) = v
  have cool : v.cool = s.cool := by
    rw [← supplied, supplyFrame_cool]
    exact changes_received bytes s .cool (by decide)
  have same : v.setting Setting.levelDecreaseHold = 0 := by
    rw [← zero, ← received_setting bytes s, ← supplied, State.setting,
      changes_supplyFrame (s.received bytes) _ .store (by decide)]
    rfl
  have free : v.HoldNoted z := .inl (by rw [cool]; exact none)
  have framed := free.converterFrame same (frameFast bytes)
  rw [State.readFresh, supplied]
  exact framed.of_keeps (is := []) (zs := []) (keeps_setZone _ z _ rfl rfl rfl)
    (congrArg ZoneRec.hold (PerZone.get_set_self _ _ _) :)

end

/-- Settles O55: an expiry evaluates its zones alone, and where LEVEL_DECREASE_HOLD is 0 the hold that an evaluation starts is
noted, so that its expiry brings the demand to the target. -/
theorem coolingTimersExpire : Obligations.CoolingTimersExpire := by
  unfold Obligations.CoolingTimersExpire
  intro s z w bytes b
  refine ⟨fun accepts carries zero none => ?_, fun runs => ?_, fun runs => ?_⟩
  · have accepted := acceptFrame_zone (s := s) carries
    have noted := settle_zeroHolds (calm_acceptFrame s bytes) (congrArg Scratch.zeroHolds b.2)
    have limits := ((stays_finishEvent (before := s) noted).limits z).trans ((calm_acceptFrame s bytes).limits z)
    have reached := ((holdNoted_readFresh none zero bytes).atAim
      ((readFresh_setting bytes z s _).trans zero) s).demand
    rw [← accepted] at reached
    have taken : (finishEvent s (s.acceptFrame bytes)).meter = s.meter.take bytes := by
      have ends := changes_finishEvent s (s.acceptFrame bytes) .meter (by decide)
      have framed := changes_acceptFrame_supplied bytes s .meter (by decide)
      have supplied := changes_supplyFrame (s.received bytes) (frameFast bytes) .meter (by decide)
      exact ends.trans (framed.trans (supplied.trans (received_meter bytes s)))
    refine ⟨_, exec_meterFrame b accepts, ?_⟩
    rw [reached, State.aim, temperature_of_taken carries taken, limits]
    rfl
  · have steady := steady_firstEvaluation b.2
    have frame : Changes (.ev :: .out :: .revs :: ownerPieces) s (finishEvent s s.firstEvaluation) :=
      (changes_firstEvaluation s).mono.trans (changes_finishEvent _ _).mono
    refine ⟨_, exec_firstEvaluationTimerExpiry b runs, steady.firstEval, fun none stale => ?_, fun evaluated => ?_,
      Changes.of_ev frame.mono ((finishEvent_ev s _).trans b.2.symm)⟩
    · have reads : ReadsStale z s.firstEvaluation :=
        readsStale_evaluateZones (s := s.firstEvalEnded) stale (.inl (mem_unevaluated.mpr none))
      exact ⟨(reads.finishEvent s).thermal, (reads.finishEvent s).computed⟩
    · have out : z ∉ s.unevaluated := fun mem => evaluated (mem_unevaluated.mp mem)
      exact ⟨(congrArg ZoneRec.thermal (steady.zone z out) :), steady.demand out⟩
  · have frame : Changes (.ev :: .out :: .revs :: ownerPieces) s (finishEvent s (s.holdExpired z)) :=
      (changes_holdExpired s z).mono.trans (changes_finishEvent _ _).mono
    refine ⟨_, exec_decreaseHoldExpiry b runs, finishEvent_holdExpired_demand b.2 z s, fun other => ?_,
      Changes.of_ev frame.mono ((finishEvent_ev s _).trans b.2.symm)⟩
    exact (steady_finishEvent_holdExpired b.2 z s).demand (by simpa using other)

end Sys2Proof.Machine
end

section
/-!
What the acts of the yaw engine leave of the routes and of the engine's own laws (R127, R132, R138, R140, R145).
-/
namespace Sys2Proof.Machine

section
variable {s t u : State} {r : Fin 6}

/-! ### The RUNNING route (R132) -/

theorem runningRoute_eq_none : s.runningRoute = none ↔ ∀ q : Fin 6, (s.routes.routes[q]).state ≠ .running := by
  rw [State.runningRoute, List.find?_eq_none]
  exact ⟨fun none q => by simpa using none q (by fin_cases q <;> decide), fun none q _ => by simpa using none q⟩

theorem runningRoute_runs (h : s.runningRoute = some r) : (s.routes.routes[r]).state = .running := by
  simpa using List.find?_some h

theorem OneRuns.runningRoute_eq (one : OneRuns s) (runs : (s.routes.routes[r]).state = .running) :
    s.runningRoute = some r := by
  cases h : s.runningRoute with
  | none => exact absurd runs (runningRoute_eq_none.mp h r)
  | some q => rw [one q r (runningRoute_runs h) runs]

/-! ### The acts of the engine on the routes -/

/-- From `s` to `t` the yaw engine has acted: of the routes on the RUNNING one alone, which keeps its slots. -/
structure EngineActs (s t : State) : Prop extends YawActs s t where
  known : t.yaw.known = s.yaw.known
  others : ∀ q : Fin 6, (s.routes.routes[q]).state ≠ .running → t.routes.routes[q] = s.routes.routes[q]
  slots : ∀ q : Fin 6, (t.routes.routes[q]).slots = (s.routes.routes[q]).slots
  running : ∀ q : Fin 6, (t.routes.routes[q]).state = .running → (s.routes.routes[q]).state = .running
  segments : t.routes.segments = s.routes.segments

theorem EngineActs.trans (h : EngineActs s t) (k : EngineActs t u) : EngineActs s u := by
  refine ⟨h.toYawActs.trans k.toYawActs, k.known.trans h.known, fun q still => ?_,
    fun q => (k.slots q).trans (h.slots q), fun q runs => h.running q (k.running q runs), k.segments.trans h.segments⟩
  have same := h.others q still
  exact (k.others q (same ▸ still)).trans same

theorem EngineActs.ite {a b : State} {c : Prop} [Decidable c] (ha : EngineActs s a) (hb : EngineActs s b) :
    EngineActs s (if c then a else b) := by
  split <;> assumption

theorem EngineActs.of_routes (acts : YawActs s t) (known : t.yaw.known = s.yaw.known) (routes : t.routes = s.routes) :
    EngineActs s t :=
  ⟨acts, known, fun q _ => by rw [routes], fun q => by rw [routes], fun q => by rw [routes]; exact id, by rw [routes]⟩

theorem EngineActs.refl (s : State) : EngineActs s s := .of_routes (.refl s) rfl rfl

theorem engineActs_yaw (s : State) {y : Yaw} (known : y.known = s.yaw.known) : EngineActs s { s with yaw := y } :=
  .of_routes (yawActs_yaw s y) known rfl

theorem engineActs_setRoute {x : Route} (runs : (s.routes.routes[r]).state = .running)
    (slots : x.slots = (s.routes.routes[r]).slots) : EngineActs s (s.setRoute r x) := by
  refine ⟨.of_changes (changes_setRoute s r x).mono, rfl, fun q still => ?_, fun q => ?_, fun q ran => ?_, rfl⟩
  · exact setRoute_routes_other s x fun e => still (e ▸ runs)
  · by_cases own : q = r
    · rw [own, setRoute_routes_self, slots]
    · rw [setRoute_routes_other s x own]
  · by_cases own : q = r
    · rwa [own]
    · rwa [setRoute_routes_other s x own] at ran

theorem engineActs_endRoute (s : State) (o : RouteOutcome) : EngineActs s (s.endRoute o) := by
  unfold State.endRoute
  split
  · exact .refl s
  · next r runs => exact engineActs_setRoute (runningRoute_runs runs) rfl

theorem engineActs_completeTurn (s : State) : EngineActs s s.completeTurn := by
  unfold State.completeTurn
  split
  · exact .refl s
  · next r runs =>
    have done := fun d => engineActs_setRoute (x := { s.routes.routes[r] with done := d }) (runningRoute_runs runs) rfl
    exact .ite ((done _).trans (engineActs_endRoute _ _)) (done _)

theorem engineActs_engineRequest (s : State) (n : Nat) : EngineActs s (s.engineRequest 0 n) :=
  have same := changes_engineRequest s 0 n
  .of_routes (yawActs_engineRequest s n) (congrArg Yaw.known (same .yaw (by decide))) (same .routes (by decide))

theorem engineActs_align (s : State) (a : Alignment) : EngineActs s { s with align := a } :=
  .of_routes (.of_changes (changes_align s a).mono) rfl rfl

theorem engineActs_park (s : State) : EngineActs s s.park :=
  ((engineActs_yaw s (by rfl)).trans (engineActs_align _ _)).trans (engineActs_engineRequest _ _)

theorem engineActs_enterSettling (s : State) : EngineActs s s.enterSettling := engineActs_yaw s rfl

theorem engineActs_applyBrake (s : State) : EngineActs s s.applyBrake := engineActs_yaw s rfl

theorem engineActs_startSegment (s : State) : EngineActs s s.startSegment := by
  unfold State.startSegment
  split
  · exact .refl s
  · have planned := fun d v l x => engineActs_yaw s
      (y := { s.yaw with direction := d, travel := v, target := l, stageLeft := x }) rfl
    exact .ite (((planned _ _ _ _).trans (engineActs_endRoute _ _)).trans (engineActs_applyBrake _))
      (.ite (((planned _ _ _ _).trans (engineActs_completeTurn _)).trans (engineActs_applyBrake _))
        ((planned _ _ _ _).trans (engineActs_yaw _ rfl)))

theorem engineActs_enterReleasing (s : State) : EngineActs s s.enterReleasing :=
  .ite ((engineActs_yaw s (by rfl)).trans (engineActs_startSegment _)) (engineActs_yaw s rfl)

theorem engineActs_leaveBraking (s : State) : EngineActs s s.leaveBraking := by
  unfold State.leaveBraking
  split
  · exact engineActs_park s
  split
  · exact (engineActs_yaw s (by rfl)).trans (engineActs_enterReleasing _)
  split
  · split
    · exact engineActs_yaw s rfl
    · exact (engineActs_yaw s (by rfl)).trans (engineActs_enterReleasing _)
  · exact engineActs_park s

theorem engineActs_enterBraking (s : State) : EngineActs s s.enterBraking :=
  .ite (engineActs_applyBrake s) ((engineActs_applyBrake s).trans (engineActs_leaveBraking _))

theorem engineActs_stopPath (s : State) : EngineActs s s.stopPath := by
  unfold State.stopPath
  split
  · exact engineActs_park s
  · exact engineActs_enterBraking s
  · exact engineActs_enterSettling s
  · exact engineActs_park s
  · exact .refl s
  · exact .refl s
  · exact .refl s

theorem engineActs_stopRunning (s : State) (o : RouteOutcome) : EngineActs s (s.stopRunning o) :=
  .ite ((engineActs_endRoute s o).trans (engineActs_stopPath _)) (.refl s)

theorem engineActs_takeRoute (s : State) (r : Fin 6) : EngineActs s (s.takeRoute r) := engineActs_yaw s rfl

theorem engineActs_startRun (s : State) (r : Fin 6) : EngineActs s (s.startRun r) :=
  ((engineActs_yaw s (by rfl)).trans (engineActs_align _ _)).trans (engineActs_engineRequest _ _)

theorem engineActs_preempt (s : State) (r : Fin 6) : EngineActs s (s.preempt r) := by
  have taken := engineActs_takeRoute s r
  unfold State.preempt
  simp only
  split
  · exact taken.trans (engineActs_yaw _ rfl)
  · exact taken.trans (engineActs_enterBraking _)
  · exact taken.trans (engineActs_enterSettling _)
  · exact taken.trans (engineActs_enterReleasing _)
  · exact taken
  · exact taken
  · exact taken

/-! ### What the acts keep -/

theorem EngineActs.hold (h : EngineActs s t) : t.hold = s.hold := h.rest .hold (by decide)

theorem EngineActs.port (h : EngineActs s t) : t.port = s.port := h.rest .port (by decide)

theorem EngineActs.inputs (h : EngineActs s t) : t.inputs = s.inputs := h.rest .inputs (by decide)

theorem EngineActs.store (h : EngineActs s t) : t.store = s.store := h.rest .store (by decide)

theorem EngineActs.oneRuns (h : EngineActs s t) (one : OneRuns s) : OneRuns t := fun p q runs also =>
  one p q (h.running p runs) (h.running q also)

theorem EngineActs.slotsOwned (h : EngineActs s t) (owned : SlotsOwned s) : SlotsOwned t := fun q slot mem => by
  rw [h.segments]
  exact owned q slot (h.slots q ▸ mem)

theorem EngineActs.composes (h : EngineActs s t) (composes : Composes s) : Composes t := fun q open_ => by
  obtain ⟨manual, composing⟩ := composes q (h.port ▸ open_)
  exact ⟨manual, (congrArg Route.state (h.others q (by rw [composing]; exact nofun))).trans composing⟩

theorem EngineActs.runningRoute_none (h : EngineActs s t) (idle : s.runningRoute = none) : t.runningRoute = none :=
  runningRoute_eq_none.mpr fun q runs => runningRoute_eq_none.mp idle q (h.running q runs)

/-- A route that runs after the acts ran before them. -/
theorem EngineActs.runningRoute_some (h : EngineActs s t) (one : OneRuns s) (runs : t.runningRoute = some r) :
    s.runningRoute = some r := one.runningRoute_eq (h.running r (runningRoute_runs runs))

/-- After the RUNNING route ends, none runs (R132, R133). -/
theorem endRoute_runningRoute (one : OneRuns s) (o : RouteOutcome) : (s.endRoute o).runningRoute = none := by
  refine runningRoute_eq_none.mpr fun q runs => ?_
  have own := one.runningRoute_eq ((engineActs_endRoute s o).running q runs)
  rw [State.endRoute, own] at runs
  simp at runs

theorem stopRunning_runningRoute (one : OneRuns s) (o : RouteOutcome) : (s.stopRunning o).runningRoute = none := by
  unfold State.stopRunning
  split
  · exact (engineActs_stopPath _).runningRoute_none (endRoute_runningRoute one o)
  · next idle => exact Option.not_isSome_iff_eq_none.mp idle

end

end Sys2Proof.Machine
end

section
/-!
The laws of the yaw, but for what the records say of INHIBIT_YAW, through each act of the engine (R132, R138, R140, R145).
-/
namespace Sys2Proof.Machine

section
variable {s t u : State} {r : Fin 6}

/-! ### The laws taken apart -/

/-- The engine may work: the yaw is known, no reset holds the part, and a RUNNING route is the engine's. -/
structure State.Works (s : State) : Prop where
  known : s.yaw.known = true
  free : s.hold = none
  route : ∀ q : Fin 6, s.runningRoute = some q → s.yaw.route = some q

/-- What TURNING asks for: the brake open, a segment to judge the steps by, a twist past the limit not wound further. -/
structure State.Turns (s : State) : Prop where
  brake : s.level .brakeOpen = true
  segment : s.presentSegment.isSome = true
  within : s.setting Setting.twistHardLimit ≤ s.yaw.twist.natAbs → s.yaw.winding = false

/-- The state of the engine is one that its route, the yaw and the brake allow. -/
structure State.Steered (s : State) : Prop where
  works : s.yaw.engine ≠ .parked → s.Works
  engaged : s.yaw.engine.engaged = true → s.runningRoute.isSome = true
  turns : s.yaw.engine = .turning → s.Turns
  held : s.hold.isSome = true → s.runningRoute = none

/-- The laws of the routes and of the engine, but for INHIBIT_YAW. -/
structure State.OnCourse (s : State) : Prop where
  one : OneRuns s
  owned : SlotsOwned s
  steered : s.Steered

/-- The Yaw Sequencer has heeded what it was told of INHIBIT_YAW (R149). -/
abbrev State.Heeds (s : State) : Prop := s.cond.told.inhibitYaw = true → s.runningRoute = none

/-- Outside a reset the Yaw Sequencer has heard whether INHIBIT_YAW is in force (R165). -/
abbrev State.Heard (s : State) : Prop := s.hold = none → s.cond.told.inhibitYaw = s.inhibitInForce

theorem yawLaws_iff : YawLaws s ↔ Composes s ∧ s.OnCourse ∧ s.Heeds ∧ s.Heard := by
  constructor
  · rintro ⟨composes, one, unknown, owned, ⟨brake, engaged, inhibited, heard, held⟩, turns, works⟩
    refine ⟨composes, ⟨one, owned, ⟨fun moving => ⟨?_, ?_, works moving⟩, engaged,
      fun turning => ⟨brake turning, (turns turning).1, (turns turning).2⟩, fun holds => (held holds).2⟩⟩,
      fun told => ?_, heard⟩
    · exact Bool.of_not_eq_false fun lost => moving (unknown lost)
    · exact Option.not_isSome_iff_eq_none.mp fun holds => moving (held holds).1
    · cases holds : s.hold with
      | none => exact inhibited ((heard holds).symm.trans told)
      | some k => exact (held (by rw [holds]; rfl)).2
  · rintro ⟨composes, ⟨one, owned, works, engaged, turns, held⟩, heeds, heard⟩
    refine ⟨composes, one, fun lost => ?_, owned, ⟨fun turning => (turns turning).brake, engaged, fun inhibit => ?_,
      heard, fun holds => ⟨?_, held holds⟩⟩, fun turning => ⟨(turns turning).segment, (turns turning).within⟩,
      fun moving => (works moving).route⟩
    · by_contra moving
      exact Bool.false_ne_true (lost.symm.trans (works moving).known)
    · cases holds : s.hold with
      | none => exact heeds ((heard holds).trans inhibit)
      | some k => exact held (by rw [holds]; rfl)
    · by_contra moving
      rw [(works moving).free] at holds
      cases holds

/-! ### Which states of the engine are allowed -/

theorem State.Works.congr (w : s.Works) (known : t.yaw.known = s.yaw.known) (hold : t.hold = s.hold)
    (route : t.yaw.route = s.yaw.route) (running : ∀ q, t.runningRoute = some q → s.runningRoute = some q) : t.Works :=
  ⟨known.trans w.known, hold.trans w.free, fun q runs => route.trans (w.route q (running q runs))⟩

theorem State.Works.yaw (w : s.Works) {y : Yaw} (known : y.known = s.yaw.known) (route : y.route = s.yaw.route) :
    ({ s with yaw := y } : State).Works := w.congr known rfl route fun _ => id

theorem EngineActs.works (h : EngineActs s t) (one : OneRuns s) (route : t.yaw.route = s.yaw.route) (w : s.Works) :
    t.Works :=
  w.congr h.known h.hold route fun _ => h.runningRoute_some one

theorem steered_of_parked (parked : s.yaw.engine = .parked) (held : s.hold.isSome = true → s.runningRoute = none) :
    s.Steered where
  works moving := absurd parked moving
  engaged busy := by rw [parked] at busy; cases busy
  turns turning := by rw [parked] at turning; cases turning
  held := held

theorem State.Works.steered (w : s.Works) (engaged : s.yaw.engine.engaged = true → s.runningRoute.isSome = true)
    (turns : s.yaw.engine = .turning → s.Turns) : s.Steered where
  works _ := w
  engaged := engaged
  turns := turns
  held holds := by rw [w.free] at holds; cases holds

/-- SETTLING and BRAKING ask for nothing more. -/
theorem State.Works.steered_resting (w : s.Works) (resting : s.yaw.engine = .settling ∨ s.yaw.engine = .braking) :
    s.Steered := by
  refine w.steered (fun busy => ?_) fun turning => ?_ <;> rcases resting with rest | rest
  · rw [rest] at busy; cases busy
  · rw [rest] at busy; cases busy
  · rw [rest] at turning; cases turning
  · rw [rest] at turning; cases turning

/-- CLAIMING, RELEASING and DWELLING ask for a RUNNING route. -/
theorem State.Works.steered_waiting (w : s.Works) (runs : s.runningRoute.isSome = true)
    (waiting : s.yaw.engine ≠ .turning) : s.Steered :=
  w.steered (fun _ => runs) fun turning => absurd turning waiting

/-! ### Segment start (R143, R144) -/

theorem plan_turnBy (g : Segment) (limit heading : Nat) (twist : Int) :
    ∃ d n, g.plan limit heading twist = turnBy d n twist := by
  have signed (amount : Int) : ∃ d n, turnSigned amount twist = turnBy d n twist := by
    unfold turnSigned
    split <;> exact ⟨_, _, rfl⟩
  have other (p : TurnPlan) (h : ∃ d n, p = turnBy d n twist) : ∃ d n, p.otherWay twist = turnBy d n twist := by
    unfold TurnPlan.otherWay
    split
    · exact h
    all_goals exact ⟨_, _, rfl⟩
  unfold Segment.plan
  simp only
  split
  · exact signed _
  split
  · exact signed _
  · exact ⟨_, _, rfl⟩
  · exact ⟨_, _, rfl⟩
  · split
    · exact other _ (signed _)
    · exact signed _

/-- A turn that would go past the limit is not begun, so that what is begun at or past the limit unwinds (R144). -/
theorem not_winding_of_planned {y : Yaw} {limit n : Nat} {d : Turn}
    (fits : (turnBy d n y.twist).pastLimit limit y.twist = false)
    (direction : y.direction = (turnBy d n y.twist).direction) (past : limit ≤ y.twist.natAbs) : y.winding = false := by
  have same : (turnBy d n y.twist).direction = if n = 0 then none else some d := rfl
  rw [same] at direction
  by_cases still : n = 0
  · simp [Yaw.winding, direction, still]
  · cases d <;> simp [TurnPlan.pastLimit, turnBy, Yaw.winding, direction, still] at fits ⊢ <;> omega

theorem steered_startSegment (w : s.Works) (one : OneRuns s) (releasing : s.yaw.engine = .releasing)
    (runs : s.runningRoute.isSome = true) (brake : s.level .brakeOpen = true) : s.startSegment.Steered := by
  unfold State.startSegment
  split
  · exact w.steered_waiting runs (by rw [releasing]; exact nofun)
  next g present =>
  simp only
  generalize planned : { s.yaw with
    direction := (g.plan (s.setting Setting.twistHardLimit) s.yaw.heading s.yaw.twist).direction,
    travel := some (g.plan (s.setting Setting.twistHardLimit) s.yaw.heading s.yaw.twist).travel,
    target := some (g.plan (s.setting Setting.twistHardLimit) s.yaw.heading s.yaw.twist).target,
    stageLeft := none } = y
  have braked (v : State) (acts : EngineActs { s with yaw := y } v) (route : v.yaw.route = y.route) :
      v.applyBrake.Steered := by
    have acts := ((engineActs_yaw s (y := y) (by rw [← planned])).trans acts).trans (engineActs_applyBrake v)
    exact (acts.works one (route.trans (by rw [← planned])) w).steered_resting (.inr rfl)
  split
  · exact braked _ (engineActs_endRoute _ _) (congrArg Yaw.route (changes_endRoute _ _ .yaw (by decide)))
  next fits =>
  split
  · exact braked _ (engineActs_completeTurn _) (congrArg Yaw.route (changes_completeTurn _ .yaw (by decide)))
  · have turning : (State.enterTurning g (g.plan (s.setting Setting.twistHardLimit) s.yaw.heading s.yaw.twist).travel
        { s with yaw := y }).Works := by
      rw [← planned]
      exact w.congr rfl rfl rfl fun _ => id
    refine turning.steered (fun _ => runs) fun _ => ⟨brake, ?_, ?_⟩
    · rw [← planned]
      exact Option.isSome_iff_exists.mpr ⟨g, present⟩
    · obtain ⟨d, n, plan⟩ := plan_turnBy g (s.setting Setting.twistHardLimit) s.yaw.heading s.yaw.twist
      rw [plan] at fits planned
      rw [← planned]
      exact not_winding_of_planned (Bool.eq_false_iff.mpr fits) rfl

/-! ### The moves between the engine states (R141 to R152) -/

theorem park_engine (s : State) : s.park.yaw.engine = .parked := by
  unfold State.park
  rw [changes_engineRequest _ 0 0 .yaw (by decide)]
  rfl

theorem steered_park (held : s.hold.isSome = true → s.runningRoute = none) : s.park.Steered := by
  have acts := engineActs_park s
  exact steered_of_parked (park_engine s) fun holds => acts.runningRoute_none (held (acts.hold ▸ holds))

theorem State.Works.steered_park (w : s.Works) : s.park.Steered :=
  Machine.steered_park fun holds => by rw [w.free] at holds; cases holds

theorem State.Works.steered_enterReleasing (w : s.Works) (one : OneRuns s) (runs : s.runningRoute.isSome = true) :
    s.enterReleasing.Steered := by
  unfold State.enterReleasing
  simp only
  split
  · next brake => exact steered_startSegment (w.yaw rfl rfl) one rfl runs brake
  · exact State.Works.steered_waiting (w.yaw (by rfl) (by rfl)) runs (by exact nofun)

theorem State.Works.steered_leaveBraking (w : s.Works) (one : OneRuns s) : s.leaveBraking.Steered := by
  unfold State.leaveBraking
  split
  · exact w.steered_park
  next r runs =>
  have runs : s.runningRoute.isSome = true := by rw [runs]; rfl
  split
  · exact State.Works.steered_enterReleasing (w.yaw (by rfl) (by rfl)) one runs
  split
  · split
    · exact State.Works.steered_waiting (w.yaw (by rfl) (by rfl)) runs (by exact nofun)
    · exact State.Works.steered_enterReleasing (w.yaw (by rfl) (by rfl)) one runs
  · exact w.steered_park

theorem State.Works.applyBrake (w : s.Works) : s.applyBrake.Works := w.congr rfl rfl rfl fun _ => id

theorem State.Works.steered_enterBraking (w : s.Works) (one : OneRuns s) : s.enterBraking.Steered := by
  unfold State.enterBraking
  split
  · exact w.applyBrake.steered_resting (.inr rfl)
  · exact w.applyBrake.steered_leaveBraking one

theorem State.Works.steered_enterSettling (w : s.Works) : s.enterSettling.Steered :=
  (w.congr (t := s.enterSettling) rfl rfl rfl fun _ => id).steered_resting (.inl rfl)

theorem endRoute_yaw (s : State) (o : RouteOutcome) : (s.endRoute o).yaw = s.yaw :=
  changes_endRoute s o .yaw (by decide)

theorem State.Works.endRoute (w : s.Works) (one : OneRuns s) (o : RouteOutcome) : (s.endRoute o).Works :=
  (engineActs_endRoute s o).works one (congrArg Yaw.route (endRoute_yaw s o)) w

/-- The stop path once the route has ended (R151). -/
theorem steered_stopPath (moving : s.yaw.engine ≠ .parked → s.Works) (one : OneRuns s) (ended : s.runningRoute = none) :
    s.stopPath.Steered := by
  unfold State.stopPath
  split
  case h_1 => exact steered_park fun _ => ended
  case h_2 engine => exact (moving (by rw [engine]; exact nofun)).steered_enterBraking one
  case h_3 engine => exact (moving (by rw [engine]; exact nofun)).steered_enterSettling
  case h_4 => exact steered_park fun _ => ended
  case h_5 engine => exact (moving (by rw [engine]; exact nofun)).steered_resting (.inl engine)
  case h_6 engine => exact (moving (by rw [engine]; exact nofun)).steered_resting (.inr engine)
  case h_7 engine => exact steered_of_parked engine fun _ => ended

theorem EngineActs.onCourse (h : EngineActs s t) (course : s.OnCourse) (steered : t.Steered) : t.OnCourse :=
  ⟨h.oneRuns course.one, h.slotsOwned course.owned, steered⟩

theorem State.OnCourse.stopRunning (course : s.OnCourse) (o : RouteOutcome) : (s.stopRunning o).OnCourse := by
  refine (engineActs_stopRunning s o).onCourse course ?_
  unfold State.stopRunning
  split
  · refine steered_stopPath (fun moving => ?_) ((engineActs_endRoute s o).oneRuns course.one)
      (endRoute_runningRoute course.one o)
    rw [endRoute_yaw] at moving
    exact (course.steered.works moving).endRoute course.one o
  · exact course.steered

/-! ### Admitting a route (R132, R141, R152) -/

/-- The routes as an admission leaves them, before the engine acts on it: the RUNNING one PREEMPTED, the new one RUNNING. -/
def State.admitted (r : Fin 6) (s : State) : State :=
  (s.endRoute .preempted).setRoute r
    { (s.endRoute .preempted).routes.routes[r] with state := .running, done := some 0, outcome := none, endedIn := none }

theorem admitRoute_eq (s : State) (r : Fin 6) :
    s.admitRoute r = if s.runningRoute.isSome then (s.admitted r).preempt r else (s.admitted r).startRun r := rfl

theorem changes_admitted (s : State) (r : Fin 6) : Changes [.routes] s (s.admitted r) :=
  (changes_endRoute s _).trans (changes_setRoute _ r _)

theorem admitted_self (s : State) (r : Fin 6) : ((s.admitted r).routes.routes[r]).state = .running := by
  rw [State.admitted, setRoute_routes_self]

theorem admitted_running (one : OneRuns s) {q : Fin 6} (runs : ((s.admitted r).routes.routes[q]).state = .running) :
    q = r := by
  by_contra other
  rw [State.admitted, setRoute_routes_other _ _ other] at runs
  exact runningRoute_eq_none.mp (endRoute_runningRoute one .preempted) q runs

theorem oneRuns_admitted (one : OneRuns s) (r : Fin 6) : OneRuns (s.admitted r) := fun _ _ runs also =>
  (admitted_running one runs).trans (admitted_running one also).symm

theorem admitted_runningRoute (one : OneRuns s) (r : Fin 6) : (s.admitted r).runningRoute = some r :=
  (oneRuns_admitted one r).runningRoute_eq (admitted_self s r)

theorem admitted_slots (s : State) (r q : Fin 6) :
    ((s.admitted r).routes.routes[q]).slots = (s.routes.routes[q]).slots := by
  rw [← (engineActs_endRoute s .preempted).slots q, State.admitted]
  by_cases own : q = r
  · rw [own, setRoute_routes_self]
  · rw [setRoute_routes_other _ _ own]

theorem admitted_segments (s : State) (r : Fin 6) : (s.admitted r).routes.segments = s.routes.segments :=
  (engineActs_endRoute s .preempted).segments

theorem slotsOwned_admitted (owned : SlotsOwned s) (r : Fin 6) : SlotsOwned (s.admitted r) := fun q slot mem => by
  rw [admitted_segments]
  exact owned q slot (admitted_slots s r q ▸ mem)

/-- An admission leaves every route that is composed as it is, the route admitted apart. -/
theorem admitted_composing {q : Fin 6} (other : q ≠ r) (composing : (s.routes.routes[q]).state = .composing) :
    ((s.admitted r).routes.routes[q]).state = .composing := by
  rw [State.admitted, setRoute_routes_other _ _ other,
    (engineActs_endRoute s .preempted).others q (by rw [composing]; exact nofun), composing]

theorem engineActs_admitRoute (s : State) (r : Fin 6) : EngineActs (s.admitted r) (s.admitRoute r) := by
  rw [admitRoute_eq]
  exact .ite (engineActs_preempt _ r) (engineActs_startRun _ r)

theorem works_takeRoute (one : OneRuns s) (known : s.yaw.known = true) (free : s.hold = none) (r : Fin 6) :
    ((s.admitted r).takeRoute r).Works where
  known := (congrArg Yaw.known (changes_admitted s r .yaw (by decide))).trans known
  free := (changes_admitted s r .hold (by decide)).trans free
  route q runs := by
    have own := (admitted_runningRoute one r).symm.trans runs
    exact own

theorem steered_preempt (course : s.OnCourse) (known : s.yaw.known = true) (free : s.hold = none) (r : Fin 6) :
    ((s.admitted r).preempt r).Steered := by
  have works := works_takeRoute course.one known free r
  have one : OneRuns ((s.admitted r).takeRoute r) := oneRuns_admitted course.one r
  have runs : ((s.admitted r).takeRoute r).runningRoute.isSome = true := by
    rw [show ((s.admitted r).takeRoute r).runningRoute = _ from admitted_runningRoute course.one r]
    rfl
  unfold State.preempt
  simp only
  split
  case h_1 engine =>
    have claiming : (((s.admitted r).takeRoute r).startClaimWait).yaw.engine = .claiming := engine
    exact State.Works.steered_waiting (works.yaw rfl rfl) runs (by rw [claiming]; exact nofun)
  case h_2 => exact works.steered_enterBraking one
  case h_3 => exact works.steered_enterSettling
  case h_4 => exact works.steered_enterReleasing one runs
  case h_5 engine => exact works.steered_resting (.inl engine)
  case h_6 engine => exact works.steered_resting (.inr engine)
  case h_7 engine => exact steered_of_parked engine fun holds => by rw [works.free] at holds; cases holds

theorem startRun_yaw (s : State) (r : Fin 6) :
    (s.startRun r).yaw =
      { s.yaw with
        engine := .claiming, route := some r, position := 1, begun := false,
        stageLeft := some (1000 * s.setting Setting.claimWait) } :=
  changes_engineRequest _ 0 yawAsk .yaw (by decide)

theorem steered_startRun (course : s.OnCourse) (known : s.yaw.known = true) (free : s.hold = none) (r : Fin 6) :
    ((s.admitted r).startRun r).Steered := by
  have works := works_takeRoute course.one known free r
  have routes : ((s.admitted r).startRun r).routes = (s.admitted r).routes :=
    changes_engineRequest _ 0 yawAsk .routes (by decide)
  have running : ((s.admitted r).startRun r).runningRoute = (s.admitted r).runningRoute := by
    unfold State.runningRoute
    rw [routes]
  have yaw := startRun_yaw (s.admitted r) r
  have still : ((s.admitted r).startRun r).Works :=
    works.congr (by rw [yaw]; rfl) (engineActs_startRun _ r).hold (by rw [yaw]; rfl) fun q runs => running ▸ runs
  refine still.steered_waiting ?_ ?_
  · rw [running, admitted_runningRoute course.one]
    rfl
  · rw [yaw]
    exact nofun

theorem State.OnCourse.admitRoute (course : s.OnCourse) (known : s.yaw.known = true) (free : s.hold = none) (r : Fin 6) :
    (s.admitRoute r).OnCourse := by
  have acts := engineActs_admitRoute s r
  refine ⟨acts.oneRuns (oneRuns_admitted course.one r), acts.slotsOwned (slotsOwned_admitted course.owned r), ?_⟩
  rw [admitRoute_eq]
  split
  · exact steered_preempt course known free r
  · exact steered_startRun course known free r

end

end Sys2Proof.Machine
end

section
/-!
What the blocks do between two states, as far as the laws of the yaw go (R127, R128, R132, R138, R140, R145): what leaves
them untouched, what the telling of the consequences comes to, and every arrival from these.
-/
namespace Sys2Proof.Machine

section
variable {s t u : State}

/-! ### What the laws do not speak of -/

/-- Nothing that the laws of the yaw speak of differs, but perhaps INHIBIT_YAW. -/
structure YawUntouched (s t : State) : Prop where
  routes : t.routes = s.routes
  yaw : t.yaw = s.yaw
  composing : t.port.composing = s.port.composing
  hold : t.hold = s.hold
  turns : s.yaw.engine = .turning → s.Turns → t.Turns

/-- Nothing that the laws of the yaw speak of differs. -/
structure YawStill (s t : State) : Prop extends YawUntouched s t where
  told : t.cond.told = s.cond.told
  inForce : t.inhibitInForce = s.inhibitInForce

theorem YawUntouched.trans (h : YawUntouched s t) (k : YawUntouched t u) : YawUntouched s u :=
  ⟨k.routes.trans h.routes, k.yaw.trans h.yaw, k.composing.trans h.composing, k.hold.trans h.hold,
    fun turning turns => k.turns (h.yaw ▸ turning) (h.turns turning turns)⟩

theorem YawStill.trans (h : YawStill s t) (k : YawStill t u) : YawStill s u :=
  ⟨h.toYawUntouched.trans k.toYawUntouched, k.told.trans h.told, k.inForce.trans h.inForce⟩

theorem State.Turns.congr (h : s.Turns) (level : t.level .brakeOpen = s.level .brakeOpen) (routes : t.routes = s.routes)
    (yaw : t.yaw = s.yaw) (limit : t.setting Setting.twistHardLimit = s.setting Setting.twistHardLimit) : t.Turns where
  brake := level.trans h.brake
  segment := by
    have same : t.presentSegment = s.presentSegment := by
      unfold State.presentSegment State.segmentAt
      rw [yaw, routes]
    exact same ▸ h.segment
  within past := by
    rw [yaw] at past ⊢
    exact h.within (limit ▸ past)

theorem runningRoute_congr (routes : t.routes = s.routes) : t.runningRoute = s.runningRoute := by
  unfold State.runningRoute
  rw [routes]

/-- Nothing the laws of the yaw speak of stands in the pieces, but the consequences. -/
def YawFree (ps : List Piece) : Bool :=
  ps.all fun p => p != .routes && p != .yaw && p != .port && p != .hold && p != .inputs && p != .store

theorem YawFree.not_mem {ps : List Piece} (free : YawFree ps = true) {p : Piece} (mem : p ∈ ps) :
    p ≠ .routes ∧ p ≠ .yaw ∧ p ≠ .port ∧ p ≠ .hold ∧ p ≠ .inputs ∧ p ≠ .store := by
  simpa [and_assoc] using List.all_eq_true.mp free p mem

theorem yawUntouched_of_changes {ps : List Piece} (h : Changes ps s t) (free : YawFree ps = true) :
    YawUntouched s t := by
  have out := @YawFree.not_mem ps free
  have routes : t.routes = s.routes := h .routes fun mem => absurd rfl (out mem).1
  have yaw : t.yaw = s.yaw := h .yaw fun mem => absurd rfl (out mem).2.1
  have port : t.port = s.port := h .port fun mem => absurd rfl (out mem).2.2.1
  have hold : t.hold = s.hold := h .hold fun mem => absurd rfl (out mem).2.2.2.1
  have inputs : t.inputs = s.inputs := h .inputs fun mem => absurd rfl (out mem).2.2.2.2.1
  have store : t.store = s.store := h .store fun mem => absurd rfl (out mem).2.2.2.2.2
  refine ⟨routes, yaw, by rw [port], hold, fun _ turns => turns.congr ?_ routes yaw ?_⟩
  · rw [State.level, State.level, inputs]
  · rw [State.setting, State.setting, store]

/-- The pieces hold nothing the laws of the yaw speak of, the consequences among them. -/
def Steerless (ps : List Piece) : Bool := YawFree ps && ps.all fun p => p != .cond

theorem yawStill_of_changes {ps : List Piece} (h : Changes ps s t) (free : Steerless ps = true) : YawStill s t := by
  obtain ⟨free, deaf⟩ := Bool.and_eq_true_iff.mp free
  have cond : t.cond = s.cond := h .cond fun mem => by simpa using List.all_eq_true.mp deaf _ mem
  exact ⟨yawUntouched_of_changes h free, by rw [cond], by rw [State.inhibitInForce, State.inhibitInForce, cond]⟩

theorem ClaimsMove.yawStill (h : ClaimsMove s t) : YawStill s t :=
  ⟨yawUntouched_of_changes h.rest rfl, h.told, congrArg Consequences.inhibitYaw h.inForce⟩

theorem YawStill.refl (s : State) : YawStill s s := (ClaimsMove.refl s).yawStill

theorem YawStill.ite {a b : State} {c : Prop} [Decidable c] (ha : YawStill s a) (hb : YawStill s b) :
    YawStill s (if c then a else b) := by
  split <;> assumption

theorem YawStill.onlyIf {c : Prop} [Decidable c] (h : YawStill s t) (k : YawStill t u) :
    YawStill s (if c then u else t) := .ite (h.trans k) h

theorem YawUntouched.composes (h : YawUntouched s t) (composes : Composes s) : Composes t := fun q open_ => by
  rw [h.routes]
  exact composes q (h.composing ▸ open_)

theorem YawUntouched.onCourse (h : YawUntouched s t) (course : s.OnCourse) : t.OnCourse where
  one := by
    unfold OneRuns
    rw [h.routes]
    exact course.one
  owned := by
    unfold SlotsOwned
    rw [h.routes]
    exact course.owned
  steered := by
    have running := runningRoute_congr h.routes
    obtain ⟨works, engaged, turns, held⟩ := course.steered
    refine ⟨fun moving => ?_, ?_, fun turning => ?_, ?_⟩
    · exact (works (h.yaw ▸ moving)).congr (by rw [h.yaw]) h.hold (by rw [h.yaw]) fun q runs => running ▸ runs
    · rwa [h.yaw, running]
    · rw [h.yaw] at turning
      exact h.turns turning (turns turning)
    · rwa [h.hold, running]

/-! ### What keeps the laws -/

/-- The change from `s` to `t` begins and ends no reset and keeps the laws of the yaw; the law of the composing route (R128)
it keeps by itself. -/
structure YawKept (s t : State) : Prop where
  hold : t.hold = s.hold
  composes : Composes s → Composes t
  laws : s.hold = none → YawLaws s → YawLaws t

theorem YawKept.refl (s : State) : YawKept s s := ⟨rfl, id, fun _ => id⟩

theorem YawKept.trans (h : YawKept s t) (k : YawKept t u) : YawKept s u :=
  ⟨k.hold.trans h.hold, k.composes ∘ h.composes, fun free laws => k.laws (h.hold.trans free) (h.laws free laws)⟩

theorem YawKept.ite {a b : State} {c : Prop} [Decidable c] (ha : YawKept s a) (hb : YawKept s b) :
    YawKept s (if c then a else b) := by
  split <;> assumption

theorem YawKept.onlyIf {c : Prop} [Decidable c] (h : YawKept s t) (k : YawKept t u) :
    YawKept s (if c then u else t) := .ite (h.trans k) h

theorem YawKept.foldl {α : Type} {f : State → α → State} (hf : ∀ t x, YawKept t (f t x)) (l : List α) (s : State) :
    YawKept s (l.foldl f s) := by
  induction l generalizing s with
  | nil => exact .refl s
  | cons x l ih => exact (hf s x).trans (ih _)

theorem YawStill.heeds (h : YawStill s t) (heeds : s.Heeds) : t.Heeds := fun told => by
  rw [runningRoute_congr h.routes]
  exact heeds (h.told ▸ told)

theorem YawStill.heard (h : YawStill s t) (heard : s.Heard) : t.Heard := fun free => by
  rw [h.told, h.inForce]
  exact heard (h.hold ▸ free)

theorem YawStill.kept (h : YawStill s t) : YawKept s t := by
  refine ⟨h.hold, h.composes, fun _ laws => ?_⟩
  obtain ⟨composes, course, heeds, heard⟩ := yawLaws_iff.mp laws
  exact yawLaws_iff.mpr ⟨h.composes composes, h.onCourse course, h.heeds heeds, h.heard heard⟩

theorem yawKept_of_changes {ps : List Piece} (h : Changes ps s t) (free : Steerless ps = true) : YawKept s t :=
  (yawStill_of_changes h free).kept

theorem YawKept.rest {ps : List Piece} (h : YawKept s t) (k : Changes ps t u) (free : Steerless ps = true) :
    YawKept s u := h.trans (yawKept_of_changes k free)

/-! ### The acts of the yaw engine -/

theorem EngineActs.heeds (h : EngineActs s t) (heeds : s.Heeds) : t.Heeds := fun told =>
  h.runningRoute_none (heeds (h.told ▸ told))

theorem EngineActs.inhibit (h : EngineActs s t) : t.inhibitInForce = s.inhibitInForce :=
  congrArg Consequences.inhibitYaw h.inForce

theorem EngineActs.heard (h : EngineActs s t) (heard : s.Heard) : t.Heard := fun free => by
  rw [h.told, h.inhibit]
  exact heard (h.hold ▸ free)

/-- An act of the engine that leaves it in a state its route, the yaw and the brake allow. -/
theorem EngineActs.kept (h : EngineActs s t) (steered : s.OnCourse → t.Steered) : YawKept s t := by
  refine ⟨h.hold, h.composes, fun _ laws => ?_⟩
  obtain ⟨composes, course, heeds, heard⟩ := yawLaws_iff.mp laws
  exact yawLaws_iff.mpr ⟨h.composes composes, h.onCourse course (steered course), h.heeds heeds, h.heard heard⟩

theorem State.OnCourse.works (course : s.OnCourse) {e : EngineState} (engine : s.yaw.engine = e)
    (moving : e ≠ .parked) : s.Works := course.steered.works (engine ▸ moving)

theorem yawKept_stopRunning (s : State) (o : RouteOutcome) : YawKept s (s.stopRunning o) :=
  (engineActs_stopRunning s o).kept fun course => (course.stopRunning o).steered

/-- The brake hold alone is no law's (R150). -/
theorem yawKept_brakeHold (s : State) (b : Bool) : YawKept s { s with yaw := { s.yaw with brakeHold := b } } := by
  refine (engineActs_yaw s (by rfl)).kept fun course => ?_
  obtain ⟨works, engaged, turns, held⟩ := course.steered
  exact ⟨fun moving => (works moving).yaw rfl rfl, engaged, fun turning =>
    have ⟨brake, segment, within⟩ := turns turning
    ⟨brake, segment, within⟩, held⟩

theorem yawKept_yawShed (s : State) : YawKept s s.yawShed := (yawKept_brakeHold s true).trans (yawKept_stopRunning _ _)

theorem State.OnCourse.runs (course : s.OnCourse) {e : EngineState} (engine : s.yaw.engine = e)
    (engaged : e.engaged = true) : s.runningRoute.isSome = true := course.steered.engaged (engine ▸ engaged)

theorem yawKept_yawGranted (s : State) : YawKept s s.yawGranted := by
  unfold State.yawGranted
  split
  · next engine =>
    refine (engineActs_enterReleasing s).kept fun course => ?_
    exact (course.works engine nofun).steered_enterReleasing course.one (course.runs engine rfl)
  · exact .refl s

/-! ### Consequences told (R165) -/

theorem yawStill_shedService (s : State) : YawStill s s.shedService := (claimsMove_apportionStarting s _).yawStill

theorem changes_conditions (s : State) (c : Conditions) : Changes [.cond] s { s with cond := c } := by
  intro p out
  cases p
  case cond => exact absurd (by decide) out
  all_goals rfl

/-- Of what is told, the stop that INHIBIT_YAW asks for alone touches what the laws of the yaw speak of (R149). -/
theorem tell_stops (s : State) (told now : Consequences) :
    ∃ v, YawStill s v ∧
      YawStill (if now.inhibitYaw && !told.inhibitYaw then v.stopRunning .inhibited else v) (s.tell told now) := by
  unfold State.tell
  refine ⟨_, ?_, .onlyIf (.onlyIf (.refl _) (yawStill_shedService _)) (yawStill_of_changes (changes_claimEvent _) rfl)⟩
  exact .onlyIf (.onlyIf (.refl s) (yawStill_of_changes (changes_tripConverter s) rfl))
    (yawStill_of_changes (changes_holdConverter _) rfl)

/-- Judging tells the stop of INHIBIT_YAW, where it is not heeded yet, and nothing else that the laws speak of. -/
theorem judge_stops (s : State) :
    ∃ v, YawUntouched s v ∧ v.cond.told = s.cond.inForce ∧ v.inhibitInForce = s.inhibitInForce ∧
      YawStill (if s.inhibitInForce && !s.cond.told.inhibitYaw then v.stopRunning .inhibited else v) s.judge := by
  have retold : YawUntouched s { s with cond := { s.cond with told := s.cond.inForce } } :=
    yawUntouched_of_changes (changes_conditions s _) rfl
  obtain ⟨v, before, after⟩ :=
    tell_stops { s with cond := { s.cond with told := s.cond.inForce } } s.cond.told s.cond.inForce
  exact ⟨v, retold.trans before.toYawUntouched, before.told, before.inForce, after⟩

/-- Once the consequences are judged, INHIBIT_YAW is told and heeded. -/
theorem yawLaws_judge (composes : Composes s) (course : s.OnCourse) (heeds : s.Heeds) : YawLaws s.judge := by
  obtain ⟨v, untouched, told, inForce, after⟩ := judge_stops s
  have acts : EngineActs v (if s.inhibitInForce && !s.cond.told.inhibitYaw then v.stopRunning .inhibited else v) :=
    .ite (engineActs_stopRunning v _) (.refl v)
  have course := untouched.onCourse course
  have told : v.cond.told.inhibitYaw = s.inhibitInForce := congrArg Consequences.inhibitYaw told
  refine yawLaws_iff.mpr ⟨after.composes (acts.composes (untouched.composes composes)), after.onCourse ?_,
    after.heeds ?_, after.heard (acts.heard fun _ => told.trans inForce.symm)⟩
  · split
    · exact course.stopRunning _
    · exact course
  · split
    · exact fun _ => stopRunning_runningRoute course.one _
    · next unstopped =>
      intro inhibits
      rw [told] at inhibits
      rw [runningRoute_congr untouched.routes]
      exact heeds (by simpa [inhibits] using unstopped)

theorem YawUntouched.judge (h : YawUntouched s t) (told : t.cond.told = s.cond.told) : YawKept s t.judge := by
  obtain ⟨v, untouched, -, -, after⟩ := judge_stops t
  have acts : EngineActs v (if t.inhibitInForce && !t.cond.told.inhibitYaw then v.stopRunning .inhibited else v) :=
    .ite (engineActs_stopRunning v _) (.refl v)
  refine ⟨after.hold.trans (acts.hold.trans (untouched.hold.trans h.hold)),
    fun composes => after.composes (acts.composes (untouched.composes (h.composes composes))), fun _ laws => ?_⟩
  obtain ⟨composes, course, heeds, -⟩ := yawLaws_iff.mp laws
  refine yawLaws_judge (h.composes composes) (h.onCourse course) fun inhibits => ?_
  rw [runningRoute_congr h.routes]
  exact heeds (told ▸ inhibits)

theorem takeReports_told (s : State) (g : Group) : (s.takeReports g).cond.told = s.cond.told := by
  unfold State.takeReports
  induction g generalizing s with
  | nil => rfl
  | cons p g ih => rw [List.foldl_cons, ih, takeReport_told]

theorem yawKept_report (s : State) (g : Group) : YawKept s (s.report g) :=
  (yawUntouched_of_changes (changes_takeReports s g) rfl).judge (takeReports_told s g)

theorem stopPath_of_stopped (resting : s.yaw.engine = .settling ∨ s.yaw.engine = .braking) : s.stopPath = s := by
  unfold State.stopPath
  rcases resting with rest | rest <;> rw [rest]

/-- A report meets the engine in SETTLING or BRAKING: a stop leaves it there (R151). -/
theorem report_yaw_of_stopped (resting : s.yaw.engine = .settling ∨ s.yaw.engine = .braking) (g : Group) :
    (s.report g).yaw = s.yaw := by
  have taken : (s.takeReports g).yaw = s.yaw := changes_takeReports s g .yaw (by decide)
  obtain ⟨v, untouched, -, -, after⟩ := judge_stops (s.takeReports g)
  have yaw : v.yaw = s.yaw := untouched.yaw.trans taken
  have stopped : (v.stopRunning .inhibited).yaw = v.yaw := by
    unfold State.stopRunning
    split
    · rw [stopPath_of_stopped (by rwa [endRoute_yaw, yaw]), endRoute_yaw]
    · rfl
  refine after.yaw.trans (Eq.trans ?_ yaw)
  split
  · exact stopped
  · rfl

/-! ### The owners of the claims (R47) -/

theorem yawKept_tellConverter (before s : State) : YawKept s (State.tellConverter before s) := by
  have proven (c : Converter) : YawKept s { s with conv := c } := yawKept_of_changes (changes_conv s c) rfl
  unfold State.tellConverter
  simp only
  exact .ite (proven _) (.ite (.ite ((proven _).trans (yawKept_report _ _)) (proven _)) (.refl s))

theorem yawKept_tellOwners (before s : State) : YawKept s (State.tellOwners before s) := by
  refine ((yawKept_of_changes (changes_tellCooling before s) rfl).trans (yawKept_tellConverter before _)).trans ?_
  exact .ite (yawKept_yawGranted _) (.ite (yawKept_yawShed _) (.refl _))

theorem yawKept_grantOpportunity (s : State) : YawKept s s.grantOpportunity :=
  .ite ((claimsMove_apportionStarting s _).yawStill.kept.trans (yawKept_tellOwners s _)) (.refl s)

theorem yawKept_rebudget (old : Nat) (s : State) : YawKept s (s.rebudget old) :=
  .ite ((claimsMove_apportionStarting s _).yawStill.kept.trans (yawKept_tellOwners s _))
    (.ite (yawKept_of_changes (changes_claimEvent s) rfl) (.refl s))

/-! ### The Cooling Controller -/

theorem yawKept_driveActuators (s : State) (zs : List Zone) : YawKept s (State.driveActuators zs s) := by
  have asked (t : State) (z : Zone) : YawKept t (t.askActuator z) :=
    (yawStill_of_changes (changes_setZone t _ _) rfl).trans (claimsMove_engineRequest _ _ _).yawStill |>.kept
  exact ((YawKept.foldl asked zs s).rest (changes_noteActuators _ zs) rfl).trans (yawKept_tellOwners s _)

theorem yawKept_evaluateZones (s : State) (zs : List Zone) : YawKept s (State.evaluateZones zs s) := by
  have zones : Changes [.cool] s (zs.foldl (fun t z => t.setZone z (t.evaluated z)) s) :=
    Changes.foldl (fun t z => changes_setZone t z _) zs s
  exact (((yawKept_of_changes zones rfl).rest (changes_noteZeroHolds s _ zs) rfl).trans (yawKept_report _ _)).trans
    (yawKept_driveActuators _ _)

theorem yawKept_zoneEvaluated (s : State) (z : Zone) (r : ZoneRec) : YawKept s ((s.setZone z r).evaluateZones [z]) :=
  (yawKept_of_changes (changes_setZone s z r) rfl).trans (yawKept_evaluateZones _ _)

theorem yawKept_flowReport (s : State) (p : Pump) (f : FlowCheck) (g : Group) :
    YawKept s (((s.setFlow p f).report g).driveActuators [pumpZone p]) :=
  ((yawKept_of_changes (changes_setFlow s p f) rfl).trans (yawKept_report _ g)).trans (yawKept_driveActuators _ _)

theorem yawKept_flowChanged (s : State) (p : Pump) (b : Bool) : YawKept s (State.flowChanged p b s) := by
  have set (f : FlowCheck) : YawKept s (s.setFlow p f) := yawKept_of_changes (changes_setFlow s p f) rfl
  unfold State.flowChanged
  simp only
  split
  · exact .refl s
  · exact .ite (set _) (.refl s)
  · exact .ite (set _) (set _)
  · exact .ite (yawKept_flowReport s p _ _) (.refl s)

/-! ### The Supply Monitor and the Converter Sequencer -/

theorem changes_monitor (s : State) (u : Supply) : Changes [.supply] s { s with supply := u } := by
  intro p out
  cases p
  case supply => exact absurd (by decide) out
  all_goals rfl

theorem yawKept_supply (s : State) (u : Supply) : YawKept s { s with supply := u } :=
  yawKept_of_changes (changes_monitor s u) rfl

theorem yawKept_changeSupply (s : State) (n : SupplyState) (k : Option Nat) : YawKept s (State.changeSupply n k s) :=
  ((yawKept_supply s (s.supply.move n k)).trans (yawKept_rebudget _ _)).rest (changes_handSupply _ _ _) rfl

theorem yawKept_compareBackup (s : State) : YawKept s s.compareBackup := by
  unfold State.compareBackup
  split
  · exact yawKept_changeSupply s _ _
  · exact yawKept_changeSupply s _ _
  · exact .refl s

theorem yawKept_judgeSupply (s : State) (v : Nat) : YawKept s (State.judgeSupply v s) := by
  have count : YawKept s (State.countBelow v s) := yawKept_supply s _
  unfold State.judgeSupply
  split
  · exact .onlyIf count (yawKept_changeSupply _ _ _)
  · simp only
    split
    · exact count.trans (yawKept_changeSupply _ _ _)
    · exact count.trans (yawKept_supply _ _)
  · exact (yawKept_compareBackup s).trans (yawKept_supply _ _)
  · exact (yawKept_compareBackup s).trans (yawKept_supply _ _)

theorem yawKept_supplyMoved {f : State → State} (h : YawKept s (f s)) : YawKept s (State.supplyMoved f s) :=
  h.trans (yawKept_report _ _)

theorem yawKept_conv (s : State) (c : Converter) : YawKept s { s with conv := c } :=
  yawKept_of_changes (changes_conv s c) rfl

theorem yawKept_sequenceFrame (s : State) (v : Nat) : YawKept s (State.sequenceFrame v s) := by
  unfold State.sequenceFrame
  split
  · exact .ite (yawKept_conv s _) (.refl s)
  · exact .ite ((yawKept_conv s _).trans (yawKept_evaluateZones _ _)) (.refl s)
  · exact .refl s

theorem yawKept_converterFrame (s : State) (f : Fast) : YawKept s (State.converterFrame f s) :=
  ((yawKept_conv s _).trans (yawKept_sequenceFrame _ _)).trans (yawKept_report _ _)

theorem yawKept_dischargeExpired (s : State) : YawKept s s.dischargeExpired :=
  .ite ((yawKept_of_changes (changes_enterTripped s) rfl).trans (yawKept_report _ _)) (.refl s)

theorem yawKept_mainChanged (s : State) (b : Bool) : YawKept s (State.mainChanged b s) :=
  .ite (.ite (yawKept_conv s _) (.refl s)) (.ite (yawKept_report s _) (.refl s))

end

end Sys2Proof.Machine
end

section
/-!
The laws of the yaw through the arrivals at the Yaw Sequencer, the Alignment Unit, the lines and the Meter Receiver
(R120 to R125, R137 to R153, R170 to R175).
-/
namespace Sys2Proof.Machine

section
variable {s t u : State} {r : Fin 6}

/-! ### Encoder steps (R137, R145) -/

theorem yawKept_align (s : State) (a : Alignment) : YawKept s { s with align := a } :=
  yawKept_of_changes (changes_align s a) rfl

theorem yawKept_judgeUntwist (s : State) : YawKept s s.judgeUntwist :=
  .ite ((yawKept_align s _).trans (yawKept_report _ _)) (.refl s)

theorem engineActs_judgeTurn (s : State) : EngineActs s s.judgeTurn := by
  unfold State.judgeTurn
  split
  · have turned := engineActs_yaw s (y := { s.yaw with idleLeft := some (s.setting Setting.encoderIdleLimit) }) rfl
    exact .ite ((turned.trans (engineActs_completeTurn _)).trans (engineActs_enterSettling _))
      (.ite ((turned.trans (engineActs_endRoute _ _)).trans (engineActs_enterSettling _)) turned)
  · exact .refl s

/-- A step that leaves the engine TURNING at or past the limit has not wound the twist further (R145). -/
theorem steered_judgeTurn (works : s.yaw.engine ≠ .parked → s.Works) (one : OneRuns s)
    (engaged : s.yaw.engine.engaged = true → s.runningRoute.isSome = true)
    (held : s.hold.isSome = true → s.runningRoute = none)
    (turning : s.yaw.engine = .turning → s.level .brakeOpen = true ∧ s.presentSegment.isSome = true) :
    s.judgeTurn.Steered := by
  unfold State.judgeTurn
  split
  · next g engine present =>
    have works := works (by rw [engine]; exact nofun)
    have turned : ({ s with yaw := { s.yaw with idleLeft := some (s.setting Setting.encoderIdleLimit) } } : State).Works :=
      works.yaw rfl rfl
    simp only
    split
    · refine State.Works.steered_enterSettling ((engineActs_completeTurn _).works one ?_ turned)
      exact congrArg Yaw.route (changes_completeTurn _ .yaw (by decide))
    split
    · exact (turned.endRoute one _).steered_enterSettling
    · next within =>
      obtain ⟨brake, segment⟩ := turning engine
      refine turned.steered (fun _ => engaged (by rw [engine]; rfl)) fun _ => ⟨brake, segment, fun past => ?_⟩
      exact Bool.eq_false_iff.mpr fun winding => within ⟨past, winding⟩
  · next unturned =>
    refine ⟨works, engaged, fun engine => ?_, held⟩
    obtain ⟨g, present⟩ := Option.isSome_iff_exists.mp (turning engine).2
    exact absurd present (unturned g engine)

/-- A counted step moves the heading and the twist alone (R137). -/
theorem count_rest (cw : Bool) (y : Yaw) :
    y.count cw = { y with heading := (y.count cw).heading, twist := (y.count cw).twist } := by
  unfold Yaw.count
  split <;> rfl

theorem yawKept_countedTurn (s : State) (cw : Bool) : YawKept s { s with yaw := s.yaw.count cw }.judgeTurn := by
  rw [count_rest]
  refine ((engineActs_yaw s (by rfl)).trans (engineActs_judgeTurn _)).kept fun course => ?_
  obtain ⟨works, engaged, turns, held⟩ := course.steered
  exact steered_judgeTurn (fun moving => (works moving).yaw (by rfl) (by rfl)) course.one engaged held fun turning =>
    ⟨(turns turning).brake, (turns turning).segment⟩

theorem yawKept_encoderStep (s : State) (cw : Bool) : YawKept s (State.encoderStep cw s) :=
  .ite (((yawKept_countedTurn s cw).trans (yawKept_judgeUntwist _)).trans (yawKept_report _ _)) (.refl s)

/-! ### The inputs -/

theorem yawStill_inputs (s : State) (i : Inputs)
    (brake : s.yaw.engine = .turning → s.level .brakeOpen = true →
      ({ s with inputs := i } : State).level .brakeOpen = true) :
    YawStill s { s with inputs := i } :=
  ⟨⟨rfl, rfl, rfl, rfl, fun turning turns => ⟨brake turning turns.brake, turns.segment, turns.within⟩⟩, rfl, rfl⟩

theorem yawKept_encoderMoves (s : State) (a b : Bool) : YawKept s (State.encoderMoves a b s) := by
  have moved : YawKept s { s with inputs := { s.inputs with phaseA := a, phaseB := b } } :=
    (yawStill_inputs s _ fun _ open_ => by exact open_).kept
  unfold State.encoderMoves
  simp only
  split
  · exact moved
  · exact moved.trans (yawKept_encoderStep _ _)

/-! ### The yaw timers (R141 to R148) -/

theorem yawKept_claimWaitExpired (s : State) : YawKept s s.claimWaitExpired := by
  unfold State.claimWaitExpired
  split
  · next engine =>
    refine ((engineActs_endRoute s _).trans (engineActs_park _)).kept fun course => ?_
    exact ((course.works engine nofun).endRoute course.one _).steered_park
  · exact .refl s

theorem yawKept_releaseExpired (s : State) : YawKept s s.releaseExpired := by
  unfold State.releaseExpired
  split
  · next engine =>
    refine YawKept.trans (((engineActs_endRoute s _).trans (engineActs_enterBraking _)).kept fun course => ?_)
      (yawKept_report _ _)
    exact ((course.works engine nofun).endRoute course.one _).steered_enterBraking
      ((engineActs_endRoute s _).oneRuns course.one)
  · exact .refl s

theorem yawKept_stalled (s : State) : YawKept s s.stalled := by
  unfold State.stalled
  split
  · next engine =>
    refine YawKept.trans (((engineActs_endRoute s _).trans (engineActs_enterSettling _)).kept fun course => ?_)
      (yawKept_report _ _)
    exact ((course.works engine nofun).endRoute course.one _).steered_enterSettling
  · exact .refl s

theorem yawKept_settleExpired (s : State) : YawKept s s.settleExpired := by
  unfold State.settleExpired
  split
  · next engine =>
    exact (engineActs_enterBraking s).kept fun course => (course.works engine nofun).steered_enterBraking course.one
  · exact .refl s

theorem yawKept_leaveBraking (engine : s.yaw.engine = .braking) : YawKept s s.leaveBraking :=
  (engineActs_leaveBraking s).kept fun course => (course.works engine nofun).steered_leaveBraking course.one

theorem yawKept_applyExpired (s : State) : YawKept s s.applyExpired := by
  unfold State.applyExpired
  split
  · next engine =>
    refine (yawKept_report s _).trans (yawKept_leaveBraking ?_)
    rw [report_yaw_of_stopped (.inr engine), engine]
  · exact .refl s

theorem yawKept_dwellExpired (s : State) : YawKept s s.dwellExpired := by
  unfold State.dwellExpired
  split
  · next engine =>
    refine ((engineActs_yaw s (by rfl)).trans (engineActs_enterReleasing _)).kept fun course => ?_
    exact State.Works.steered_enterReleasing ((course.works engine nofun).yaw (by rfl) (by rfl)) course.one
      (course.runs engine rfl)
  · exact .refl s

/-! ### BRAKE_OPEN (R142, R146, R147, R153) -/

theorem yawKept_brakeRises (open_ : s.level .brakeOpen = true) : YawKept s s.brakeRises := by
  unfold State.brakeRises
  split
  · next engine =>
    refine (engineActs_startSegment s).kept fun course => ?_
    exact steered_startSegment (course.works engine nofun) course.one engine (course.runs engine rfl) open_
  · exact yawKept_report s _
  · exact yawKept_report s _
  · exact yawKept_report s _
  · exact .ite (yawKept_report s _) (.refl s)
  · exact .refl s
  · exact .refl s

theorem yawKept_enterSettling {e : EngineState} (engine : s.yaw.engine = e) (moving : e ≠ .parked) :
    YawKept s s.enterSettling :=
  (engineActs_enterSettling s).kept fun course => (course.works engine moving).steered_enterSettling

/-- The brake closes: in TURNING the engine goes to SETTLING before anything else is told (R146). -/
theorem yawKept_brakeFalls (s : State) (i : Inputs) : YawKept s ({ s with inputs := i } : State).brakeFalls := by
  have elsewhere (unturned : s.yaw.engine ≠ .turning) : YawKept s { s with inputs := i } :=
    (yawStill_inputs s i fun turning => absurd turning unturned).kept
  unfold State.brakeFalls
  split
  case h_1 engine =>
    have settled : YawKept s s.enterSettling := yawKept_enterSettling engine nofun
    have rests : s.enterSettling.yaw.engine ≠ .turning := by exact nofun
    have closed := settled.trans (yawStill_inputs _ i fun turning => absurd turning rests).kept
    exact closed.trans (yawKept_report _ _)
  case h_2 engine =>
    have moved := elsewhere fun turning => by rw [turning] at engine; cases engine
    exact .ite (moved.trans (yawKept_report _ _)) moved
  case h_3 engine =>
    exact (elsewhere fun turning => by rw [turning] at engine; cases engine).trans (yawKept_leaveBraking engine)
  all_goals
    next engine => exact elsewhere fun turning => by rw [turning] at engine; cases engine

/-! ### Changes of one route -/

/-- From `s` to `t` the store of routes has changed at the route `r` alone, which does not run and whose new slots are its
own: no other route has lost a segment. -/
structure RouteMoves (r : Fin 6) (s t : State) : Prop where
  rest : Changes [.routes, .port, .align] s t
  others : ∀ q : Fin 6, q ≠ r → t.routes.routes[q] = s.routes.routes[q]
  stood : (s.routes.routes[r]).state ≠ .running
  stands : (t.routes.routes[r]).state ≠ .running
  segments : SlotsOwned s → ∀ q : Fin 6, q ≠ r → ∀ slot ∈ (s.routes.routes[q]).slots,
    t.routes.segments[slot] = s.routes.segments[slot]
  owned : SlotsOwned s → ∀ slot ∈ (t.routes.routes[r]).slots,
    t.routes.segments[slot].map (·.route) = some r ∧ (r.val < 2 → slot.val = r.val) ∧ (2 ≤ r.val → 2 ≤ slot.val)

theorem RouteMoves.running (h : RouteMoves r s t) (q : Fin 6) :
    (t.routes.routes[q]).state = .running ↔ (s.routes.routes[q]).state = .running := by
  by_cases own : q = r
  · exact own ▸ iff_of_false h.stands h.stood
  · rw [h.others q own]

theorem RouteMoves.runningRoute (h : RouteMoves r s t) : t.runningRoute = s.runningRoute := by
  have same : ∀ q : Fin 6, ((t.routes.routes[q]).state == .running) = ((s.routes.routes[q]).state == .running) :=
    fun q => Bool.eq_iff_iff.mpr (by simpa using h.running q)
  unfold State.runningRoute
  simp only [same]

theorem RouteMoves.slotsOwned (h : RouteMoves r s t) (owned : SlotsOwned s) : SlotsOwned t := fun q slot mem => by
  by_cases own : q = r
  · subst own
    exact h.owned owned slot mem
  · rw [h.others q own] at mem
    rw [h.segments owned q own slot mem]
    exact owned q slot mem

/-- The segments of the route that runs stand. -/
theorem RouteMoves.segmentAt (h : RouteMoves r s t) (owned : SlotsOwned s) {q : Fin 6}
    (runs : (s.routes.routes[q]).state = .running) (n : Nat) : t.segmentAt q n = s.segmentAt q n := by
  have other : q ≠ r := fun own => h.stood (own ▸ runs)
  unfold State.segmentAt
  rw [h.others q other]
  cases at_ : (s.routes.routes[q]).slots[n - 1]? with
  | none => rfl
  | some slot => exact h.segments owned q other slot (List.mem_of_getElem? at_)

theorem RouteMoves.onCourse (h : RouteMoves r s t) (course : s.OnCourse) : t.OnCourse := by
  have yaw : t.yaw = s.yaw := h.rest .yaw (by decide)
  have hold : t.hold = s.hold := h.rest .hold (by decide)
  have inputs : t.inputs = s.inputs := h.rest .inputs (by decide)
  have store : t.store = s.store := h.rest .store (by decide)
  obtain ⟨one, owned, works, engaged, turns, held⟩ := course
  refine ⟨fun p q runs also => one p q ((h.running p).mp runs) ((h.running q).mp also), h.slotsOwned owned,
    fun moving => ?_, ?_, fun turning => ?_, ?_⟩
  · exact (works (yaw ▸ moving)).congr (by rw [yaw]) hold (by rw [yaw]) fun q runs => h.runningRoute ▸ runs
  · rwa [yaw, h.runningRoute]
  · rw [yaw] at turning
    obtain ⟨q, runs⟩ := Option.isSome_iff_exists.mp (engaged (by rw [turning]; rfl))
    obtain ⟨brake, segment, within⟩ := turns turning
    have route : s.yaw.route = some q := (works (by rw [turning]; exact nofun)).route q runs
    refine ⟨?_, ?_, ?_⟩
    · rwa [State.level, inputs]
    · rw [State.presentSegment, route, Option.bind_some] at segment
      rw [State.presentSegment, yaw, route, Option.bind_some, h.segmentAt owned (runningRoute_runs runs)]
      exact segment
    · rw [yaw, State.setting, store]
      exact within
  · rwa [hold, h.runningRoute]

theorem RouteMoves.kept (h : RouteMoves r s t) (composes : Composes s → Composes t) : YawKept s t := by
  have cond : t.cond = s.cond := h.rest .cond (by decide)
  have hold : t.hold = s.hold := h.rest .hold (by decide)
  refine ⟨hold, composes, fun _ laws => ?_⟩
  obtain ⟨composed, course, heeds, heard⟩ := yawLaws_iff.mp laws
  refine yawLaws_iff.mpr ⟨composes composed, h.onCourse course, ?_, ?_⟩
  · unfold State.Heeds
    rwa [cond, h.runningRoute]
  · unfold State.Heard State.inhibitInForce
    rwa [cond, hold]

/-- No two routes have a slot in common (R127). -/
theorem SlotsOwned.disjoint (owned : SlotsOwned s) {q : Fin 6} {slot : Fin 24} (mem : slot ∈ (s.routes.routes[q]).slots)
    (also : slot ∈ (s.routes.routes[r]).slots) : q = r :=
  Option.some.inj ((owned q slot mem).1.symm.trans (owned r slot also).1)

theorem setSegment_segments_self (s : State) (i : Fin 24) (g : Option Segment) :
    (s.setSegment i g).routes.segments[i] = g := by
  simp

theorem setSegment_segments_other (s : State) {i j : Fin 24} (g : Option Segment) (h : j ≠ i) :
    (s.setSegment i g).routes.segments[j] = s.routes.segments[j] := by
  have ne : i.val ≠ j.val := fun e => h (Fin.ext e.symm)
  simp [ne]

/-- A route that does not run is given a record that does not run, with its own slots or none. -/
theorem routeMoves_setRoute {x : Route} (stood : (s.routes.routes[r]).state ≠ .running) (stands : x.state ≠ .running)
    (slots : x.slots ⊆ (s.routes.routes[r]).slots) : RouteMoves r s (s.setRoute r x) where
  rest := (changes_setRoute s r x).mono
  others q other := setRoute_routes_other s x other
  stood := stood
  stands := by rwa [setRoute_routes_self]
  segments _ _ _ _ _ := rfl
  owned owned slot mem := by
    rw [setRoute_routes_self] at mem
    exact owned r slot (slots mem)

theorem RouteMoves.congr (h : RouteMoves r s t) (k : Changes [.port, .align] t u) : RouteMoves r s u where
  rest := h.rest.trans k.mono
  others := by rw [show u.routes = t.routes from k .routes (by decide)]; exact h.others
  stood := h.stood
  stands := by rw [show u.routes = t.routes from k .routes (by decide)]; exact h.stands
  segments := by rw [show u.routes = t.routes from k .routes (by decide)]; exact h.segments
  owned := by rw [show u.routes = t.routes from k .routes (by decide)]; exact h.owned

/-! ### Composing (R128 to R130, R134) -/

theorem routeMoves_appendSegment {slot : Fin 24} {g : Segment} (manual : 2 ≤ r.val)
    (composing : (s.routes.routes[r]).state = .composing) (free : s.freeSegment = some slot) :
    RouteMoves r s (s.appendSegment r slot g) := by
  obtain ⟨pool, empty⟩ : 2 ≤ slot.val ∧ s.routes.segments[slot] = none := by
    simpa using List.find?_some free
  have new := setSegment_segments_self s slot
    (some { g with route := r, position := (s.routes.routes[r]).slots.length + 1 })
  have taken (owned : SlotsOwned s) (q : Fin 6) {other : Fin 24} (mem : other ∈ (s.routes.routes[q]).slots) :
      other ≠ slot := fun e => by
    have own := (owned q other mem).1
    rw [e, empty] at own
    cases own
  refine ⟨((changes_setSegment s slot _).trans (changes_setRoute _ r _)).mono,
    fun q other => setRoute_routes_other _ _ other, by rw [composing]; exact nofun, ?_, fun owned q _ other mem => ?_, fun owned other mem => ?_⟩
  · rw [State.appendSegment, setRoute_routes_self, composing]
    exact nofun
  · exact setSegment_segments_other s _ (taken owned q mem)
  · rw [State.appendSegment, setRoute_routes_self] at mem
    rcases List.mem_append.mp mem with mem | mem
    · rw [State.appendSegment, setRoute_segments, setSegment_segments_other s _ (taken owned r mem)]
      exact owned r other mem
    · rw [List.mem_singleton.mp mem, State.appendSegment, setRoute_segments, new]
      exact ⟨rfl, fun auto => absurd manual (Nat.not_le.mpr auto), fun _ => pool⟩

theorem foldl_freed_segments (l : List (Fin 24)) (s : State) (slot : Fin 24) :
    (l.foldl (fun t i => t.setSegment i none) s).routes.segments[slot] =
      if slot ∈ l then none else s.routes.segments[slot] := by
  induction l generalizing s with
  | nil => simp
  | cons i l ih =>
    rw [List.foldl_cons, ih]
    by_cases own : slot = i
    · subst own
      simp
    · rw [setSegment_segments_other s none own]
      simp [own]

theorem foldl_freed_routes (l : List (Fin 24)) (s : State) :
    (l.foldl (fun t i => t.setSegment i none) s).routes.routes = s.routes.routes := by
  induction l generalizing s with
  | nil => rfl
  | cons i l ih => rw [List.foldl_cons, ih]; rfl

theorem emptyRoute_routes (s : State) (r : Fin 6) :
    (s.emptyRoute r).routes.routes = s.routes.routes.set r Route.empty := by
  rw [State.emptyRoute, setRoute_routes_routes, foldl_freed_routes]

theorem emptyRoute_segments (s : State) (r : Fin 6) (slot : Fin 24) :
    (s.emptyRoute r).routes.segments[slot] =
      if slot ∈ (s.routes.routes[r]).slots then none else s.routes.segments[slot] :=
  foldl_freed_segments _ s slot

theorem changes_emptyRoute (s : State) (r : Fin 6) : Changes [.routes] s (s.emptyRoute r) :=
  (Changes.foldl (f := fun t slot => t.setSegment slot none) (fun t slot => changes_setSegment t slot none) _ s).trans
    (changes_setRoute _ r _)

theorem emptyRoute_routes_self (s : State) (r : Fin 6) : (s.emptyRoute r).routes.routes[r] = Route.empty := by
  rw [State.emptyRoute, setRoute_routes_self]

theorem emptyRoute_routes_other (s : State) {q : Fin 6} (other : q ≠ r) :
    (s.emptyRoute r).routes.routes[q] = s.routes.routes[q] := by
  rw [State.emptyRoute, setRoute_routes_other _ _ other, foldl_freed_routes]

theorem routeMoves_emptyRoute (stood : (s.routes.routes[r]).state ≠ .running) : RouteMoves r s (s.emptyRoute r) where
  rest := (changes_emptyRoute s r).mono
  others q other := emptyRoute_routes_other s other
  stood := stood
  stands := by rw [emptyRoute_routes_self]; exact nofun
  segments owned q other slot mem := by
    rw [emptyRoute_segments, if_neg fun also => other (owned.disjoint mem also)]
  owned _ slot mem := by
    rw [emptyRoute_routes_self] at mem
    cases mem

/-! ### Admission (R122, R123, R132) -/

/-- A route is admitted with the yaw known, outside a reset and with INHIBIT_YAW not in force. -/
theorem yawKept_admitRoute (known : s.yaw.known = true) (allowed : s.inhibitInForce = false)
    (other : ∀ q : Fin 6, 2 ≤ q.val → (s.routes.routes[q]).state = .composing → q ≠ r) : YawKept s (s.admitRoute r) := by
  have acts := engineActs_admitRoute s r
  have rest := changes_admitted s r
  have hold : (s.admitted r).hold = s.hold := rest .hold (by decide)
  have cond : (s.admitted r).cond = s.cond := rest .cond (by decide)
  have composes (composes : Composes s) : Composes (s.admitRoute r) := by
    refine acts.composes fun q open_ => ?_
    rw [show (s.admitted r).port = s.port from rest .port (by decide)] at open_
    obtain ⟨manual, composing⟩ := composes q open_
    exact ⟨manual, admitted_composing (other q manual composing) composing⟩
  refine ⟨acts.hold.trans hold, composes, fun free laws => ?_⟩
  obtain ⟨composed, course, heeds, heard⟩ := yawLaws_iff.mp laws
  have told : (s.admitted r).cond.told.inhibitYaw = false := by
    rw [cond, heard free, allowed]
  refine yawLaws_iff.mpr ⟨composes composed, course.admitRoute known free r, acts.heeds ?_, acts.heard fun _ => ?_⟩
  · intro inhibited
    rw [told] at inhibited
    cases inhibited
  · rw [told, State.inhibitInForce, cond]
    exact allowed.symm

/-- A one-segment route of the Alignment Unit is written in its own slot, while no route runs. -/
theorem yawKept_runAlignment {slot : Fin 24} (own : slot.val = r.val) (auto : r.val < 2) (known : s.yaw.known = true)
    (idle : s.runningRoute = none) (allowed : s.inhibitInForce = false) (g : Trigger) (d : TargetKind) (v : Int)
    (e : SegDirection) (w : Speed) : YawKept s (State.runAlignment r slot g d v e w s) := by
  unfold State.runAlignment
  simp only
  generalize written : (s.setSegment slot (some ⟨r, 1, d, v, e, w, 0⟩)).setRoute r _ = t
  have stood := runningRoute_eq_none.mp idle r
  have moves : RouteMoves r s t := by
    rw [← written]
    refine ⟨((changes_setSegment s slot _).trans (changes_setRoute _ r _)).mono,
      fun q other => setRoute_routes_other _ _ other, stood, ?_, fun owned q other i mem => ?_, fun _ i mem => ?_⟩
    · rw [setRoute_routes_self]
      exact stood
    · refine setSegment_segments_other s _ fun e => ?_
      obtain ⟨-, low, high⟩ := owned q i mem
      rw [e] at low high
      rcases Nat.lt_or_ge q.val 2 with auto | manual
      · exact other (Fin.ext ((low auto).symm.trans own))
      · have := high manual
        omega
    · rw [setRoute_routes_self] at mem
      rw [List.mem_singleton.mp mem, setRoute_segments, setSegment_segments_self]
      exact ⟨rfl, fun _ => own, fun manual => absurd manual (Nat.not_le.mpr auto)⟩
  have noted : RouteMoves r s { t with align := { t.align with trigger := g, triggerTime := some s.store.partTime } } :=
    moves.congr (changes_align t _).mono
  refine YawKept.trans (noted.kept fun composes q open_ => ?_) (yawKept_admitRoute ?_ ?_ fun q manual _ e => ?_)
  · rw [show t.port = s.port by rw [← written]; rfl] at open_
    obtain ⟨manual, composing⟩ := composes q open_
    refine ⟨manual, ?_⟩
    rw [noted.others q fun e => absurd (e ▸ manual) (Nat.not_le.mpr auto), composing]
  · rw [← written]
    exact known
  · rw [← written]
    exact allowed
  · exact absurd (e ▸ manual) (Nat.not_le.mpr auto)

theorem mayAlign_iff {marked : Bool} (h : s.mayAlign marked = true) :
    s.yaw.known = true ∧ s.runningRoute = none ∧ s.inhibitInForce = false := by
  simp only [State.mayAlign, Bool.and_eq_true, Bool.not_eq_true', Option.isNone_iff_eq_none] at h
  obtain ⟨⟨⟨⟨-, known⟩, idle⟩, -⟩, allowed⟩ := h
  exact ⟨known, idle, allowed⟩

theorem yawKept_autoTrigger (s : State) (m : Option Int) (n : Nat) (b : Bool) :
    YawKept s (State.autoTrigger m n b s) := by
  unfold State.autoTrigger
  split
  · exact .refl s
  split
  · next meets =>
    obtain ⟨known, idle, allowed⟩ := mayAlign_iff (Bool.and_eq_true_iff.mp meets).2
    exact yawKept_runAlignment rfl (by decide) known idle allowed _ _ _ _ _
  · exact .refl s

theorem yawKept_shortCloses (s : State) : YawKept s s.shortCloses := by
  unfold State.shortCloses
  split
  · exact .refl s
  · exact (yawKept_align s _).trans (yawKept_autoTrigger _ _ _ _)

theorem yawKept_longCloses (s : State) : YawKept s s.longCloses := by
  unfold State.longCloses
  split
  · exact .refl s
  next w _ =>
  unfold State.closeLong
  simp only
  refine (yawKept_align s
    { s.align with lastLong := w.mean, long := some (Window.fresh (1000 * s.setting Setting.longWindow)) }).trans ?_
  split
  · split
    · next meets =>
      obtain ⟨known, idle, allowed⟩ := mayAlign_iff (Bool.and_eq_true_iff.mp meets).2
      exact yawKept_runAlignment rfl (by decide) known idle allowed _ _ _ _ _
    · exact ((yawKept_align _ _).trans (yawKept_report _ _)).trans (yawKept_autoTrigger _ _ _ _)
  · exact yawKept_autoTrigger _ _ _ _

end

end Sys2Proof.Machine
end

section
/-!
The laws of the yaw through the remaining arrivals, the end of an event and the items of a frame (R9 to R14, R40 to R44,
R128 to R134, R157 to R167, R170 to R175).
-/
namespace Sys2Proof.Machine

section
variable {s t u : State} {r : Fin 6}

/-! ### The Meter Receiver (R170 to R173) -/

theorem yawKept_meter (s : State) (m : Meter) : YawKept s { s with meter := m } :=
  yawKept_of_changes (changes_meter s m) rfl

theorem yawKept_windows (s : State) (f : Window → Window) : YawKept s (State.windows f s) :=
  yawKept_of_changes (changes_windows s f) rfl

theorem yawKept_motionIndex (s : State) (v : Int) : YawKept s (State.motionIndex v s) :=
  (YawKept.ite ((yawKept_align s _).trans (yawKept_windows _ _)) (yawKept_align s _)).trans (yawKept_report _ _)

theorem yawKept_slowValue (s : State) (c : Fin 8) (v : Int) : YawKept s (State.slowValue c v s) := by
  unfold State.slowValue
  split
  · exact yawKept_zoneEvaluated s _ _
  · exact .ite (yawKept_of_changes (changes_windDirection s _) rfl) (.ite (yawKept_motionIndex s _) (.refl s))

theorem yawKept_acceptFrame (s : State) (bytes : List Byte) : YawKept s (State.acceptFrame bytes s) := by
  unfold State.acceptFrame
  refine YawKept.trans ?_ (yawKept_slowValue _ _ _)
  refine YawKept.trans ?_ (yawKept_converterFrame _ _)
  refine YawKept.trans ?_ ((yawKept_judgeSupply _ _).trans (yawKept_report _ _))
  exact YawKept.ite (yawKept_meter s _) ((yawKept_meter s _).trans (yawKept_report _ _))

theorem yawKept_streamStale (s : State) : YawKept s s.streamStale := by
  unfold State.streamStale
  refine YawKept.trans ?_ (yawKept_windows _ _)
  refine YawKept.trans ?_ (yawKept_evaluateZones _ _)
  refine YawKept.trans ?_ (yawKept_conv _ _)
  exact ((yawKept_meter s _).trans (yawKept_report _ _)).trans (yawKept_supply _ _)

theorem yawKept_channelStale (s : State) (c : Fin 8) : YawKept s (State.channelStale c s) := by
  unfold State.channelStale
  simp only
  split
  · exact (yawKept_meter s _).trans (yawKept_evaluateZones _ _)
  · exact .ite ((yawKept_meter s _).trans (yawKept_windows _ _)) (yawKept_meter s _)

/-! ### The lines (R175) -/

theorem yawKept_lineChanged (s : State) {l : Line} (other : l ≠ .brakeOpen) (b : Bool) :
    YawKept s (State.lineChanged l b s) := by
  cases l
  case brakeOpen => exact absurd rfl other
  case mainClosed => exact yawKept_mainChanged s b
  case gateFault => exact yawKept_report s _
  case flowConv => exact .onlyIf (yawKept_flowChanged s _ _) (yawKept_of_changes (changes_proveFlow _) rfl)
  case flowGen => exact yawKept_flowChanged s _ _
  case backupOnline => exact .ite (yawKept_supplyMoved (yawKept_compareBackup s)) (.refl s)

/-- The filtered level of a line takes the value given. -/
theorem level_filtered (s : State) (l m : Line) (f : Filter) :
    ({ s with inputs := { s.inputs with filters := s.inputs.filters.set l f } } : State).level m =
      if m = l then f.level else s.level m := by
  unfold State.level
  rw [PerLine.get_set]
  split <;> rfl

theorem yawKept_filterExpired (s : State) (l : Line) : YawKept s (State.filterExpired l s) := by
  unfold State.filterExpired
  simp only
  have level := level_filtered s l .brakeOpen ⟨s.inputs.raw.get l, none⟩
  by_cases brake : l = .brakeOpen
  · subst brake
    rw [if_pos rfl] at level
    unfold State.lineChanged
    simp only
    split
    · next rises =>
      have open_ := level.trans rises
      exact (yawStill_inputs s _ fun _ _ => by exact open_).kept.trans (yawKept_brakeRises open_)
    · exact yawKept_brakeFalls s _
  · rw [if_neg (Ne.symm brake)] at level
    exact (yawStill_inputs s _ fun _ open_ => by exact level.trans open_).kept.trans (yawKept_lineChanged _ brake _)

/-! ### The Condition Unit -/

/-- A record whose state and persistence stand holds its consequences as before (R165). -/
theorem yawKept_setRec (s : State) (i : Fin 32) {r : CondRec} (state : r.state = (s.cond.recs[i]).state)
    (persistent : r.persistent = (s.cond.recs[i]).persistent) : YawKept s (s.setRec i r) := by
  refine YawStill.kept ⟨yawUntouched_of_changes (changes_setRec s i r) rfl, rfl, ?_⟩
  refine Conditions.inForceBy_congr fun j _ => ?_
  by_cases own : j = i
  · rw [own, setRec_recs_self]
    unfold CondRec.holds
    rw [state, persistent]
  · rw [setRec_recs_other s r own]

theorem yawKept_judged {ps : List Piece} (h : Changes ps s t) (free : YawFree ps = true)
    (told : t.cond.told = s.cond.told) : YawKept s t.judge := (yawUntouched_of_changes h free).judge told

theorem putRec_told (s : State) (i : Fin 32) (p : CondRec × Bool) : (s.putRec i p).cond.told = s.cond.told := by
  rw [putRec_cond]
  rfl

theorem yawKept_conditionTimer (s : State) (i : Fin 32) : YawKept s (State.conditionTimer i s) := by
  unfold State.conditionTimer
  split
  · exact yawKept_judged (changes_putRec s i _) rfl (putRec_told s i _)
  · exact yawKept_setRec s i rfl rfl

/-! ### The end of an event -/

theorem yawKept_closeEvent (before s : State) : YawKept s (closeEvent before s) := by
  have settled : YawKept s s.settle :=
    ((YawKept.ite (yawKept_grantOpportunity s) (.refl s) : YawKept s s.settleClaims).rest
      (changes_settleActuators _) rfl).rest (changes_setTripReason _) rfl
  exact (settled.rest (changes_drive _) rfl).rest (changes_revs _ _) rfl

theorem changes_apportioner (s : State) (a : Apportioner) : Changes [.app] s { s with app := a } := by
  intro p out
  cases p
  case app => exact absurd (by decide) out
  all_goals rfl

theorem yawKept_staggerExpired (s : State) : YawKept s s.staggerExpired := by
  have idle : YawKept s { s with app := { s.app with stagger := none } } :=
    yawKept_of_changes (changes_apportioner s _) rfl
  exact idle.trans (yawKept_grantOpportunity _)

theorem yawKept_finishEvent (before s : State) : YawKept s (finishEvent before s) :=
  finishEvent_induct (P := YawKept s) (yawKept_closeEvent before s)
    (fun u z h => (h.trans (yawKept_zoneEvaluated u z _)).trans (yawKept_closeEvent _ _))
    (fun u h => (h.trans (yawKept_staggerExpired u)).trans (yawKept_closeEvent _ _))

theorem changes_cooling (s : State) (c : Cooling) : Changes [.cool] s { s with cool := c } := by
  intro p out
  cases p
  case cool => exact absurd (by decide) out
  all_goals rfl

theorem yawKept_firstEvaluation (s : State) : YawKept s s.firstEvaluation :=
  (yawKept_of_changes (changes_cooling s _) rfl).trans (yawKept_evaluateZones _ _)

/-! ### The bodies of the items -/

/-- The port moves, but what it composes. -/
theorem yawStill_port (s : State) {p : Port} (composing : p.composing = s.port.composing) :
    YawStill s { s with port := p } :=
  ⟨⟨rfl, rfl, composing, rfl, fun _ turns => ⟨turns.brake, turns.segment, turns.within⟩⟩, rfl, rfl⟩

/-- The store moves, but its settings. -/
theorem yawStill_store (s : State) {x : Store} (settings : x.settings = s.store.settings) :
    YawStill s { s with store := x } := by
  refine ⟨⟨rfl, rfl, rfl, rfl, fun _ turns => turns.congr rfl rfl rfl ?_⟩, rfl, rfl⟩
  rw [State.setting, State.setting, settings]

theorem yawKept_withRecord {h : Handle} {g : Option Nat} {s : State} {k : State → Nat → Nat → Answer}
    (body : ∀ u table index, YawKept u (k u table index).state) : YawKept s (withRecord h g s k).state := by
  have resolved : YawKept s (resolve h s).1 := by
    obtain ⟨n, moved, -⟩ := resolve_fst h s
    rw [moved]
    exact (yawStill_port s (by rfl)).kept
  exact withRecord_state (P := YawKept s) resolved fun _ _ => resolved.trans (body _ _ _)

theorem yawKept_withTable {table n : Nat} {h : Handle} {g : Option Nat} {s : State} {k : State → Fin n → Answer}
    (body : ∀ u i, YawKept u (k u i).state) : YawKept s (withTable table n h g s k).state := by
  refine yawKept_withRecord fun u t i => ?_
  split
  · split
    · exact body u _
    · exact .refl u
  · exact .refl u

/-- The limit is written only while the engine is not TURNING (R12). -/
theorem yawKept_putSetting (s : State) {k : Fin 86} (v : Nat)
    (stopped : k = Setting.twistHardLimit → s.yaw.engine ≠ .turning) : YawKept s (s.putSetting k v) := by
  refine YawStill.kept ⟨⟨rfl, rfl, rfl, rfl, fun turning turns => ?_⟩, rfl, rfl⟩
  have other : Setting.twistHardLimit ≠ k := fun own => stopped own.symm turning
  exact turns.congr rfl rfl rfl (putSetting_setting_other s v other)

theorem yawKept_applySetting (s : State) {k : Fin 86} (v : Nat)
    (stopped : k = Setting.twistHardLimit → s.yaw.engine ≠ .turning) : YawKept s (State.applySetting k v s) := by
  refine (yawKept_putSetting s v stopped).trans ?_
  have judged : YawKept (s.putSetting k v) _ := yawKept_report _ (s.putSetting k v).twistReport
  exact .ite (yawKept_rebudget _ _)
    (.ite (yawKept_supply _ _) (.ite (yawKept_judgeUntwist _) (.ite judged (.refl _))))

theorem put_state (r : CondRec) (field v : Nat) :
    (r.put field v).state = r.state ∧ (r.put field v).persistent = r.persistent := by
  unfold CondRec.put
  split <;> exact ⟨rfl, rfl⟩

theorem yawKept_writeRecord (field : Nat) (v : Int) (s : State) (table index : Nat) :
    YawKept s (writeRecord field v s table index).state := by
  unfold writeRecord
  split
  · exact .refl s
  split
  · exact .refl s
  next target _ =>
  split
  · exact .refl s
  split
  · exact yawKept_report s _
  split
  · exact .refl s
  next idle =>
  rw [answerOk_state]
  cases target with
  | setting k =>
    refine yawKept_applySetting s _ fun own turning => idle ?_
    subst own
    simpa [State.busy, turning] using (by decide : WriteTarget.cls (.setting Setting.twistHardLimit) = .protection)
  | zone z field => exact yawKept_zoneEvaluated s z _
  | condition i field => exact yawKept_setRec s i (put_state _ _ _).1 (put_state _ _ _).2

theorem yawKept_claimRequest (s : State) (f : Apportioner → Apportioner) : YawKept s (s.claimRequest f) := by
  unfold State.claimRequest
  split
  · exact .refl s
  · exact (claimsMove_apportion s f).yawStill.kept.rest (changes_claimEvent _) rfl

theorem yawKept_openConsumer (priority asked tag : Nat) (s : State) (c : Fin 19) :
    YawKept s (openConsumer priority asked tag s c).state := by
  unfold openConsumer
  split
  · exact .refl s
  split
  · exact .refl s
  split
  · exact .refl s
  split
  · exact .refl s
  · exact yawKept_claimRequest s _

theorem yawKept_amendSlot (asked : Nat) (s : State) (i : Fin 16) : YawKept s (amendSlot asked s i).state := by
  unfold amendSlot
  simp only
  split
  · exact .refl s
  split
  · exact .refl s
  split
  · exact .refl s
  split
  · exact .refl s
  · exact yawKept_claimRequest s _

theorem yawKept_takeSlot (s : State) (i : Fin 16) : YawKept s (takeSlot s i).state := by
  unfold takeSlot
  split
  · exact .refl s
  split
  · exact yawKept_claimRequest s _
  all_goals exact .refl s

theorem yawKept_retireSlot (s : State) (i : Fin 16) : YawKept s (retireSlot s i).state := by
  unfold retireSlot
  split
  · exact .refl s
  split
  · exact .refl s
  · exact yawKept_claimRequest s _

theorem yawKept_lapse (s : State) (i : Fin 16) : YawKept s (State.lapse i s) :=
  .ite ((yawKept_claimRequest s _).trans (yawKept_report _ _)) (.refl s)

/-! ### The items on the routes (R128 to R134) -/

/-- A change that keeps the laws where the composing route is COMPOSING. -/
theorem yawKept_of_composes (hold : t.hold = s.hold) (kept : Composes s → YawKept s t) : YawKept s t :=
  ⟨hold, fun composes => (kept composes).composes composes, fun free laws => (kept laws.1).laws free laws⟩

theorem yawKept_beginOn (s : State) (r : Fin 6) : YawKept s (beginOn s r).state := by
  unfold beginOn
  simp only
  split
  · exact .refl s
  next manual =>
  split
  · exact .refl s
  next empty =>
  have empty : (s.routes.routes[r]).state = .empty := not_not.mp empty
  have begun := routeMoves_setRoute (x := { s.routes.routes[r] with state := .composing, slots := [] })
    (by rw [empty]; exact nofun) nofun (List.nil_subset _)
  refine (begun.congr (changes_port _ _).mono).kept fun _ q open_ => ?_
  obtain rfl : r = q := Option.some.inj open_
  rw [manualRoute] at manual
  refine ⟨by simpa only [Bool.not_eq_true', decide_eq_false_iff_not, not_not] using manual, ?_⟩
  exact congrArg Route.state (setRoute_routes_self s r _)

theorem yawKept_doSegment (kind : Nat) (target : Int) (direction speed dwell : Nat) (s : State) :
    YawKept s (doSegment kind target direction speed dwell s).state := by
  unfold doSegment
  split
  · exact .refl s
  next r open_ =>
  split
  · exact .refl s
  next g _ =>
  split
  · exact .refl s
  split
  · exact .refl s
  next slot free =>
  refine yawKept_of_composes rfl fun composes => ?_
  obtain ⟨manual, composing⟩ := composes r open_
  have moves := routeMoves_appendSegment (g := g) manual composing free
  refine moves.kept fun _ q also => ?_
  obtain rfl : r = q := Option.some.inj (open_.symm.trans also)
  refine ⟨manual, ?_⟩
  rw [State.appendSegment, setRoute_routes_self, composing]

/-- With no composition open the law of R128 asks for nothing. -/
theorem composes_of_closed (closed : s.port.composing = none) : Composes s := fun q open_ => by
  rw [closed] at open_
  cases open_

theorem RouteMoves.kept_ended (h : RouteMoves r s t) : YawKept s t.endComposition :=
  (h.congr (changes_endComposition t).mono).kept fun _ => composes_of_closed rfl

theorem yawKept_doEndRoute (s : State) : YawKept s (doEndRoute s).state := by
  unfold doEndRoute
  split
  · exact .refl s
  next r open_ =>
  have stood (composes : Composes s) : (s.routes.routes[r]).state ≠ .running := by
    rw [(composes r open_).2]
    exact nofun
  simp only
  split
  · exact yawKept_of_composes rfl fun composes =>
      (routeMoves_setRoute (x := Route.empty) (stood composes) nofun (List.nil_subset _)).kept_ended
  · exact yawKept_of_composes rfl fun composes =>
      (routeMoves_setRoute (x := { s.routes.routes[r] with state := .ready }) (stood composes) nofun
        (List.Subset.refl _)).kept_ended

theorem yawKept_doAbandon (s : State) : YawKept s (doAbandon s).state := by
  unfold doAbandon
  split
  · exact .refl s
  next r open_ =>
  refine yawKept_of_composes (changes_emptyRoute s r .hold (by decide)) fun composes => ?_
  exact (routeMoves_emptyRoute (by rw [(composes r open_).2]; exact nofun)).kept_ended

/-- Emptying a route that is not composed leaves the composing route as it is. -/
theorem yawKept_emptyRoute (stood : (s.routes.routes[r]).state ≠ .running)
    (closed : (s.routes.routes[r]).state ≠ .composing) : YawKept s (s.emptyRoute r) := by
  have moves := routeMoves_emptyRoute stood
  refine moves.kept fun composes q open_ => ?_
  rw [show (s.emptyRoute r).port = s.port from changes_emptyRoute s r .port (by decide)] at open_
  obtain ⟨manual, composing⟩ := composes q open_
  have other : q ≠ r := fun own => closed (own ▸ composing)
  exact ⟨manual, by rw [emptyRoute_routes_other s other, composing]⟩

theorem yawKept_retireOn (s : State) (r : Fin 6) : YawKept s (retireOn s r).state := by
  unfold retireOn
  split
  · exact .refl s
  · exact .refl s
  · exact .refl s
  · next state => exact yawKept_emptyRoute (by rw [state]; exact nofun) (by rw [state]; exact nofun)
  · next state => exact yawKept_emptyRoute (by rw [state]; exact nofun) (by rw [state]; exact nofun)

theorem admission_passes (h : s.admission r = none) : s.yaw.known = true ∧ s.inhibitInForce = false := by
  unfold State.admission at h
  split at h
  · cases h
  · next allowed => simpa using allowed

theorem yawKept_runOn (s : State) (r : Fin 6) : YawKept s (runOn s r).state := by
  have admitted (closed : (s.routes.routes[r]).state ≠ .composing) :
      YawKept s (match s.admission r with
        | some st => refuse s st
        | none => answerOk (s.admitRoute r)).state := by
    split
    · exact .refl s
    · next passes =>
      obtain ⟨known, allowed⟩ := admission_passes passes
      exact yawKept_admitRoute known allowed fun q _ composing own => closed (own ▸ composing)
  unfold runOn
  split
  · exact .refl s
  split
  · exact .refl s
  · exact .refl s
  · exact .refl s
  · next state => exact admitted (by rw [state]; exact nofun)
  · next state => exact admitted (by rw [state]; exact nofun)

/-- RESTORE YAW meets an unknown yaw, so that the engine is PARKED (R138). -/
theorem yawKept_doRestoreYaw (heading : Nat) (twist : Int) (s : State) :
    YawKept s (doRestoreYaw heading twist s).state := by
  unfold doRestoreYaw
  split
  · exact .refl s
  next unknown =>
  split
  · exact .refl s
  simp only [answerOk_state]
  refine YawKept.trans ⟨by rfl, fun composes => by exact composes, fun _ laws => ?_⟩ (yawKept_report _ _)
  obtain ⟨composes, course, heeds, heard⟩ := yawLaws_iff.mp laws
  have parked : s.yaw.engine = .parked := by
    by_contra moving
    exact unknown (course.steered.works moving).known
  have steered := fun y (same : y.engine = .parked) =>
    steered_of_parked (s := { s with yaw := y }) same course.steered.held
  exact yawLaws_iff.mpr ⟨composes, ⟨course.one, course.owned, steered _ parked⟩, heeds, heard⟩

/-! ### Requests and acknowledges -/

theorem yawKept_doCharge (s : State) : YawKept s (doCharge s).state := by
  unfold doCharge
  split
  · exact .refl s
  split
  · exact .refl s
  · exact (yawKept_conv s _).trans (yawKept_evaluateZones _ _)

theorem yawKept_doStart (s : State) : YawKept s (doStart s).state := by
  unfold doStart
  split
  · exact .refl s
  split
  · exact .refl s
  · exact yawKept_conv s _

theorem yawKept_doClearTrip (s : State) : YawKept s (doClearTrip s).state := by
  unfold doClearTrip
  split
  · exact .refl s
  split
  · exact .refl s
  · exact yawKept_conv s _

theorem yawKept_acknowledgeOn (s : State) (i : Fin 32) : YawKept s (acknowledgeOn s i).state := by
  unfold acknowledgeOn
  split
  · exact .refl s
  · exact yawKept_judged (changes_setRec s i _) rfl rfl

theorem ackRecord_told (s : State) (i : Fin 32) : (s.ackRecord i).cond.told = s.cond.told := by
  unfold State.ackRecord
  split <;> rfl

theorem changes_ackRecord (s : State) (i : Fin 32) : Changes [.cond] s (s.ackRecord i) := by
  unfold State.ackRecord
  split
  · exact .refl _ s
  · exact changes_setRec s i _

theorem yawKept_doAcknowledgeLine (line : Nat) (s : State) : YawKept s (doAcknowledgeLine line s).state := by
  have told (l : List (Fin 32)) (t : State) : (l.foldl State.ackRecord t).cond.told = t.cond.told := by
    induction l generalizing t with
    | nil => rfl
    | cons i l ih => rw [List.foldl_cons, ih, ackRecord_told]
  unfold doAcknowledgeLine
  split
  · exact .refl s
  · exact yawKept_judged (Changes.foldl changes_ackRecord _ s) rfl (told _ s)

theorem yawKept_doSelect (n : Nat) (s : State) : YawKept s (doSelect n s).state := by
  unfold doSelect
  split
  · exact (yawStill_port s (by rfl)).kept
  · exact .refl s

theorem yawKept_doStop (s : State) : YawKept s (doStop s).state := by
  unfold doStop
  split
  · exact yawKept_conv s _
  · exact .refl s

theorem yawKept_doDischarge (s : State) : YawKept s (doDischarge s).state := by
  unfold doDischarge
  split
  · exact yawKept_conv s _
  · exact .refl s

/-- Every item keeps the laws of the yaw. -/
theorem yawKept_itemBody (c : Instr) (s : State) : YawKept s (itemBody c s).state := by
  unfold itemBody
  split
  case h_1 => exact yawKept_doSelect _ s
  case h_2 => exact yawKept_withRecord fun u t i => by rw [readRecord_state]; exact .refl u
  case h_3 => exact yawKept_withRecord fun u t i => yawKept_writeRecord _ _ u t i
  case h_4 => exact yawKept_withTable fun u i => yawKept_openConsumer _ _ _ u i
  case h_5 => exact yawKept_withTable fun u i => yawKept_amendSlot _ u i
  case h_6 => exact yawKept_withTable fun u i => yawKept_takeSlot u i
  case h_7 => exact yawKept_withTable fun u i => yawKept_retireSlot u i
  case h_8 => exact yawKept_withTable fun u i => yawKept_beginOn u i
  case h_9 => exact yawKept_doSegment _ _ _ _ _ s
  case h_10 => exact yawKept_doEndRoute s
  case h_11 => exact yawKept_doAbandon s
  case h_12 => exact yawKept_withTable fun u i => yawKept_runOn u i
  case h_13 => exact yawKept_stopRunning s _
  case h_14 => exact yawKept_withTable fun u i => yawKept_retireOn u i
  case h_15 => exact yawKept_doRestoreYaw _ _ s
  case h_16 => exact yawKept_doCharge s
  case h_17 => exact yawKept_doStart s
  case h_18 => exact yawKept_doStop s
  case h_19 => exact yawKept_doDischarge s
  case h_20 => exact yawKept_doClearTrip s
  case h_21 => exact yawKept_withTable fun u i => yawKept_acknowledgeOn u i
  case h_22 => exact yawKept_doAcknowledgeLine _ s
  case h_23 => exact (yawStill_store s (by rfl)).kept
  case h_24 => exact (yawStill_port s (by rfl)).kept
  case h_25 => exact .refl s

end

end Sys2Proof.Machine
end

section
/-!
The laws of the yaw over every step (R127, R128, R132, R138, R140, R145).
-/
namespace Sys2Proof.Machine

section
variable {s t u : State}

/-! ### What a command keeps -/

/-- The law of the composing route is kept, and the laws of the yaw are. -/
structure YawLawful (s t : State) : Prop where
  composes : Composes s → Composes t
  laws : YawLaws s → YawLaws t

theorem YawLawful.refl (s : State) : YawLawful s s := ⟨id, id⟩

theorem YawLawful.trans (h : YawLawful s t) (k : YawLawful t u) : YawLawful s u :=
  ⟨k.composes ∘ h.composes, k.laws ∘ h.laws⟩

theorem YawKept.lawful (h : YawKept s t) (free : s.hold = none) : YawLawful s t := ⟨h.composes, h.laws free⟩

theorem YawStill.lawful (h : YawStill s t) : YawLawful s t := by
  refine ⟨h.composes, fun laws => ?_⟩
  obtain ⟨composes, course, heeds, heard⟩ := yawLaws_iff.mp laws
  exact yawLaws_iff.mpr ⟨h.composes composes, h.onCourse course, h.heeds heeds, h.heard heard⟩

/-! ### A millisecond, the pins and the port -/

theorem lawful_tick (s : State) : YawLawful s s.tick := by
  refine ⟨id, fun laws => ?_⟩
  obtain ⟨composes, ⟨one, owned, works, engaged, turns, held⟩, heeds, heard⟩ := yawLaws_iff.mp laws
  have steered : s.tick.Steered :=
    ⟨fun moving => (works moving).congr rfl rfl rfl fun _ => id, engaged,
      fun turning => ⟨(turns turning).brake, (turns turning).segment, (turns turning).within⟩, held⟩
  exact yawLaws_iff.mpr
    ⟨composes, ⟨one, owned, steered⟩, heeds, fun free => (heard free).trans (tick_inForceBy s _).symm⟩

theorem rawLine_level (s : State) (l m : Line) (b : Bool) : (s.rawLine l b).level m = s.level m := by
  by_cases moves : s.inputs.raw.get l = b
  · rw [State.rawLine, if_pos moves]
  · rw [rawLine_of_ne moves, State.level, PerLine.get_set]
    split
    · next own => rw [own]
    · rfl

theorem yawStill_pins {i : Inputs} (level : ({ s with inputs := i } : State).level .brakeOpen = s.level .brakeOpen) :
    YawStill s { s with inputs := i } := yawStill_inputs s i fun _ open_ => level.trans open_

theorem lawful_rawLine (s : State) (l : Line) (b : Bool) : YawLawful s (s.rawLine l b) := by
  have level := rawLine_level s l .brakeOpen b
  revert level
  unfold State.rawLine
  split
  · exact fun _ => .refl s
  · exact fun level => (yawStill_pins level).lawful

/-- A pin that is not filtered (R17, R19, R176). -/
theorem lawful_pins (s : State) {i : Inputs} (filters : i.filters = s.inputs.filters) :
    YawLawful s { s with inputs := i } :=
  YawStill.lawful (yawStill_pins (by rw [State.level, State.level, filters]))

theorem lawful_rawLineChange {x : PinChange} (e : execRawLineChange x s = .next t) : YawLawful s t := by
  unfold execRawLineChange at e
  split at e <;> cases e <;> cases x
  case isFalse.refl.line l b => exact lawful_rawLine s l b
  all_goals exact lawful_pins s (by rfl)

theorem takeFrame_composing (s : State) (o : FrameOutcome) : (s.takeFrame o).port.composing = s.port.composing := by
  cases o <;> rfl

theorem transfer_composing (x : Transfer) (s : State) : (State.transfer x s).port.composing = s.port.composing := by
  unfold State.transfer
  split
  · unfold State.select
    simp only
    generalize List.length _ + _ = n
    split
    · rfl
    · rfl
    split
    · rfl
    split
    · rfl
    · exact takeFrame_composing _ _
  · unfold State.wireWrite
    split
    · rfl
    split
    · rfl
    · rfl
    split
    · rfl
    simp only
    split
    · rfl
    · exact takeFrame_composing _ _
  · unfold State.wireRead
    split
    · rfl
    split <;> rfl
  all_goals rfl

theorem lawful_linkFrame {x : Transfer} (e : execLinkFrame x s = .next t) : YawLawful s t := by
  have moved (u : State) (h : Changes [.port] s u) (composing : u.port.composing = s.port.composing) : YawLawful s u := by
    have routes : u.routes = s.routes := h .routes (by decide)
    have yaw : u.yaw = s.yaw := h .yaw (by decide)
    have inputs : u.inputs = s.inputs := h .inputs (by decide)
    have store : u.store = s.store := h .store (by decide)
    have cond : u.cond = s.cond := h .cond (by decide)
    refine YawStill.lawful
      ⟨⟨routes, yaw, composing, h .hold (by decide), fun _ turns => turns.congr ?_ routes yaw ?_⟩, ?_, ?_⟩
    · rw [State.level, State.level, inputs]
    · rw [State.setting, State.setting, store]
    · rw [cond]
    · rw [State.inhibitInForce, State.inhibitInForce, cond]
  unfold execLinkFrame at e
  split at e <;> cases e
  · exact moved _ (changes_shiftOut s _) rfl
  · exact moved _ (changes_transfer x s) (transfer_composing x s)

/-! ### Resets (R19, R135, R154) -/

theorem initial_route (q : Fin 6) : RouteStore.initial.routes[q] = Route.empty := by
  simp [RouteStore.initial]

theorem initial_runningRoute (routes : s.routes = RouteStore.initial) : s.runningRoute = none :=
  runningRoute_eq_none.mpr fun q runs => by
    rw [routes, initial_route] at runs
    cases runs

theorem onCourse_of_initial (routes : s.routes = RouteStore.initial) (parked : s.yaw.engine = .parked) : s.OnCourse where
  one q _ runs := absurd runs (runningRoute_eq_none.mp (initial_runningRoute routes) q)
  owned q slot mem := by
    rw [routes, initial_route] at mem
    cases mem
  steered := steered_of_parked parked fun _ => initial_runningRoute routes

theorem beginReset_engine (s : State) (kind : ResetKind) (cause : ResetCause) :
    (s.beginReset kind cause).yaw.engine = .parked := by
  cases kind <;> rfl

theorem yawLaws_beginReset (s : State) (kind : ResetKind) (cause : ResetCause) : YawLaws (s.beginReset kind cause) :=
  yawLaws_iff.mpr ⟨composes_of_closed rfl, onCourse_of_initial rfl (beginReset_engine s kind cause),
    fun _ => initial_runningRoute rfl, fun free => nomatch free⟩

theorem lawful_beginReset (s u : State) (kind : ResetKind) (cause : ResetCause) : YawLawful s (u.beginReset kind cause) :=
  have laws := yawLaws_beginReset u kind cause
  ⟨fun _ => laws.1, fun _ => laws⟩

/-- The part as a reset lets go of it has its routes, its yaw and its composition as the reset held them. -/
theorem awake_still (h : ResetHold) (s : State) :
    (s.awake h).routes = s.routes ∧ (s.awake h).yaw = s.yaw ∧ (s.awake h).port.composing = s.port.composing ∧
      (s.awake h).hold = none := by
  obtain ⟨recs, stamped, -⟩ := restamp_eq h.restamp s.startAfterReset
  unfold State.awake
  rw [stamped]
  exact ⟨rfl, rfl, rfl, rfl⟩

theorem composes_awake (h : ResetHold) (composes : Composes s) : Composes (s.awake h) := fun q open_ => by
  obtain ⟨routes, -, composing, -⟩ := awake_still h s
  rw [routes]
  exact composes q (composing ▸ open_)

/-- In a reset the engine is PARKED and no route runs, so what the end of the reset reports stops nothing. -/
theorem yawLaws_awake_report (h : ResetHold) (held : s.hold = some h) (laws : YawLaws s) (g : Group) :
    YawLaws ((s.awake h).report g) := by
  obtain ⟨composes, -, -, owned, ⟨-, -, -, -, resting⟩, -⟩ := laws
  obtain ⟨parked, idle⟩ := resting (by rw [held]; rfl)
  obtain ⟨routes, yaw, -⟩ := awake_still h s
  have idle : (s.awake h).runningRoute = none := (runningRoute_congr routes).trans idle
  have taken : YawUntouched (s.awake h) ((s.awake h).takeReports g) :=
    yawUntouched_of_changes (changes_takeReports _ g) rfl
  have course : (s.awake h).OnCourse := by
    refine ⟨fun q _ runs => absurd runs (runningRoute_eq_none.mp idle q), ?_,
      steered_of_parked (yaw ▸ parked) fun _ => idle⟩
    unfold SlotsOwned
    rwa [routes]
  exact yawLaws_judge (taken.composes (composes_awake h composes)) (taken.onCourse course) fun _ =>
    (runningRoute_congr taken.routes).trans idle

theorem lawful_endReset (s : State) : YawLawful s s.endReset := by
  cases held : s.hold with
  | none =>
    rw [endReset_of_none held]
    exact .refl s
  | some h =>
    rw [endReset_of_hold held]
    generalize (s.awake h).resetReports = g
    have driven (revs : RevTable) : YawLawful ((s.awake h).report g) { ((s.awake h).report g).drive with revs := revs } :=
      YawStill.lawful ((yawStill_of_changes (changes_drive _) rfl).trans (yawStill_of_changes (changes_revs _ revs) rfl))
    exact ⟨fun composes => (driven _).composes ((yawKept_report _ g).composes (composes_awake h composes)),
      fun laws => (driven _).laws (yawLaws_awake_report h held laws g)⟩

/-! ### Items and arrivals -/

theorem lawful_addEntry (s : State) (entry : List Byte) : YawLawful s (s.addEntry entry) := by
  have port (p : Port) (composing : p.composing = s.port.composing) : YawLawful s { s with port := p } :=
    (yawStill_port s composing).lawful
  cases last : s.port.items.isEmpty with
  | false =>
    rw [addEntry_of_more last]
    exact port _ rfl
  | true =>
    rw [addEntry_of_end last]
    split
    · exact (lawful_beginReset s _ .warm .warmLink).trans (lawful_endReset _)
    · exact port _ rfl

theorem lawful_executeItem (c : Instr) (free : s.hold = none) : YawLawful s (s.executeItem c (itemBody c)) := by
  have answered : YawKept s (answerItem c (itemBody c) s).state := by
    unfold answerItem
    split
    · exact .refl s
    · exact yawKept_itemBody c s
  exact ((answered.trans (yawKept_finishEvent s _)).lawful free).trans (lawful_addEntry _ _)

theorem lawful_item {c : Instr} (item : c.isItem = true) (e : exec c s = .next t) : YawLawful s t := by
  have executed (p : Port) (free : s.hold = none) (composing : p.composing = s.port.composing) :
      YawLawful s (({ s with port := p } : State).executeItem c (itemBody c)) :=
    (yawStill_port s composing).lawful.trans (lawful_executeItem c free)
  rw [exec_item item] at e
  unfold runItem at e
  split at e
  · cases e
    exact .refl s
  next unheld =>
  have free : s.hold = none := Option.not_isSome_iff_eq_none.mp unheld
  split at e
  · split at e
    · cases e
      exact .refl s
    · split at e <;> cases e
      · exact executed _ free rfl
      · exact .refl s
  · cases e
    exact executed _ free rfl

theorem lawful_arrival {u : State} {b : Bool} (k : YawKept s u)
    (e : (if s.held || b then .next s else .next (finishEvent s u) : Result) = .next t) : YawLawful s t := by
  split at e <;> cases e
  · exact .refl s
  · next unheld =>
    have free : s.hold = none := Option.not_isSome_iff_eq_none.mp fun held => unheld (by rw [State.held, held]; rfl)
    exact (k.trans (yawKept_finishEvent s u)).lawful free

theorem lawful_encoderTransition {a b : Bool} (e : execEncoderTransition a b s = .next t) : YawLawful s t := by
  unfold execEncoderTransition at e
  split at e <;> cases e
  · exact lawful_pins s (by rfl)
  · next unheld =>
    exact ((yawKept_encoderMoves s a b).trans (yawKept_finishEvent s _)).lawful (Option.not_isSome_iff_eq_none.mp unheld)

theorem lawful_partTimeTick (e : execPartTimeTick s = .next t) : YawLawful s t := by
  unfold execPartTimeTick at e
  split at e <;> cases e
  · exact .refl s
  · exact (yawStill_store s (by rfl)).lawful

theorem lawful_staggerTimerExpiry (e : execStaggerTimerExpiry s = .next t) : YawLawful s t := by
  unfold execStaggerTimerExpiry event at e
  split at e
  · cases e
    exact .refl s
  next runs =>
    have free : s.hold = none := Option.not_isSome_iff_eq_none.mp fun held => runs (by rw [State.held, held]; rfl)
    rw [show ({ s with app := { s.app with stagger := none } } : State).held = false by rw [State.held, free]; rfl] at e
    cases e
    exact ((yawKept_staggerExpired s).trans (yawKept_finishEvent _ _)).lawful free

/-- The commands that begin or end a reset, RESTART aside (R19). -/
theorem lawful_resets {c : Instr} (resets : c.resets = true) (other : c ≠ .restart) (e : exec c s = .next t) :
    YawLawful s t := by
  have pins (b : Bool) : YawLawful s { s with inputs := { s.inputs with resetn := b } } := lawful_pins s (by rfl)
  match c, resets with
  | .restart, _ => exact absurd rfl other
  | .powerUp _, _ =>
    cases e
    exact lawful_beginReset s _ _ _
  | .powerUpSequenceComplete, _ =>
    change execPowerUpSequenceComplete s = .next t at e
    unfold execPowerUpSequenceComplete at e
    split at e <;> cases e
    · exact lawful_endReset s
    · exact .refl s
  | .resetnAssert, _ =>
    change execResetnAssert s = .next t at e
    unfold execResetnAssert at e
    simp only at e
    split at e
    · cases e
      exact .refl s
    split at e <;> cases e
    · exact pins true
    · exact lawful_beginReset s _ _ _
  | .resetnRelease, _ =>
    change execResetnRelease s = .next t at e
    unfold execResetnRelease at e
    split at e <;> cases e
    · exact (pins false).trans (lawful_endReset _)
    · exact .refl s

/-- Every command keeps the law of the composing route and the laws of the yaw. -/
theorem exec_lawful {c : Instr} (e : exec c s = .next t) : YawLawful s t := by
  have reports : ∀ (p : Prop) [Decidable p] (g : Group), YawKept s (if p then s.report g else s) :=
    fun _ _ g => .ite (yawKept_report s g) (.refl s)
  cases item : c.isItem with
  | true => exact lawful_item item e
  | false =>
    cases c
    case linkFrame => exact lawful_linkFrame e
    case meterFrame bytes => exact lawful_arrival (yawKept_acceptFrame s bytes) e
    case rawLineChange => exact lawful_rawLineChange e
    case encoderTransition => exact lawful_encoderTransition e
    case partTimeTick => exact lawful_partTimeTick e
    case staggerTimerExpiry => exact lawful_staggerTimerExpiry e
    case staleTimerExpiry => exact lawful_arrival (yawKept_streamStale s) e
    case slowChannelAgeExpiry c => exact lawful_arrival (yawKept_channelStale s c) e
    case filterTimerExpiry l => exact lawful_arrival (yawKept_filterExpired s l) e
    case collectionDeadlineExpiry i => exact lawful_arrival (yawKept_lapse s i) e
    case recoveryHoldExpiry => exact lawful_arrival (yawKept_supplyMoved (yawKept_changeSupply s _ _)) e
    case reconnectionHoldExpiry => exact lawful_arrival (yawKept_supplyMoved (yawKept_changeSupply s _ _)) e
    case prechargeTimerExpiry => exact lawful_arrival (reports _ _) e
    case breakerTimerExpiry => exact lawful_arrival (reports _ _) e
    case dischargeTimerExpiry => exact lawful_arrival (yawKept_dischargeExpired s) e
    case chopperDecayExpiry =>
      exact lawful_arrival (u := s.decay) ((yawKept_conv s _).trans (yawKept_report _ _)) e
    case firstEvaluationTimerExpiry => exact lawful_arrival (yawKept_firstEvaluation s) e
    case decreaseHoldExpiry z => exact lawful_arrival (u := s.holdExpired z) (yawKept_zoneEvaluated s z _) e
    case flowWindowExpiry p => exact lawful_arrival (u := s.flowLost p) (yawKept_flowReport s p _ _) e
    case flowLossTimerExpiry p => exact lawful_arrival (u := s.flowLost p) (yawKept_flowReport s p _ _) e
    case shortWindowClose => exact lawful_arrival (yawKept_shortCloses s) e
    case longWindowClose => exact lawful_arrival (yawKept_longCloses s) e
    case claimWaitExpiry => exact lawful_arrival (yawKept_claimWaitExpired s) e
    case releaseTimerExpiry => exact lawful_arrival (yawKept_releaseExpired s) e
    case idleTimerExpiry => exact lawful_arrival (yawKept_stalled s) e
    case budgetTimerExpiry => exact lawful_arrival (yawKept_stalled s) e
    case settleTimerExpiry => exact lawful_arrival (yawKept_settleExpired s) e
    case applyTimerExpiry => exact lawful_arrival (yawKept_applyExpired s) e
    case dwellTimerExpiry => exact lawful_arrival (yawKept_dwellExpired s) e
    case onsetDelayExpiry i => exact lawful_arrival (yawKept_conditionTimer s i) e
    case repeatIntervalExpiry i => exact lawful_arrival (yawKept_conditionTimer s i) e
    case powerUp => exact lawful_resets (by rfl) (by exact nofun) e
    case powerUpSequenceComplete => exact lawful_resets (by rfl) (by exact nofun) e
    case resetnAssert => exact lawful_resets (by rfl) (by exact nofun) e
    case resetnRelease => exact lawful_resets (by rfl) (by exact nofun) e
    all_goals exact nomatch item

theorem step_keeps_composes (e : step s = .next t) (composes : Composes s) : Composes t :=
  step_keeps (P := Composes) (fun h e => (exec_lawful e).composes h) (fun u => (lawful_tick u).composes)
    (fun _ _ _ => id) composes e

theorem step_keeps_yawLaws (e : step s = .next t) (laws : YawLaws s) : YawLaws t :=
  step_keeps (P := YawLaws) (fun h e => (exec_lawful e).laws h) (fun u => (lawful_tick u).laws)
    (fun _ _ _ => id) laws e

end

/-- Settles O8: every block's act keeps the laws of the yaw taken apart by `yawLaws_iff`, and so does every command; the
rest is read off the laws. -/
theorem stepKeepsComposes : Obligations.StepKeepsComposes := by
  intro s t q r slot e
  refine ⟨step_keeps_composes e, step_keeps_yawLaws e, fun laws => ?_⟩
  have ⟨_, one, unknown, owned, _⟩ := laws
  refine ⟨one q r, fun mem also => owned.disjoint mem also, unknown, laws.safe, fun turning past => ⟨?_, ?_⟩⟩
  · rintro ⟨direction, twist⟩
    exact Bool.false_ne_true ((laws.not_winding past turning).symm.trans (winding_cw twist direction))
  · rintro ⟨direction, twist⟩
    exact Bool.false_ne_true ((laws.not_winding past turning).symm.trans (winding_ccw twist direction))

end Sys2Proof.Machine
end

section
/-!
Steps on an empty queue (log 1, log 2), what the port refuses (R131, R181), and the items that compose and retire a route
(R128 to R130, R134).
-/
namespace Sys2Proof.Machine

/-! ### Steps with no command waiting -/

theorem choose_of_several {s : State} (several : 2 ≤ s.due.length) : ∃ i ∈ s.due, s.choose s.due = some i := by
  have within : Config.duePick s.choices % s.due.length < s.due.length := Nat.mod_lt _ (by omega)
  exact ⟨_, List.getElem_mem within, List.getElem?_eq_getElem within⟩

theorem step_of_idle {s : State} (none : s.pending = []) (items : s.port.items = []) : step s = idle s := by
  unfold step
  rw [none, items]

/-- Settles O2. -/
theorem stepOnEmptyQueue : Obligations.StepOnEmptyQueue := by
  intro s none
  refine ⟨fun i rest items executing free => ?_, fun items => ?_⟩
  · unfold step
    rw [none, items]
    simp [executing, State.held, free]
  rw [step_of_idle none items]
  unfold idle
  refine ⟨fun due => by rw [due], fun i due => by rw [due], fun several => ?_⟩
  obtain ⟨i, mem, chosen⟩ := choose_of_several several
  refine ⟨i, mem, ?_⟩
  match due : s.due, several with
  | a :: b :: rest, _ =>
    rw [due] at chosen
    simp only [chosen]

/-! ### What the port refuses (R131, R181) -/

section
variable {s u : State} {i : Instr} {body : State → Answer} {r : Fin 6}

/-- Under an open composition a locked item is answered without its body being asked. -/
theorem runItem_locked (idle : PortIdle s) (locked : s.port.composing.isSome = true) (stopped : passesLock i = false) :
    runItem i body s = .next (s.answered .sequence []) := by
  have refused : runItem i body s = runItem .stopYaw (fun t => refuse t .sequence) s := by
    rw [runItem_of_idle idle.1.1 idle.2.1, runItem_of_idle idle.1.1 idle.2.1]
    unfold State.executeItem answerItem
    simp [Port.enter, locked, stopped]
  rw [refused]
  exact runItem_unmoved idle (.inr rfl) rfl (fun _ => rfl) (quiet_of_between idle.1) idle.2.2 rfl

/-- An item that the lock lets through is refused. -/
theorem runItem_refusedThrough {st : ItemStatus} (idle : PortIdle s) (passes : passesLock i = true)
    (b : body s.entered = refuse s.entered st) : runItem i body s = .next (s.answered st []) :=
  runItem_unmoved idle (.inr passes) b (fun _ => rfl) (quiet_of_between idle.1) idle.2.2 rfl

/-- Settles O20. -/
theorem portRefuses : Obligations.PortRefuses := by
  intro s i code long guard
  refine ⟨fun idle locked item stopped => ?_, fun idle => runItem_refusedThrough idle rfl rfl⟩
  rw [exec_item item]
  exact runItem_locked idle locked stopped

/-! ### Items on the routes at an idle port -/

/-- An item whose event is quiet: its operation, with the response prepared and perhaps revisions moved. -/
theorem runItem_moves {st : ItemStatus} {data : List Byte} (idle : PortIdle s)
    (lock : s.port.composing = none ∨ passesLock i = true) (b : body s.entered = ⟨u.entered, st, .bytes data⟩)
    (d : st ≠ .ok → data = []) (ev : u.ev = s.ev) (due : u.port.restartDue = false) :
    ∃ revs, runItem i body s = .next { u.answered st data with revs := revs } :=
  ⟨_, runItem_quiet idle lock b d (ev ▸ quiet_of_between idle.1) due⟩

theorem resolve_routes (h : Handle) (s : State) : (resolve h s).1.routes = s.routes :=
  changes_resolve h s .routes (by decide)

/-- An item on a route's record is refused (R2, R9). -/
theorem runItem_routeRefused {h : Handle} {g : Option Nat} {k : State → Fin 6 → Answer} {st : ItemStatus}
    (ready : Ready s) (res : (resolve h s).2 = some (8, r.val)) (guard : guardPasses s g 8 r.val = true)
    (refuses : k (resolve h s).1.entered r = refuse (resolve h s).1.entered st) :
    runItem i (withTable 8 6 h g · k) s = .next ((resolve h s).1.answered st []) :=
  runItem_resolved ready ((withTable_entered res guard).trans refuses) fun _ => rfl

/-- An item on a route's record that changes the routes, what is composed, or nothing. -/
theorem runItem_routeMoves {h : Handle} {g : Option Nat} {k : State → Fin 6 → Answer} (ready : Ready s)
    (res : (resolve h s).2 = some (8, r.val)) (guard : guardPasses s g 8 r.val = true)
    (moves : k (resolve h s).1.entered r = answerOk u.entered) (ev : u.ev = s.ev) (due : u.port.restartDue = false) :
    ∃ revs, runItem i (withTable 8 6 h g · k) s = .next { u.answered .ok [] with revs := revs } :=
  runItem_moves ready.1 (.inl ready.2) ((withTable_entered res guard).trans moves) (fun no => absurd rfl no) ev due

theorem resolve_ev (h : Handle) (s : State) : (resolve h s).1.ev = s.ev := changes_resolve h s .ev (by decide)

/-! ### BEGIN, END, ABANDON and RETIRE ROUTE -/

/-- BEGIN ROUTE on an EMPTY manual route (R128). -/
theorem exec_beginRoute {h : Handle} (ready : Ready s) (res : (resolve h s).2 = some (8, r.val)) (manual : 2 ≤ r.val)
    (empty : (s.routes.routes[r]).state = .empty) :
    ∃ t, exec (.beginRoute h) s = .next t ∧
      Changes [.revs]
        ({ (resolve h s).1.setRoute r { s.routes.routes[r] with state := .composing, slots := [] } with
          port := { (resolve h s).1.port with composing := some r } }.answered .ok []) t := by
  obtain ⟨revs, e⟩ := runItem_routeMoves (i := .beginRoute h) (g := none) (k := beginOn)
    (u := { (resolve h s).1.setRoute r { s.routes.routes[r] with state := .composing, slots := [] } with
      port := { (resolve h s).1.port with composing := some r } }) ready res rfl
    (by
      have state : ((resolve h s).1.entered.routes.routes[r]) = s.routes.routes[r] := by
        rw [show (resolve h s).1.entered.routes = s.routes from resolve_routes h s]
      have open_ : manualRoute r = true := decide_eq_true manual
      unfold beginOn
      simp only [state, open_, empty]
      rfl)
    (resolve_ev h s) (resolved_due h ready.1.2.2)
  exact ⟨_, e, changes_revs _ revs⟩

/-- Freeing slots changes the segments alone. -/
theorem foldl_freed (l : List (Fin 24)) (s : State) :
    l.foldl (fun t slot => t.setSegment slot none) s =
      { s with
        routes :=
          { s.routes with
            segments := l.foldl (fun (own : Vector (Option Segment) 24) (slot : Fin 24) => own.set slot none)
              s.routes.segments } } := by
  induction l generalizing s with
  | nil => rfl
  | cons i l ih => rw [List.foldl_cons, ih]; rfl

/-- Emptying a route reads and changes the routes alone. -/
theorem emptyRoute_port (s : State) (p : Port) (r : Fin 6) :
    ({ s with port := p } : State).emptyRoute r = { s.emptyRoute r with port := p } := by
  unfold State.emptyRoute
  rw [foldl_freed, foldl_freed]
  rfl

/-- What a command leaves that has emptied a route and moved the port besides. -/
theorem exists_emptied {c : Instr} {revs : RevTable} {p : Port} (between : Between s)
    (e : exec c s = .next { ({ s.emptyRoute r with port := p } : State).answered .ok [] with revs := revs }) :
    ∃ t, exec c s = .next t ∧
      t.routes.routes = s.routes.routes.set r Route.empty ∧
      (∀ slot : Fin 24, t.routes.segments[slot] =
        if (s.routes.routes[r]).slots.contains slot then none else s.routes.segments[slot]) ∧
      t.port = p.answered .ok [] ∧ Changes [.routes, .port, .out, .revs] s t ∧ t.out = t.outputs := by
  have lined : Changes [.port, .ev, .out, .revs] (s.emptyRoute r)
      { ({ s.emptyRoute r with port := p } : State).answered .ok [] with revs := revs } := by
    intro piece out
    cases piece
    case port | ev | out | revs => exact absurd (by decide) out
    all_goals rfl
  refine ⟨_, e, emptyRoute_routes s r, fun slot => ?_, rfl, ?_, rfl⟩
  · simp only [List.contains_eq_mem, decide_eq_true_eq]
    exact emptyRoute_segments s r slot
  · exact Changes.of_ev ((changes_emptyRoute s r).mono.trans lined.mono) between.2.symm

/-- ABANDON ROUTE under an open composition (R130). -/
theorem exec_abandonRoute (idle : PortIdle s) (open_ : s.port.composing = some r) :
    ∃ revs, exec .abandonRoute s =
      .next
        { ({ s.emptyRoute r with port := { s.port with composing := none } } : State).answered .ok [] with
          revs := revs } := by
  refine runItem_moves (u := { s.emptyRoute r with port := { s.port with composing := none } }) idle (.inr rfl) ?_
    (fun no => absurd rfl no) (changes_emptyRoute s r .ev (by decide)) idle.2.2
  have open_ : s.entered.port.composing = some r := open_
  unfold doAbandon
  rw [open_]
  simp only
  rw [State.entered, emptyRoute_port]
  rfl

/-- END ROUTE under an open composition (R130). -/
theorem exec_endRoute (idle : PortIdle s) (open_ : s.port.composing = some r) :
    ((s.routes.routes[r]).slots ≠ [] →
      ∃ t, exec .endRoute s = .next t ∧
        Changes [.revs]
          ({ s.setRoute r { s.routes.routes[r] with state := .ready } with
            port := { s.port with composing := none } }.answered .ok []) t) ∧
      ((s.routes.routes[r]).slots = [] →
        ∃ t, exec .endRoute s = .next t ∧
          Changes [.revs]
            ({ s.setRoute r Route.empty with port := { s.port with composing := none } }.answered .absent []) t) := by
  have open_ : s.entered.port.composing = some r := open_
  have route : s.entered.routes = s.routes := rfl
  refine ⟨fun listed => ?_, fun bare => ?_⟩
  · obtain ⟨revs, e⟩ := runItem_moves (i := .endRoute) (body := doEndRoute) (data := [])
      (u := { s.setRoute r { s.routes.routes[r] with state := .ready } with port := { s.port with composing := none } })
      idle (.inr rfl)
      (by
        unfold doEndRoute
        rw [open_]
        simp only [route, List.isEmpty_eq_false_iff.mpr listed]
        rfl)
      (fun no => absurd rfl no) rfl idle.2.2
    exact ⟨_, e, changes_revs _ revs⟩
  · obtain ⟨revs, e⟩ := runItem_moves (i := .endRoute) (body := doEndRoute) (data := [])
      (u := { s.setRoute r Route.empty with port := { s.port with composing := none } }) idle (.inr rfl)
      (by
        unfold doEndRoute
        rw [open_]
        simp only [route, List.isEmpty_iff.mpr bare]
        rfl)
      (fun _ => rfl) rfl idle.2.2
    exact ⟨_, e, changes_revs _ revs⟩

/-- Settles O34. -/
theorem beginAndEndRoute : Obligations.BeginAndEndRoute := by
  intro s h r
  refine ⟨fun ready res => ⟨exec_beginRoute ready res, fun auto => ?_, fun manual taken => ?_⟩,
    fun idle => ⟨fun closed => ⟨?_, ?_⟩, fun open_ => ?_⟩⟩
  · have refuses : manualRoute r = false := decide_eq_false (Nat.not_le.mpr auto)
    exact runItem_routeRefused (g := none) (k := beginOn) ready res (by rfl) (by simp [beginOn, refuses])
  · have open_ : manualRoute r = true := decide_eq_true manual
    have state : (resolve h s).1.entered.routes = s.routes := resolve_routes h s
    exact runItem_routeRefused (g := none) (k := beginOn) ready res (by rfl) 
      (by
        unfold beginOn
        simp only [open_, state, Bool.not_true, Bool.false_eq_true, if_false]
        exact if_pos taken)
  · exact runItem_refusedThrough idle rfl (by simp [doEndRoute, State.entered, Port.enter, closed])
  · exact runItem_refusedThrough idle rfl (by simp [doAbandon, State.entered, Port.enter, closed])
  · obtain ⟨listed, bare⟩ := exec_endRoute idle open_
    obtain ⟨revs, e⟩ := exec_abandonRoute idle open_
    exact ⟨listed, bare, exists_emptied (p := { s.port with composing := none }) idle.1 e⟩

theorem resolved_entered_eq (h : Handle) (s : State) :
    (resolve h s).1.entered = { s with port := (resolve h s).1.port.enter [] 1 } := by
  obtain ⟨n, e, -⟩ := resolve_fst h s
  rw [e]
  rfl

/-- RETIRE ROUTE of a route that neither runs nor is composed (R134). -/
theorem exec_retireRoute {h : Handle} {g : Option Nat} (ready : Ready s) (res : (resolve h s).2 = some (8, r.val))
    (guard : guardPasses s g 8 r.val = true)
    (state : (s.routes.routes[r]).state = .ready ∨ (s.routes.routes[r]).state = .ended) :
    ∃ revs, exec (.retireRoute h g) s =
      .next { ({ s.emptyRoute r with port := (resolve h s).1.port } : State).answered .ok [] with revs := revs } := by
  refine runItem_routeMoves (k := retireOn) (u := { s.emptyRoute r with port := (resolve h s).1.port }) ready res
    guard ?_ (changes_emptyRoute s r .ev (by decide)) (resolved_due h ready.1.2.2)
  rw [resolved_entered_eq]
  unfold retireOn
  rw [emptyRoute_port]
  rcases state with ready | ended
  · simp only [ready]
    rfl
  · simp only [ended]
    rfl

/-- Settles O38. -/
theorem retireRouteEmpties : Obligations.RetireRouteEmpties := by
  intro s h g r ready res guard
  have refuses (st : ItemStatus) (refuses : retireOn (resolve h s).1.entered r = refuse (resolve h s).1.entered st) :
      exec (.retireRoute h g) s = .next ((resolve h s).1.answered st []) :=
    runItem_routeRefused (k := retireOn) ready res guard refuses
  have state : ((resolve h s).1.entered.routes.routes[r]).state = (s.routes.routes[r]).state := by
    rw [show (resolve h s).1.entered.routes = s.routes from resolve_routes h s]
  refine ⟨fun moved => ?_, fun empty => refuses .absent ?_, fun runs => refuses .busy ?_⟩
  · obtain ⟨revs, e⟩ := exec_retireRoute ready res guard moved
    exact exists_emptied ready.1.1 e
  · rw [retireOn, state.trans empty]
  · rw [retireOn, state.trans runs]

/-! ### SEGMENT (R129) -/

/-- The lowest free slot of the pool (R127). -/
theorem freeSegment_eq_some {slot : Fin 24} :
    s.freeSegment = some slot ↔
      2 ≤ slot.val ∧ s.routes.segments[slot] = none ∧
        ∀ k : Fin 24, 2 ≤ k.val → k.val < slot.val → s.routes.segments[k] ≠ none := by
  unfold State.freeSegment
  rw [List.find?_eq_some_iff_getElem]
  constructor
  · rintro ⟨free, i, inside, own, lower⟩
    obtain ⟨pool, empty⟩ : 2 ≤ slot.val ∧ s.routes.segments[slot] = none := by simpa using free
    have place : i = slot.val := by
      rw [← own, List.getElem_finRange]
      rfl
    refine ⟨pool, empty, fun k two less taken => ?_⟩
    have below := lower k.val (place ▸ less)
    rw [List.getElem_finRange] at below
    exact absurd taken (by simpa [two, Option.isSome_iff_ne_none] using below)
  · rintro ⟨pool, empty, lower⟩
    refine ⟨by simp [pool, empty], slot.val, by simp, by simp, fun j less => ?_⟩
    rw [List.getElem_finRange]
    by_cases two : 2 ≤ j
    · have taken := lower ⟨j, less.trans slot.isLt⟩ two less
      simpa [two, Option.isSome_iff_ne_none] using taken
    · simp [two]

theorem freeSegment_eq_none : s.freeSegment = none ↔ ∀ k : Fin 24, 2 ≤ k.val → s.routes.segments[k] ≠ none := by
  unfold State.freeSegment
  simp [List.find?_eq_none]

section
variable {kind direction speed dwell : Nat} {target : Int} {g : Segment} {slot : Fin 24}

/-- SEGMENT takes the lowest free slot at the route's next position. -/
theorem exec_segment (idle : PortIdle s) (open_ : s.port.composing = some r)
    (inRange : segmentOf kind target direction speed dwell = some g) (room : (s.routes.routes[r]).slots.length < 8)
    (free : s.freeSegment = some slot) :
    ∃ revs, exec (.segment kind target direction speed dwell) s =
      .next { (s.appendSegment r slot g).answered .ok [countByte slot.val] with revs := revs } := by
  refine runItem_moves (u := s.appendSegment r slot g) idle (.inr rfl) ?_ (fun no => absurd rfl no) rfl idle.2.2
  have open_ : s.entered.port.composing = some r := open_
  have room : ¬8 ≤ (s.entered.routes.routes[r]).slots.length := Nat.not_le.mpr room
  have free : s.entered.freeSegment = some slot := free
  unfold doSegment
  simp only [open_, inRange, room, free, if_false]
  rfl

/-- Settles O35. -/
theorem segmentTakesLowestSlot : Obligations.SegmentTakesLowestSlot := by
  intro s kind target direction speed dwell r slot g idle
  have refuses (st : ItemStatus)
      (refuses : doSegment kind target direction speed dwell s.entered = refuse s.entered st) :
      exec (.segment kind target direction speed dwell) s = .next (s.answered st []) :=
    runItem_refusedThrough idle rfl refuses
  refine ⟨fun closed => refuses .sequence ?_, fun open_ => ⟨fun out => refuses .range ?_, freeSegment_eq_some,
    fun inRange => ⟨fun full => refuses .full ?_, fun room free => ?_⟩⟩⟩
  · rw [doSegment, show s.entered.port.composing = none from closed]
  · rw [doSegment, show s.entered.port.composing = some r from open_, out]
  · rw [doSegment, show s.entered.port.composing = some r from open_, inRange]
    simp only
    split
    · rfl
    next room =>
    have none : s.entered.freeSegment = none := freeSegment_eq_none.mpr (full.resolve_left room)
    rw [none]
  · obtain ⟨revs, e⟩ := exec_segment idle open_ inRange room free
    obtain ⟨pool, empty, -⟩ := freeSegment_eq_some.mp free
    exact ⟨_, e, pool, empty, changes_revs _ revs⟩

end

end

end Sys2Proof.Machine
end

section
/-!
A route admitted while none runs, and while one does: what RUN ROUTE comes to (R47, R132, R141, R148, R152).
-/
namespace Sys2Proof.Machine

section
variable {s t u v w : State} {q r : Fin 6} {a : Apportioner} {i j : Fin 16}

/-! ### The request of an engine that is to run (R45) -/

theorem amend_other (a : Apportioner) (asked : Nat) (other : j ≠ i) : (a.amend i asked).claims[j] = a.claims[j] := by
  unfold Apportioner.amend
  simp only
  split
  · rfl
  · exact setClaim_claims_other a _ other
  · exact setClaim_claims_other a _ other
  · split
    · exact setClaim_claims_other a _ other
    · rfl
  · split
    · exact setClaim_claims_other a _ other
    · simp only [joinQueue_claims]
      exact setClaim_claims_other a _ other

theorem amend_shedStack (a : Apportioner) (i : Fin 16) (asked : Nat) : (a.amend i asked).shedStack = a.shedStack := by
  unfold Apportioner.amend
  simp only
  split
  · rfl
  · rfl
  · rfl
  · split <;> rfl
  · split
    · rfl
    · rw [joinQueue_shedStack]
      rfl

/-- What the yaw engine asks for its slot at its rated ask. -/
theorem engineAsk_yaw (a : Apportioner) (priority : Nat) :
    a.engineAsk 0 priority yawAsk =
      if (a.claims[(0 : Fin 16)]).state = .free then a.openSlot 0 0 priority 370 0 else a.amend 0 370 := rfl

theorem engineAsk_yaw_shedStack (a : Apportioner) (priority : Nat) :
    (a.engineAsk 0 priority yawAsk).shedStack = a.shedStack := by
  rw [engineAsk_yaw]
  split
  · rw [Apportioner.openSlot, joinQueue_shedStack]
    rfl
  · exact amend_shedStack a 0 370

theorem engineAsk_yaw_other (a : Apportioner) (priority : Nat) (other : j ≠ 0) :
    (a.engineAsk 0 priority yawAsk).claims[j] = a.claims[j] := by
  rw [engineAsk_yaw]
  split
  · exact openSlot_other other
  · exact amend_other a 370 other

/-! ### A run that finds no route RUNNING (R141) -/

/-- The engine is given a route to run and both windows are cleared; slot 0 is not yet asked for. -/
def State.claiming (r : Fin 6) (s : State) : State :=
  { s with
    yaw :=
      { s.yaw with
        engine := .claiming, route := some r, position := 1, begun := false,
        stageLeft := some (1000 * s.setting Setting.claimWait) }
    align := { s.align with short := none, long := none } }

theorem startRun_eq (s : State) (r : Fin 6) :
    s.startRun r = (s.claiming r).claimRequest (Apportioner.engineAsk 0 (s.setting Setting.prioYaw) yawAsk) := rfl

/-- The record of a route that has just begun to run (R132). -/
def Route.run (x : Route) : Route := { x with state := .running, done := some 0, outcome := none, endedIn := none }

theorem admitted_of_idle (idle : s.runningRoute = none) (r : Fin 6) :
    s.admitted r = s.setRoute r (s.routes.routes[r]).run := by
  have stands : s.endRoute .preempted = s := by rw [State.endRoute, idle]
  rw [State.admitted, stands]
  rfl

/-- The admission of a route while none runs, up to its request for slot 0. -/
def State.running (r : Fin 6) (s : State) : State := (s.setRoute r (s.routes.routes[r]).run).claiming r

theorem admitRoute_of_idle (idle : s.runningRoute = none) (r : Fin 6) :
    s.admitRoute r = (s.running r).claimRequest (Apportioner.engineAsk 0 (s.setting Setting.prioYaw) yawAsk) := by
  rw [admitRoute_eq, idle, admitted_of_idle idle, startRun_eq]
  rfl

theorem changes_running (s : State) (r : Fin 6) : Changes [.routes, .yaw, .align] s (s.running r) := by
  refine (changes_setRoute s r (s.routes.routes[r]).run).mono.trans ?_
  intro p out
  cases p
  case routes | yaw | align => exact absurd (by decide) out
  all_goals rfl

/-! ### The end of its event -/

theorem claimRequest_spent (quiet : w.ev.Quiet) (f : Apportioner → Apportioner) : (w.claimRequest f).ev.Spent := by
  unfold State.claimRequest
  split
  · exact quiet.spent
  · exact (quiet_takeReport (s := { w with app := f w.app }) quiet Cond.claimShed _).spent

/-- With the stagger timer running the event of a run ends with no grant (R34). -/
theorem finishEvent_admitted (quiet : w.ev.Quiet) (runs : StaggerRuns w) (priority : Nat) (before : State) :
    ∃ revs, finishEvent before (w.claimRequest (Apportioner.engineAsk 0 priority yawAsk)) =
      { (w.claimRequest (Apportioner.engineAsk 0 priority yawAsk)).drive with revs := revs } := by
  have spent := claimRequest_spent quiet (Apportioner.engineAsk 0 priority yawAsk)
  have timer := (claimRequest_zeroStagger w (Apportioner.engineAsk 0 priority yawAsk)).trans quiet.noTimer
  have runs : StaggerRuns (w.claimRequest (Apportioner.engineAsk 0 priority yawAsk)) := by
    rwa [StaggerRuns, claimRequest_app, engineAsk_stagger]
  have settled := settleClaims_of_staggered runs
  rw [finishEvent_of_settled before settled spent timer, closeEvent_of_settled before settled spent]
  exact ⟨_, rfl⟩

/-! ### A grant opportunity while slot 0 waits (R36, R38, R47, R141) -/

/-- Taking claims back moves no claim that waits. -/
theorem takeFrom_waiting (waits : (a.claims[j]).state = .waiting) (i : Fin 16) :
    ((a.takeFrom i).claims[j]).state = .waiting := by
  by_cases own : i = j
  · subst own
    rw [Apportioner.takeFrom, waits]
    exact waits
  · have out : j ∉ [i] := fun mem => own (List.mem_singleton.mp mem).symm
    unfold Apportioner.takeFrom
    split
    · exact ((sameOff_shed a i).state out).trans waits
    · exact ((sameOff_withdraw a i).state out).trans waits
    all_goals exact waits

theorem takeBack_waiting (limit : Nat) (l : List (Fin 16)) (waits : (a.claims[j]).state = .waiting) :
    ((a.takeBack limit l).claims[j]).state = .waiting := by
  induction l generalizing a with
  | nil => exact waits
  | cons i l ih =>
    unfold Apportioner.takeBack
    split
    · exact waits
    · exact ih (takeFrom_waiting waits i)

/-- An engine's claim that waits is granted or waits on. -/
theorem opportunity_waiting (g : GrantArgs) (engine : j.val < 6) (waits : (a.claims[j]).state = .waiting) :
    ((a.opportunity g).claims[j]).state ≠ .shed := by
  have granted (b : Apportioner) (waits : (b.claims[j]).state = .waiting) (i : Fin 16) :
      ((b.grant g i).claims[j]).state ≠ .shed := by
    by_cases own : j = i
    · subst own
      obtain ⟨n, claim⟩ := grant_other g (a := b) (i := j) (by rw [waits]; exact nofun)
      rw [claim]
      simp [Nat.not_le.mpr engine]
    · rw [grant_other_state g b own, waits]
      exact nofun
  have stands : (a.claims[j]).state ≠ .shed := by rw [waits]; exact nofun
  unfold Apportioner.opportunity
  split
  · exact stands
  split
  · exact granted a waits _
  split
  · exact granted _ (takeBack_waiting _ _ waits) _
  split
  · exact stands
  · exact granted a waits _

/-- A report that can put TRIP alone in force, the consequences having been told: it is told to the converter alone. -/
theorem changes_report_onlyTrip (judged : Judged s) {i : Fin 32} (carries : catalogue[i].consequences = onlyTrip)
    (rep : Report) : Changes [.cond, .ev, .conv] s (s.report [(i, rep)]) := by
  have others (f : Consequences → Bool) (off : f onlyTrip = false) :
      (s.takeReport i rep).cond.inForceBy f = s.cond.inForceBy f := by
    refine Conditions.inForceBy_congr fun j carried => ?_
    have other : j ≠ i := by
      rintro rfl
      rw [carries, off] at carried
      cases carried
    rw [takeReport_other s _ other]
  change Changes _ s (s.takeReport i rep).judge
  have taken : Changes [.cond, .ev] s (s.takeReport i rep) := changes_takeReport s i rep
  have told : (s.takeReport i rep).cond.told = s.cond.inForce := (takeReport_told s i rep).trans judged
  have hold : (s.takeReport i rep).cond.inForce.hold = s.cond.inForce.hold := others (·.hold) rfl
  have inhibit : (s.takeReport i rep).cond.inForce.inhibitYaw = s.cond.inForce.inhibitYaw := others (·.inhibitYaw) rfl
  have service : (s.takeReport i rep).cond.inForce.shedService = s.cond.inForce.shedService :=
    others (·.shedService) rfl
  unfold State.judge State.tell
  rw [told]
  simp only [hold, inhibit, service, Bool.and_not_self, Bool.false_eq_true, if_false]
  have retold (c : Conditions) : Changes [.cond, .ev, .conv] s { s.takeReport i rep with cond := c } :=
    taken.mono.trans (changes_conditions _ c).mono
  split
  · exact (retold _).trans (changes_tripConverter _).mono
  · exact retold _

/-- The converter told of its slot, the consequences having been told before. -/
theorem changes_tellConverter_judged (judged : Judged s) (before : State) :
    Changes [.conv, .cond, .ev] s (State.tellConverter before s) := by
  have proven (c : Converter) : Changes [.conv, .cond, .ev] s { s with conv := c } := (changes_conv s c).mono
  have lost (c : Converter) : Changes [.conv, .cond, .ev] s
      (State.report [(Cond.coolingLost, .occurs)] { s with conv := c }) :=
    (proven c).trans (changes_report_onlyTrip (s := { s with conv := c }) judged rfl _).mono
  unfold State.tellConverter
  split
  · exact proven _
  split
  · simp only
    split
    · exact lost _
    · exact proven _
  · exact .refl _ s

/-- The yaw drive RELEASING for its present segment, before the brake opens (R142). -/
def Yaw.releasing (timeout : Nat) (y : Yaw) : Yaw :=
  { y with
    engine := .releasing, begun := true, direction := none, travel := none, target := none, stageLeft := some timeout }

theorem enterReleasing_of_closed (closed : s.level .brakeOpen = false) :
    s.enterReleasing = { s with yaw := s.yaw.releasing (s.setting Setting.brakeReleaseTimeout) } := by
  rw [State.enterReleasing, closed]
  rfl

/-- From `w` to `u` the engine, CLAIMING, has been granted its claim or has been left alone, and the routes and the
windows with it. -/
structure Grants (w u : State) : Prop where
  yaw : u.yaw = w.yaw ∨ u.yaw = w.yaw.releasing (w.setting Setting.brakeReleaseTimeout)
  rest : Changes [.app, .cond, .ev, .conv, .yaw] w u

theorem grants_grantOpportunity (claims : w.yaw.engine = .claiming) (closed : w.level .brakeOpen = false)
    (judged : Judged w) (waits : (w.claim 0).state = .waiting) : Grants w w.grantOpportunity := by
  unfold State.grantOpportunity
  split
  case isFalse => exact ⟨.inl rfl, .refl _ w⟩
  have moved := claimsMove_apportionStarting w (Apportioner.opportunity w.grantArgs)
  have app : (w.apportionStarting (Apportioner.opportunity w.grantArgs)).app = w.app.opportunity w.grantArgs := by
    rw [apportionStarting_app, apportion_app]
  generalize w.apportionStarting (Apportioner.opportunity w.grantArgs) = x at *
  have cooled : Changes [.ev] x (State.tellCooling w x) := changes_tellCooling w x
  have judged : Judged (State.tellCooling w x) := by
    rw [Judged, show (State.tellCooling w x).cond = x.cond from rfl, moved.told, moved.inForce]
    exact judged
  have told : Changes [.conv, .cond, .ev] x (State.tellConverter w (State.tellCooling w x)) :=
    cooled.mono.trans (changes_tellConverter_judged judged w)
  unfold State.tellOwners
  generalize State.tellConverter w (State.tellCooling w x) = y at *
  have rest : Changes [.app, .cond, .ev, .conv, .yaw] w y := moved.rest.mono.trans told.mono
  have yaw : y.yaw = w.yaw := (told .yaw (by decide)).trans (moved.rest .yaw (by decide))
  have inputs : y.inputs = w.inputs := rest .inputs (by decide)
  have store : y.store = w.store := rest .store (by decide)
  have unshed : (y.claim 0).state ≠ .shed := by
    rw [State.claim, show y.app = x.app from told .app (by decide), app]
    exact opportunity_waiting _ (by decide) waits
  unfold State.tellYaw
  split
  · rw [State.yawGranted, yaw, if_pos claims,
      enterReleasing_of_closed (by rw [State.level, inputs]; exact closed)]
    refine ⟨.inr ?_, rest.trans (changes_yaw y _).mono⟩
    rw [State.setting, store, yaw]
    rfl
  · have heard : ((w.claim 0).state != .shed && (y.claim 0).state == .shed) = false := by simp [unshed]
    rw [if_neg (by rw [heard]; exact nofun)]
    exact ⟨.inl yaw, rest⟩

/-! ### The event of a run -/

/-- What the end of an event adds once the claims have been settled. -/
theorem changes_closeEvent_settled (before u : State) :
    Changes [.cool, .conv, .ev, .out, .revs] u.settleClaims (closeEvent before u) := by
  have settled : Changes [.cool, .conv, .ev, .out, .revs] u.settleClaims u.settle :=
    (changes_settleActuators _).mono.trans (changes_setTripReason _).mono
  exact (settled.trans (changes_drive _).mono).trans (changes_revs _ _).mono

/-- What a run that finds no route RUNNING leaves of the routes, the engine and the windows at the end of its event. -/
structure RunsFrom (r : Fin 6) (v t : State) : Prop where
  routes : t.routes = (v.running r).routes
  yaw : t.yaw = (v.running r).yaw ∨ t.yaw = (v.running r).yaw.releasing (v.setting Setting.brakeReleaseTimeout)
  align : t.align = (v.running r).align

/-- With the stagger timer idle slot 0 may be granted in the event itself. -/
theorem runsFrom_finishEvent (quiet : v.ev.Quiet) (idle : v.runningRoute = none) (free : (v.claim 0).state = .free)
    (closed : v.level .brakeOpen = false) (judged : Judged v) (one : 1 ≤ v.setting Setting.stagger) (before : State) :
    RunsFrom r v (finishEvent before (v.admitRoute r)) := by
  rw [admitRoute_of_idle idle]
  have requested : ClaimsMove (v.running r) ((v.running r).engineRequest 0 yawAsk) :=
    claimsMove_engineRequest _ 0 yawAsk
  have waits : (((v.running r).engineRequest 0 yawAsk).claim 0).state = .waiting := by
    have free : ((v.running r).app.claims[(0 : Fin 16)]).state = .free := free
    rw [State.claim, State.engineRequest, claimRequest_app, engineAsk_yaw, if_pos free, openSlot_claim]
  change RunsFrom r v (finishEvent before ((v.running r).engineRequest 0 yawAsk))
  rw [show finishEvent before ((v.running r).engineRequest 0 yawAsk) = _ from
    finishEvent_claimRequest before _ (s := v.running r) quiet one]
  change RunsFrom r v (closeEvent before ((v.running r).engineRequest 0 yawAsk))
  generalize (v.running r).engineRequest 0 yawAsk = u at *
  have yaw : u.yaw = (v.running r).yaw := requested.rest .yaw (by decide)
  have closed : u.level .brakeOpen = false := by
    rw [State.level, show u.inputs = v.inputs from requested.rest .inputs (by decide)]
    exact closed
  have timeout : u.setting Setting.brakeReleaseTimeout = v.setting Setting.brakeReleaseTimeout := by
    rw [State.setting, State.setting, show u.store = v.store from requested.rest .store (by decide)]
  have judged : Judged u := by
    rw [Judged, requested.told, requested.inForce]
    exact judged
  have grants : Grants u u.settleClaims := by
    unfold State.settleClaims
    split
    · exact grants_grantOpportunity (by rw [yaw]; rfl) closed judged waits
    · exact ⟨.inl rfl, .refl _ u⟩
  have ends := changes_closeEvent_settled before u
  have rest : Changes [.app, .cond, .ev, .conv, .yaw, .cool, .out, .revs] (v.running r) (closeEvent before u) :=
    (requested.rest.mono.trans grants.rest.mono).trans ends.mono
  refine ⟨rest .routes (by decide), ?_, rest .align (by decide)⟩
  rw [show (closeEvent before u).yaw = _ from ends .yaw (by decide), ← yaw, ← timeout]
  exact grants.yaw

theorem claimRequest_drive {f : Apportioner → Apportioner} (reported : ShedReported w)
    (stack : (f w.app).shedStack = w.app.shedStack) :
    (w.claimRequest f).drive = ({ w with app := f w.app } : State).drive := by
  unfold State.claimRequest
  split
  · next same => rw [same]
  · rw [apportion_of_reported (by rw [stack]; exact reported)]
    rfl

/-- With the stagger timer running slot 0 is asked for, and nothing more (R34, R45). -/
theorem finishEvent_admitted_eq (quiet : v.ev.Quiet) (idle : v.runningRoute = none) (runs : StaggerRuns v)
    (reported : ShedReported v) (before : State) :
    ∃ revs, finishEvent before (v.admitRoute r) =
      { ({ v.running r with app := v.app.engineAsk 0 (v.setting Setting.prioYaw) yawAsk } : State).drive with
        revs := revs } := by
  rw [admitRoute_of_idle idle]
  obtain ⟨revs, ends⟩ := finishEvent_admitted (w := v.running r) quiet runs (v.setting Setting.prioYaw) before
  rw [ends, claimRequest_drive (w := v.running r) reported (engineAsk_yaw_shedStack _ _)]
  exact ⟨revs, rfl⟩

/-! ### RUN ROUTE (R132) -/

theorem runOn_admits (manual : 2 ≤ r.val)
    (state : (s.routes.routes[r]).state = .ready ∨ (s.routes.routes[r]).state = .ended)
    (passes : s.admission r = none) : runOn s r = answerOk (s.admitRoute r) := by
  have open_ : manualRoute r = true := decide_eq_true manual
  unfold runOn
  rcases state with state | state <;> simp only [open_, state, passes, Bool.not_true, Bool.false_eq_true, if_false]

theorem admitRoute_port (s : State) (r : Fin 6) : (s.admitRoute r).port = s.port :=
  (engineActs_admitRoute s r).port.trans (changes_admitted s r .port (by decide))

theorem exec_runRoute {h : Handle} {g : Option Nat} (ready : Ready s) (res : (resolve h s).2 = some (8, r.val))
    (guard : guardPasses s g 8 r.val = true) (manual : 2 ≤ r.val)
    (state : (s.routes.routes[r]).state = .ready ∨ (s.routes.routes[r]).state = .ended)
    (passes : s.admission r = none) :
    exec (.runRoute h g) s =
      .next
        { finishEvent s.entered (({ s with port := (resolve h s).1.port.enter [] 1 } : State).admitRoute r) with
          port := (resolve h s).1.port.answered .ok [] } := by
  have body : itemBody (.runRoute h g) s.entered =
      answerOk (({ s with port := (resolve h s).1.port.enter [] 1 } : State).admitRoute r) := by
    rw [← resolved_entered_eq]
    refine (withTable_entered res guard).trans ?_
    rw [resolved_entered_eq]
    exact runOn_admits manual state passes
  exact runItem_idle (i := .runRoute h g) (data := []) ready.1 (.inl ready.2) body (fun no => absurd rfl no)
    (admitRoute_port _ r) (resolved_due h ready.1.2.2)

theorem RunsFrom.route (h : RunsFrom r v t) : t.routes.routes[r] = (v.routes.routes[r]).run := by
  rw [h.routes]
  exact setRoute_routes_self v r _

theorem RunsFrom.engine (h : RunsFrom r v t) :
    (t.yaw.engine = .claiming ∨ t.yaw.engine = .releasing) ∧ t.yaw.route = some r ∧ t.yaw.position = 1 := by
  rcases h.yaw with yaw | yaw <;> rw [yaw]
  · exact ⟨.inl rfl, rfl, rfl⟩
  · exact ⟨.inr rfl, rfl, rfl⟩

/-! ### A route preempted (R152) -/

/-- The record of a route that another has preempted (R132, R133). -/
def Route.preempted (position : Nat) (x : Route) : Route :=
  { x with state := .ended, outcome := some .preempted, endedIn := some position }

theorem admitted_of_running (runs : s.runningRoute = some q) (other : r ≠ q) :
    s.admitted r =
      (s.setRoute q ((s.routes.routes[q]).preempted s.yaw.position)).setRoute r (s.routes.routes[r]).run := by
  have ended : s.endRoute .preempted = s.setRoute q ((s.routes.routes[q]).preempted s.yaw.position) := by
    rw [State.endRoute, runs]
    rfl
  rw [State.admitted, ended, setRoute_routes_other s _ other]
  rfl

theorem admitted_runs (s : State) (r : Fin 6) : (s.admitted r).runningRoute.isSome = true := by
  by_contra idle
  exact runningRoute_eq_none.mp (Option.not_isSome_iff_eq_none.mp idle) r (admitted_self s r)

/-- The engine from the first position of another route, not yet begun. -/
def Yaw.works (r : Fin 6) (y : Yaw) : Yaw := { y with route := some r, position := 1, begun := false }

theorem takeRoute_eq (s : State) (r : Fin 6) : s.takeRoute r = { s with yaw := s.yaw.works r } := rfl

theorem leaveBraking_of_unbegun (runs : s.runningRoute.isSome = true) (unbegun : s.yaw.begun = false) :
    s.leaveBraking = ({ s with yaw := { s.yaw with position := 1 } } : State).enterReleasing := by
  obtain ⟨q, runs⟩ := Option.isSome_iff_exists.mp runs
  unfold State.leaveBraking
  rw [runs]
  simp [unbegun]

/-- The drive BRAKING, its apply timer started and its TURNING figures absent (R147). -/
def Yaw.brakes (timeout : Nat) (y : Yaw) : Yaw :=
  { y with engine := .braking, stageLeft := some timeout, idleLeft := none, budgetLeft := none }

/-- What becomes of the engine's part `y` at a preemption by the route `r`, with its segment figures absent where it
begins the route at once (R147, R152). -/
structure Preempts (r : Fin 6) (s : State) (y : Yaw) : Prop where
  claiming : s.yaw.engine = .claiming →
    y = { s.yaw.works r with stageLeft := some (1000 * s.setting Setting.claimWait) }
  brakes : s.yaw.engine = .releasing → s.level .brakeOpen = true →
    y = (s.yaw.works r).brakes (s.setting Setting.brakeApplyTimeout)
  settles : s.yaw.engine = .turning →
    y = { s.yaw.works r with
      engine := .settling, stageLeft := some (s.setting Setting.settleTime), idleLeft := none, budgetLeft := none }
  goesOn : s.yaw.engine = .settling ∨ s.yaw.engine = .braking → y = s.yaw.works r
  begins : s.yaw.engine = .releasing ∧ s.level .brakeOpen = false ∨ s.yaw.engine = .dwelling →
    ∃ idle budget,
      y = { (s.yaw.works r).releasing (s.setting Setting.brakeReleaseTimeout) with
        idleLeft := idle, budgetLeft := budget }

theorem preempt_claiming (engine : s.yaw.engine = .claiming) (r : Fin 6) :
    s.preempt r =
      { s with yaw := { s.yaw.works r with stageLeft := some (1000 * s.setting Setting.claimWait) } } := by
  unfold State.preempt
  rw [engine]
  rfl

theorem preempt_turning (engine : s.yaw.engine = .turning) (r : Fin 6) :
    s.preempt r =
      { s with
        yaw :=
          { s.yaw.works r with
            engine := .settling, stageLeft := some (s.setting Setting.settleTime), idleLeft := none,
            budgetLeft := none } } := by
  unfold State.preempt
  rw [engine]
  rfl

theorem preempt_goesOn (engine : s.yaw.engine = .settling ∨ s.yaw.engine = .braking) (r : Fin 6) :
    s.preempt r = { s with yaw := s.yaw.works r } := by
  unfold State.preempt
  rcases engine with engine | engine <;> rw [engine] <;> rfl

theorem preempt_releasing_open (engine : s.yaw.engine = .releasing) (opened : s.level .brakeOpen = true) (r : Fin 6) :
    s.preempt r = { s with yaw := (s.yaw.works r).brakes (s.setting Setting.brakeApplyTimeout) } := by
  unfold State.preempt
  rw [engine]
  exact if_pos opened

theorem preempt_releasing_closed (runs : s.runningRoute.isSome = true) (engine : s.yaw.engine = .releasing)
    (closed : s.level .brakeOpen = false) (r : Fin 6) :
    s.preempt r =
      { s with
        yaw :=
          ((s.yaw.works r).brakes (s.setting Setting.brakeApplyTimeout)).releasing
            (s.setting Setting.brakeReleaseTimeout) } := by
  have confirmed : (s.takeRoute r).enterBraking = (s.takeRoute r).applyBrake.leaveBraking :=
    if_neg (by rw [show (s.takeRoute r).level .brakeOpen = false from closed]; exact nofun)
  unfold State.preempt
  rw [engine]
  change (s.takeRoute r).enterBraking = _
  rw [confirmed, leaveBraking_of_unbegun (s := (s.takeRoute r).applyBrake) runs rfl,
    enterReleasing_of_closed (by exact closed)]
  rfl

theorem preempt_dwelling (engine : s.yaw.engine = .dwelling) (closed : s.level .brakeOpen = false) (r : Fin 6) :
    s.preempt r =
      { s with yaw := (s.yaw.works r).releasing (s.setting Setting.brakeReleaseTimeout) } := by
  unfold State.preempt
  rw [engine]
  change (s.takeRoute r).enterReleasing = _
  rw [enterReleasing_of_closed (by exact closed)]
  rfl

theorem preempts_preempt (runs : v.runningRoute.isSome = true) (moving : v.yaw.engine ≠ .parked)
    (closed : v.yaw.engine = .dwelling → v.level .brakeOpen = false) :
    ∃ y, v.preempt r = { v with yaw := y } ∧ Preempts r v y := by
  cases engine : v.yaw.engine with
  | parked => exact absurd engine moving
  | claiming => exact ⟨_, preempt_claiming engine r, by constructor <;> simp [engine]⟩
  | releasing =>
    cases brake : v.level .brakeOpen with
    | true => exact ⟨_, preempt_releasing_open engine brake r, by constructor <;> simp [engine, brake]⟩
    | false =>
      refine ⟨_, preempt_releasing_closed runs engine brake r, ?_⟩
      constructor <;> simp [engine, brake]
      exact ⟨none, none, rfl⟩
  | turning => exact ⟨_, preempt_turning engine r, by constructor <;> simp [engine]⟩
  | dwelling =>
    refine ⟨_, preempt_dwelling engine (closed engine) r, ?_⟩
    constructor <;> simp [engine]
    exact ⟨_, _, rfl⟩
  | settling => exact ⟨_, preempt_goesOn (.inl engine) r, by constructor <;> simp [engine]⟩
  | braking => exact ⟨_, preempt_goesOn (.inr engine) r, by constructor <;> simp [engine]⟩

/-! ### The order of routes (R132) -/

theorem admission_of_idle (known : s.yaw.known = true) (free : s.inhibitInForce = false) (idle : s.runningRoute = none)
    (parked : s.yaw.engine = .parked) : s.admission r = none := by
  simp [State.admission, known, free, idle, parked]

/-- A manual route passes a RUNNING automatic one, whose rank is lower. -/
theorem admission_of_running (known : s.yaw.known = true) (free : s.inhibitInForce = false)
    (runs : s.runningRoute = some q) (automatic : q.val < 2) (manual : 2 ≤ r.val) : s.admission r = none := by
  have lower : routeRank q < routeRank r := by
    unfold routeRank
    split_ifs <;> omega
  simp [State.admission, known, free, runs, lower]

/-! ### The two kinds of run -/

/-- A route preempted by a manual one: the event adds the lines and the revisions alone. -/
theorem finishEvent_preempts (quiet : v.ev.Quiet) (runs : v.runningRoute = some q) (other : r ≠ q)
    (moving : v.yaw.engine ≠ .parked) (closed : v.yaw.engine = .dwelling → v.level .brakeOpen = false)
    (before : State) :
    ∃ y revs, Preempts r v y ∧
      finishEvent before (v.admitRoute r) =
        { ({ (v.setRoute q ((v.routes.routes[q]).preempted v.yaw.position)).setRoute r (v.routes.routes[r]).run with
            yaw := y } : State).drive with revs := revs } := by
  have stands : Changes [.routes] v (v.admitted r) := changes_admitted v r
  have yaw : (v.admitted r).yaw = v.yaw := stands .yaw (by decide)
  have inputs : (v.admitted r).inputs = v.inputs := stands .inputs (by decide)
  have store : (v.admitted r).store = v.store := stands .store (by decide)
  obtain ⟨y, preempted, acts⟩ := preempts_preempt (r := r) (admitted_runs v r) (by rw [yaw]; exact moving)
    (by rw [yaw, State.level, inputs]; exact closed)
  have acts : Preempts r v y := by
    obtain ⟨claiming, brakes, settles, goesOn, begins⟩ := acts
    rw [yaw] at claiming settles goesOn begins
    simp only [yaw, State.level, State.setting, inputs, store] at claiming brakes settles begins
    exact ⟨claiming, brakes, settles, goesOn, begins⟩
  have admits : v.admitRoute r = { v.admitted r with yaw := y } := by
    rw [admitRoute_eq, runs, ← preempted]
    rfl
  rw [admits, finishEvent_quiet (by exact (stands .ev (by decide) : (v.admitted r).ev = v.ev) ▸ quiet),
    admitted_of_running runs other]
  exact ⟨y, _, acts, rfl⟩

end

/-- Settles O36: the route's admission is the run's whole act; the end of its event adds a grant at most. -/
theorem runRouteSetsRunning : Obligations.RunRouteSetsRunning := by
  intro s h g q r j ready res guard manual state known free
  have empty : s.ev = Scratch.empty := ready.1.1.2
  have quiet : s.ev.Quiet := empty ▸ Scratch.quiet_empty
  constructor
  · intro idle parked
    have runs := exec_runRoute ready res guard manual state (admission_of_idle known free idle parked)
    refine ⟨_, runs, rfl, ?_, ?_⟩
    · intro claimFree closed judged one
      have ran : RunsFrom r _ _ := runsFrom_finishEvent
        (v := { s with port := (resolve h s).1.port.enter [] 1 }) quiet idle claimFree closed judged one s.entered
      obtain ⟨engine, route, position⟩ := ran.engine
      have align := ran.align
      have self := ran.route
      refine ⟨?_, ?_, ?_, engine, route, position, ?_, ?_⟩
      · exact congrArg (·.state) self
      · exact congrArg (·.done) self
      · exact congrArg (·.slots) self
      · exact congrArg (·.short) align
      · exact congrArg (·.long) align
    · intro staggers reported
      obtain ⟨revs, ends⟩ := finishEvent_admitted_eq (r := r)
        (v := { s with port := (resolve h s).1.port.enter [] 1 }) quiet idle staggers reported s.entered
      rw [ends]
      refine ⟨rfl, rfl, rfl, ?_, ?_, ?_, rfl⟩
      · intro claimFree
        have claimFree : (s.app.claims[(0 : Fin 16)]).state = .free := claimFree
        change (s.app.engineAsk 0 (s.setting Setting.prioYaw) yawAsk).claims[(0 : Fin 16)] = _
        rw [engineAsk_yaw, if_pos claimFree, openSlot_claim]
      · exact engineAsk_yaw_other s.app (s.setting Setting.prioYaw)
      · refine Changes.of_ev ?_ empty.symm
        intro piece out
        cases piece
        case ev | app | align | routes | yaw | port | out | revs => exact absurd (by decide) out
        all_goals rfl
  · intro runs automatic moving closed
    have other : r ≠ q := fun same => by omega
    have ran := exec_runRoute ready res guard manual state (admission_of_running known free runs automatic manual)
    obtain ⟨y, revs, acts, ends⟩ := finishEvent_preempts (r := r)
      (v := { s with port := (resolve h s).1.port.enter [] 1 }) quiet runs other moving closed s.entered
    rw [ends] at ran
    obtain ⟨claiming, brakes, settles, goesOn, begins⟩ := acts
    refine ⟨_, ran, rfl, rfl, claiming, brakes, settles, goesOn, ?_, ?_, rfl⟩
    · intro stands
      obtain ⟨idle, budget, begun⟩ := begins stands
      subst begun
      exact ⟨rfl, rfl, rfl, rfl, rfl, rfl, rfl, rfl, rfl, rfl, rfl, rfl⟩
    · refine Changes.of_ev ?_ empty.symm
      intro piece out
      cases piece
      case ev | routes | yaw | port | out | revs => exact absurd (by decide) out
      all_goals rfl

end Sys2Proof.Machine
end

section
/-!
The windows' closes: the mean, the auto trigger and the untwist (R119, R121 to R124).
-/
namespace Sys2Proof.Machine

section
variable {s t u : State} {r : Fin 6} {slot : Fin 24} {trigger : Trigger} {kind : TargetKind} {target : Int}
  {direction : SegDirection} {speed : Speed} {mean : Option Int} {m : Int} {threshold : Nat} {marked : Bool}
  {w : Window}

/-! ### The mean and the conditions of a close -/

theorem mean_of_few (few : 32 * w.count < w.length) : w.mean = none := if_pos few

theorem mean_of_enough (enough : w.length ≤ 32 * w.count) : w.mean = some (w.sum.tdiv w.count) :=
  if_neg (Nat.not_lt.mpr enough)

theorem untwistFallsDue_iff :
    s.untwistFallsDue = true ↔ s.yaw.known = true ∧ s.setting Setting.twistUntwist ≤ s.yaw.twist.natAbs := by
  rw [State.untwistFallsDue, Bool.and_eq_true, decide_eq_true_eq]

theorem lightWind_iff :
    s.lightWind = true ↔ ∃ v, s.windSpeed = some v ∧ v ≤ s.setting Setting.untwistWindMax := by
  unfold State.lightWind
  cases s.windSpeed <;> simp

/-! ### A route of the Alignment Unit (R122, R123) -/

/-- A one-segment route of the Alignment Unit as written, before it is admitted. -/
def State.aligning (r : Fin 6) (slot : Fin 24) (g : Segment) (trigger : Trigger) (s : State) : State :=
  { (s.setSegment slot (some g)).setRoute r { s.routes.routes[r] with slots := [slot] } with
    align := { s.align with trigger := trigger, triggerTime := some s.store.partTime } }

theorem runAlignment_eq (s : State) :
    s.runAlignment r slot trigger kind target direction speed =
      (s.aligning r slot ⟨r, 1, kind, target, direction, speed, 0⟩ trigger).admitRoute r := rfl

theorem changes_aligning (s : State) (g : Segment) : Changes [.routes, .align] s (s.aligning r slot g trigger) := by
  intro p out
  cases p
  case routes | align => exact absurd (by decide) out
  all_goals rfl

theorem aligning_idle (idle : s.runningRoute = none) (g : Segment) :
    (s.aligning r slot g trigger).runningRoute = none := by
  rw [runningRoute_eq_none] at idle ⊢
  intro q
  change (((s.setSegment slot (some g)).setRoute r
    { s.routes.routes[r] with slots := [slot] }).routes.routes[q]).state ≠ _
  by_cases own : q = r
  · rw [own, setRoute_routes_self]
    exact idle r
  · rw [setRoute_routes_other _ _ own]
    exact idle q

/-- From `s` to `t` the Alignment Unit has written the segment `g` for the route `r` and the route has begun to run. -/
structure Aligns (r : Fin 6) (slot : Fin 24) (g : Segment) (trigger : Trigger) (s t : State) : Prop where
  align : t.align =
    { s.align with trigger := trigger, triggerTime := some s.store.partTime, short := none, long := none }
  segment : t.routes.segments[slot] = some g
  runs : (t.routes.routes[r]).state = .running
  slots : (t.routes.routes[r]).slots = [slot]
  engine : t.yaw.engine = .claiming
  route : t.yaw.route = some r
  position : t.yaw.position = 1
  recs : ∀ i, i ≠ Cond.claimShed → t.cond.recs[i] = s.cond.recs[i]
  rest : Changes [.ev, .app, .align, .routes, .yaw, .cond, .out, .revs] s t

theorem aligns_admitRoute (quiet : s.ev.Quiet) (idle : s.runningRoute = none) (runs : StaggerRuns s) (g : Segment)
    (before : State) : Aligns r slot g trigger s (finishEvent before ((s.aligning r slot g trigger).admitRoute r)) := by
  have writes := changes_aligning (r := r) (slot := slot) (trigger := trigger) s g
  have segment : (s.aligning r slot g trigger).routes.segments[slot] = some g := setSegment_segments_self s slot _
  have slots : ((s.aligning r slot g trigger).routes.routes[r]).slots = [slot] :=
    congrArg (·.slots) (setRoute_routes_self (s.setSegment slot (some g)) r _)
  have align : (s.aligning r slot g trigger).align =
      { s.align with trigger := trigger, triggerTime := some s.store.partTime } := rfl
  have quiet : (s.aligning r slot g trigger).ev.Quiet := quiet
  have runs : StaggerRuns (s.aligning r slot g trigger) := runs
  rw [admitRoute_of_idle (aligning_idle idle g)]
  generalize s.aligning r slot g trigger = v at *
  have starts := changes_running v r
  obtain ⟨revs, ends⟩ := finishEvent_admitted (w := v.running r) quiet runs (v.setting Setting.prioYaw) before
  rw [ends]
  have asks := changes_claimRequest (v.running r) (Apportioner.engineAsk 0 (v.setting Setting.prioYaw) yawAsk)
  have keeps := keeps_claimRequest (v.running r) (Apportioner.engineAsk 0 (v.setting Setting.prioYaw) yawAsk)
  generalize (v.running r).claimRequest (Apportioner.engineAsk 0 (v.setting Setting.prioYaw) yawAsk) = x at *
  have routes : x.routes = (v.running r).routes := asks .routes (by decide)
  have yaw : x.yaw = (v.running r).yaw := asks .yaw (by decide)
  have windows : x.align = { v.align with short := none, long := none } := asks .align (by decide)
  have begun : x.routes.routes[r] = (v.routes.routes[r]).run := by
    rw [routes]
    exact setRoute_routes_self v r _
  refine ⟨by rw [align] at windows; exact windows, (congrArg (·.segments[slot]) routes).trans segment,
    congrArg (·.state) begun, (congrArg (·.slots) begun).trans slots, congrArg (·.engine) yaw, congrArg (·.route) yaw,
    congrArg (·.position) yaw, fun i other => ?_, ?_⟩
  · have stands : v.cond = s.cond := writes .cond (by decide)
    rw [← stands]
    exact keeps.recs i (by simpa using other)
  · exact (((writes.mono.trans starts.mono).trans asks.mono).trans (changes_drive x).mono).trans
      (changes_revs _ _).mono

theorem aligns_runAlignment (quiet : s.ev.Quiet) (idle : s.runningRoute = none) (runs : StaggerRuns s)
    (before : State) :
    Aligns r slot ⟨r, 1, kind, target, direction, speed, 0⟩ trigger s
      (finishEvent before (s.runAlignment r slot trigger kind target direction speed)) :=
  aligns_admitRoute quiet idle runs _ before

theorem autoTrigger_of_unmet
    (unmet : mean = none ∨ s.mayAlign marked = false ∨ mean = some m ∧ m.natAbs < threshold) :
    s.autoTrigger mean threshold marked = s := by
  unfold State.autoTrigger
  rcases unmet with absent | may | ⟨formed, below⟩
  · rw [absent]
  · cases mean with
    | none => rfl
    | some n => simp [may]
  · rw [formed]
    simp [Nat.not_le.mpr below]

theorem autoTrigger_of_meets (formed : mean = some m) (reaches : threshold ≤ m.natAbs)
    (may : s.mayAlign marked = true) :
    s.autoTrigger mean threshold marked = s.runAlignment 0 0 .auto .relative (m * 10) .safe .normal := by
  subst formed
  exact if_pos (by simp [may, reaches])

/-- A record that carries no consequence is no precondition of an alignment (R122). -/
theorem mayAlign_takeReport {i : Fin 32} (carries : catalogue[i].consequences = Consequences.none) (rep : Report) :
    (s.takeReport i rep).mayAlign marked = s.mayAlign marked := by
  have inForce : (s.takeReport i rep).cond.inForce = s.cond.inForce := by
    rw [State.takeReport, putRec_cond, inForce_setRec s _ carries]
  have suppress : (s.takeReport i rep).suppressInForce = s.suppressInForce :=
    congrArg Consequences.suppressAuto inForce
  have inhibit : (s.takeReport i rep).inhibitInForce = s.inhibitInForce := congrArg Consequences.inhibitYaw inForce
  have rest := changes_takeReport s i rep
  have meter : (s.takeReport i rep).meter = s.meter := rest .meter (by decide)
  have store : (s.takeReport i rep).store = s.store := rest .store (by decide)
  have yaw : (s.takeReport i rep).yaw = s.yaw := rest .yaw (by decide)
  have routes : (s.takeReport i rep).routes = s.routes := rest .routes (by decide)
  have wind : (s.takeReport i rep).windSpeed = s.windSpeed := by
    rw [State.windSpeed, State.windSpeed, State.channelValue, State.channelValue, meter]
  have settings (k : Fin 86) : (s.takeReport i rep).setting k = s.setting k := by
    rw [State.setting, State.setting, store]
  simp only [State.mayAlign, wind, settings, yaw, runningRoute_congr routes, suppress, inhibit]

/-! ### The windows -/

/-- The short window closed and a fresh one opened, before the auto trigger (R119). -/
def State.shortReopened (w : Window) (s : State) : State :=
  { s with
    align :=
      { s.align with lastShort := w.mean, short := some (Window.fresh (1000 * s.setting Setting.shortWindow)) } }

/-- The long window closed and a fresh one opened, before the untwist check (R119). -/
def State.longReopened (w : Window) (s : State) : State :=
  { s with
    align := { s.align with lastLong := w.mean, long := some (Window.fresh (1000 * s.setting Setting.longWindow)) } }

theorem shortCloses_of_open (opened : s.align.short = some w) :
    s.shortCloses =
      (s.shortReopened w).autoTrigger w.mean (s.setting Setting.shortThreshold) w.motion := by
  rw [State.shortCloses, opened]
  rfl

theorem exec_shortWindowClose (between : Between s) (opened : s.align.short = some w) :
    exec .shortWindowClose s =
      .next
        (finishEvent s
          ((s.shortReopened w).autoTrigger w.mean (s.setting Setting.shortThreshold) w.motion)) := by
  rw [← shortCloses_of_open opened]
  exact expiry_of_running (running := fun s => s.align.short.isSome) between.1 (by rw [opened]; rfl)

theorem exec_longWindowClose (between : Between s) (opened : s.align.long = some w) :
    exec .longWindowClose s = .next (finishEvent s (s.closeLong w)) := by
  have closes : s.longCloses = s.closeLong w := by rw [State.longCloses, opened]
  rw [← closes]
  exact expiry_of_running (running := fun s => s.align.long.isSome) between.1 (by rw [opened]; rfl)

end

/-- Settles O43: the close is its fresh window, and the auto trigger where it meets its conditions. -/
theorem shortWindowCloses : Obligations.ShortWindowCloses := by
  intro s w m between opened
  have runs := exec_shortWindowClose between opened
  have quiet : s.ev.Quiet := between.2 ▸ Scratch.quiet_empty
  refine ⟨fun unmet => ?_, fun formed reaches may staggers => ?_, mean_of_few, mean_of_enough⟩
  · rw [autoTrigger_of_unmet (s := s.shortReopened w) unmet] at runs
    exact ⟨_, runs, changes_finishEvent_quiet (s := s.shortReopened w) quiet⟩
  · obtain ⟨-, idle, -⟩ := mayAlign_iff may
    rw [autoTrigger_of_meets (s := s.shortReopened w) formed reaches may] at runs
    obtain ⟨align, segment, running, slots, engine, route, position, -, rest⟩ :=
      aligns_runAlignment (s := s.shortReopened w) (r := 0) (slot := 0) (trigger := .auto) (kind := .relative)
        (target := m * 10) (direction := .safe) (speed := .normal) quiet idle staggers s
    refine ⟨_, runs, ?_, ?_, ?_, ?_, ?_, segment, running, slots, engine, route, position, ?_⟩
    · exact (congrArg (·.lastShort) align).trans formed
    · exact congrArg (·.trigger) align
    · exact congrArg (·.triggerTime) align
    · exact congrArg (·.short) align
    · exact congrArg (·.long) align
    · have reopens : Changes [.align] s (s.shortReopened w) := changes_align s _
      exact Changes.of_ev (reopens.mono.trans rest) ((finishEvent_ev s _).trans between.2.symm)

end Sys2Proof.Machine
end

section
/-!
What the end of an event leaves of the means and of the untwist that is due (R119, R123): the engine's acts and the
consequences told move the windows alone.
-/
namespace Sys2Proof.Machine

section
variable {s t u : State} {w : Window}

/-! ### What stays of the Alignment Unit -/

/-- From `s` to `t` the mean of the long window and the untwist that is due stay. -/
structure MeanStays (s t : State) : Prop where
  lastLong : t.align.lastLong = s.align.lastLong
  untwistDue : t.align.untwistDue = s.align.untwistDue

theorem MeanStays.refl (s : State) : MeanStays s s := ⟨rfl, rfl⟩

theorem MeanStays.trans (h : MeanStays s t) (k : MeanStays t u) : MeanStays s u :=
  ⟨k.lastLong.trans h.lastLong, k.untwistDue.trans h.untwistDue⟩

theorem MeanStays.ite {a b : State} {c : Prop} [Decidable c] (ha : MeanStays s a) (hb : MeanStays s b) :
    MeanStays s (if c then a else b) := by
  split <;> assumption

theorem MeanStays.onlyIf {c : Prop} [Decidable c] (h : MeanStays s t) (k : MeanStays t u) :
    MeanStays s (if c then u else t) := .ite (h.trans k) h

theorem MeanStays.foldl {α : Type} {f : State → α → State} (hf : ∀ t x, MeanStays t (f t x)) (l : List α) (s : State) :
    MeanStays s (l.foldl f s) := by
  induction l generalizing s with
  | nil => exact .refl s
  | cons x l ih => exact (hf s x).trans (ih _)

theorem meanStays_of_changes {ps : List Piece} (h : Changes ps s t) (free : Piece.align ∉ ps := by decide) :
    MeanStays s t := by
  have align : t.align = s.align := h .align free
  exact ⟨by rw [align], by rw [align]⟩

theorem MeanStays.rest {ps : List Piece} (h : MeanStays s t) (k : Changes ps t u) (free : Piece.align ∉ ps := by decide) :
    MeanStays s u := h.trans (meanStays_of_changes k free)

/-! ### The acts of the yaw engine -/

theorem meanStays_park (s : State) : MeanStays s s.park := by
  have opened (v : State) : MeanStays v v.openWindows := ⟨rfl, rfl⟩
  unfold State.park
  exact ((meanStays_of_changes (changes_yaw s _)).trans (opened _)).rest (changes_engineRequest _ 0 0)

theorem meanStays_leaveBraking (s : State) : MeanStays s s.leaveBraking := by
  have releases (v : State) : MeanStays v v.enterReleasing :=
    meanStays_of_changes (changes_enterReleasing v)
  unfold State.leaveBraking
  split
  · exact meanStays_park s
  split
  · exact (meanStays_of_changes (changes_yaw s _)).trans (releases _)
  split
  · split
    · exact meanStays_of_changes (changes_yaw s _)
    · exact (meanStays_of_changes (changes_advance s)).trans (releases _)
  · exact meanStays_park s

theorem meanStays_stopPath (s : State) : MeanStays s s.stopPath := by
  have brake : MeanStays s s.applyBrake := meanStays_of_changes (changes_applyBrake s)
  unfold State.stopPath
  split
  · exact meanStays_park s
  · exact .ite brake (brake.trans (meanStays_leaveBraking _))
  · exact meanStays_of_changes (changes_enterSettling s)
  · exact meanStays_park s
  all_goals exact .refl s

theorem meanStays_stopRunning (s : State) (o : RouteOutcome) : MeanStays s (s.stopRunning o) :=
  .ite ((meanStays_of_changes (changes_endRoute s o)).trans (meanStays_stopPath _)) (.refl s)

/-! ### Consequences and owners told (R165, R47) -/

theorem meanStays_tell (s : State) (told now : Consequences) : MeanStays s (s.tell told now) := by
  unfold State.tell
  have trip : MeanStays s s.tripConverter := meanStays_of_changes (changes_tripConverter s)
  refine .onlyIf (.onlyIf (.onlyIf (.onlyIf (.onlyIf (.refl s) trip) ?_) (meanStays_stopRunning _ _)) ?_) ?_
  · exact meanStays_of_changes (changes_holdConverter _)
  · exact meanStays_of_changes (changes_shedService _)
  · exact meanStays_of_changes (changes_claimEvent _)

theorem meanStays_report (s : State) (g : Group) : MeanStays s (s.report g) := by
  have taken : MeanStays s (s.takeReports g) := meanStays_of_changes (changes_takeReports s g)
  exact (taken.rest (changes_conditions _ _)).trans (meanStays_tell _ _ _)

theorem meanStays_tellConverter (before s : State) : MeanStays s (State.tellConverter before s) := by
  have proven (c : Converter) : MeanStays s { s with conv := c } := meanStays_of_changes (changes_conv s c)
  unfold State.tellConverter
  simp only
  exact .ite (proven _) (.ite (.ite ((proven _).trans (meanStays_report _ _)) (proven _)) (.refl s))

theorem meanStays_yawShed (s : State) : MeanStays s s.yawShed :=
  (meanStays_of_changes (changes_yaw s _)).trans (meanStays_stopRunning _ _)

theorem meanStays_tellOwners (before s : State) : MeanStays s (State.tellOwners before s) := by
  have granted (v : State) : MeanStays v v.yawGranted :=
    .ite (meanStays_of_changes (changes_enterReleasing v)) (.refl v)
  have cooled : MeanStays s (State.tellCooling before s) :=
    meanStays_of_changes (changes_tellCooling before s)
  exact (cooled.trans (meanStays_tellConverter before _)).trans
    (.ite (granted _) (.ite (meanStays_yawShed _) (.refl _)))

theorem meanStays_grantOpportunity (s : State) : MeanStays s s.grantOpportunity :=
  .ite ((meanStays_of_changes (changes_apportionStarting s _)).trans (meanStays_tellOwners s _)) (.refl s)

/-! ### The end of an event -/

theorem meanStays_driveActuators (s : State) (zs : List Zone) : MeanStays s (State.driveActuators zs s) := by
  have asked (t : State) (z : Zone) : MeanStays t (t.askActuator z) :=
    meanStays_of_changes (changes_askActuator_claims t z)
  exact ((MeanStays.foldl asked zs s).rest (changes_noteActuators _ zs)).trans (meanStays_tellOwners s _)

theorem meanStays_evaluateZones (s : State) (zs : List Zone) : MeanStays s (State.evaluateZones zs s) := by
  have zones : Changes [.cool] s (zs.foldl (fun t z => t.setZone z (t.evaluated z)) s) :=
    Changes.foldl (fun t z => changes_setZone t z _) zs s
  have noted := (meanStays_of_changes zones).rest (changes_noteZeroHolds s _ zs)
  exact (noted.trans (meanStays_report _ _)).trans (meanStays_driveActuators _ _)

theorem meanStays_closeEvent (before s : State) : MeanStays s (closeEvent before s) := by
  have claims : MeanStays s s.settleClaims := .ite (meanStays_grantOpportunity s) (.refl s)
  exact claims.rest (changes_closeEvent_settled before s)

theorem meanStays_staggerExpired (s : State) : MeanStays s s.staggerExpired :=
  (meanStays_of_changes (changes_app s _)).trans (meanStays_grantOpportunity _)

theorem meanStays_finishEvent (before s : State) : MeanStays s (finishEvent before s) :=
  finishEvent_induct (P := MeanStays s) (meanStays_closeEvent before s)
    (fun u z h => ((h.rest (changes_setZone u z _)).trans (meanStays_evaluateZones _ [z])).trans
      (meanStays_closeEvent _ _))
    (fun u h => (h.trans (meanStays_staggerExpired u)).trans (meanStays_closeEvent _ _))

/-! ### The auto trigger (R122) -/

/-- The auto trigger moves the windows and notes its time; a mean that triggers finds no route RUNNING. -/
theorem meanStays_autoTrigger (s : State) (mean : Option Int) (threshold : Nat) (marked : Bool) :
    MeanStays s (s.autoTrigger mean threshold marked) := by
  have writes (g : Segment) : MeanStays s ((s.aligning 0 0 g .auto).running 0) := ⟨rfl, rfl⟩
  unfold State.autoTrigger
  split
  · exact .refl s
  split
  · next meets =>
    obtain ⟨-, idle, -⟩ := mayAlign_iff (Bool.and_eq_true_iff.mp meets).2
    rw [runAlignment_eq, admitRoute_of_idle (aligning_idle idle _)]
    exact (writes _).rest (changes_claimRequest _ _)
  · exact .refl s

theorem keeps_autoTrigger (s : State) (mean : Option Int) (threshold : Nat) (marked : Bool) :
    Keeps claimRecs [] s (s.autoTrigger mean threshold marked) := by
  have runs (m : Int) : Keeps claimRecs [] s (s.runAlignment 0 0 .auto .relative (m * 10) .safe .normal) := by
    rw [runAlignment_eq]
    exact (Keeps.of_changes (changes_aligning s _).mono).trans (keeps_admitRoute _ 0)
  unfold State.autoTrigger
  split
  · exact Keeps.refl _ _ s
  · exact Keeps.ite (runs _) (Keeps.refl _ _ s)

/-! ### The untwist (R123, R124) -/

theorem report_untwistDue_present (s : State) :
    ((s.report [(Cond.untwistDue, .arrives)]).cond.recs[Cond.untwistDue]).present = true :=
  report_present (b := true) (by decide) List.mem_cons_self rfl (by decide)

/-- An untwist put off: it is due, and the long mean stays. -/
structure Defers (s t : State) : Prop where
  lastLong : t.align.lastLong = s.align.lastLong
  untwistDue : t.align.untwistDue = true
  present : (t.cond.recs[Cond.untwistDue]).present = true

theorem defers_deferUntwist (s : State) : Defers s s.deferUntwist := by
  obtain ⟨lastLong, untwistDue⟩ := meanStays_report
    { s with align := { s.align with untwistDue := true } } [(Cond.untwistDue, .arrives)]
  exact ⟨lastLong, untwistDue, report_untwistDue_present _⟩

theorem Defers.rest (h : Defers s t) (means : MeanStays t u)
    (recs : u.cond.recs[Cond.untwistDue] = t.cond.recs[Cond.untwistDue]) : Defers s u :=
  ⟨means.lastLong.trans h.lastLong, means.untwistDue.trans h.untwistDue, by rw [recs]; exact h.present⟩

/-- Whatever the auto trigger and the end of the event do, the untwist put off is due. -/
theorem defers_finishEvent (s : State) (mean : Option Int) (threshold : Nat) (marked : Bool) (before : State) :
    Defers s (finishEvent before (s.deferUntwist.autoTrigger mean threshold marked)) := by
  have deferred := (defers_deferUntwist s).rest (meanStays_autoTrigger _ mean threshold marked)
    ((keeps_autoTrigger _ mean threshold marked).recs _ (by decide))
  exact deferred.rest (meanStays_finishEvent before _)
    ((stays_finishEvent (zs := allZones) fun z _ => by cases z <;> decide).recs _ (by decide))

/-- The consequences having been told, the untwist put off touches its own record and mark alone. -/
theorem deferUntwist_of_judged (judged : Judged s) :
    s.deferUntwist =
      ({ s with align := { s.align with untwistDue := true } } : State).takeReport Cond.untwistDue .arrives :=
  report_of_judged (by exact judged) rfl

/-! ### The long window's close -/

theorem closeLong_of_untwistless (falls : s.untwistFallsDue = false) :
    s.closeLong w = (s.longReopened w).autoTrigger w.mean (s.setting Setting.longThreshold) w.motion :=
  if_neg (ne_true_of_eq_false (show (s.longReopened w).untwistFallsDue = false from falls))

theorem closeLong_of_untwist (falls : s.untwistFallsDue = true) (light : s.lightWind = true)
    (may : s.mayAlign w.motion = true) :
    s.closeLong w =
      (s.longReopened w).runAlignment 1 1 .untwist .twist (untwistTarget s.yaw.twist) .shortest .slow := by
  have light : (s.longReopened w).lightWind = true := light
  have may : (s.longReopened w).mayAlign w.motion = true := may
  refine (if_pos (show (s.longReopened w).untwistFallsDue = true from falls)).trans (if_pos ?_)
  exact Bool.and_eq_true_iff.mpr ⟨light, may⟩

theorem closeLong_of_deferred (falls : s.untwistFallsDue = true)
    (held : s.lightWind = false ∨ s.mayAlign w.motion = false) :
    s.closeLong w =
      (s.longReopened w).deferUntwist.autoTrigger w.mean (s.setting Setting.longThreshold) w.motion := by
  have held : ((s.longReopened w).lightWind && (s.longReopened w).mayAlign w.motion) = false :=
    Bool.and_eq_false_iff.mpr held
  refine (if_pos (show (s.longReopened w).untwistFallsDue = true from falls)).trans (if_neg ?_)
  exact ne_true_of_eq_false held

/-- The long window closed and, where an untwist falls due, put off: before the auto trigger, and with the consequences
told. -/
def State.longClosed (w : Window) (s : State) : State :=
  if s.untwistFallsDue = true then (s.longReopened w).deferUntwist else s.longReopened w

theorem closeLong_of_longClosed (held : s.untwistFallsDue = false ∨ s.lightWind = false ∨ s.mayAlign w.motion = false) :
    s.closeLong w = (s.longClosed w).autoTrigger w.mean (s.setting Setting.longThreshold) w.motion := by
  cases falls : s.untwistFallsDue with
  | false =>
    rw [State.longClosed, falls]
    exact closeLong_of_untwistless falls
  | true =>
    rw [State.longClosed, falls]
    exact closeLong_of_deferred falls (held.resolve_left (by rw [falls]; exact nofun))

/-- What the long window's close leaves before the auto trigger, the consequences having been told before. -/
structure Closes (w : Window) (s u : State) : Prop where
  quiet : u.ev.Quiet
  align : u.align = { (s.longReopened w).align with untwistDue := s.untwistFallsDue || s.align.untwistDue }
  present : s.untwistFallsDue = true → (u.cond.recs[Cond.untwistDue]).present = true
  may : ∀ marked, u.mayAlign marked = s.mayAlign marked
  rest : Changes [.ev, .align, .cond] s u

theorem closes_longClosed (quiet : s.ev.Quiet) (judged : Judged s) : Closes w s (s.longClosed w) := by
  have reopens : Changes [.align] s (s.longReopened w) := changes_align s _
  cases falls : s.untwistFallsDue with
  | false =>
    have stands : s.longClosed w = s.longReopened w := by rw [State.longClosed, falls]; rfl
    rw [stands]
    exact ⟨quiet, by rw [falls]; rfl, fun due => absurd (falls.symm.trans due) nofun, fun _ => rfl, reopens.mono⟩
  | true =>
    have deferred : s.longClosed w = (s.longReopened w).deferUntwist := by rw [State.longClosed, falls]; rfl
    have present := (defers_deferUntwist (s.longReopened w)).present
    rw [deferred]
    rw [deferUntwist_of_judged (s := s.longReopened w) judged] at present ⊢
    have reported := changes_takeReport
      ({ s.longReopened w with align := { (s.longReopened w).align with untwistDue := true } } : State)
      Cond.untwistDue .arrives
    refine ⟨quiet_takeReport (by exact quiet) _ _, ?_, fun _ => present, fun marked => ?_, ?_⟩
    · rw [falls]
      exact reported .align (by decide)
    · exact mayAlign_takeReport rfl _
    · exact (reopens.mono.trans (changes_align _ _).mono).trans reported.mono

end

/-- Settles O44: the close is its fresh window, the untwist run or put off, and the auto trigger where it meets its
conditions. -/
theorem longWindowCloses : Obligations.LongWindowCloses := by
  intro s w m between opened
  have runs := exec_longWindowClose between opened
  have quiet : s.ev.Quiet := between.2 ▸ Scratch.quiet_empty
  have reopens : Changes [.align] s (s.longReopened w) := changes_align s _
  refine ⟨untwistFallsDue_iff, lightWind_iff, mean_of_few, mean_of_enough, fun falls unmet => ?untwistless,
    fun held judged formed reaches may staggers => ?triggers, fun falls held judged unmet => ?deferred,
    fun falls light may staggers => ?untwists, fun falls may => ?untold⟩
  case untwistless =>
    rw [closeLong_of_untwistless falls, autoTrigger_of_unmet (s := s.longReopened w) unmet] at runs
    exact ⟨_, runs, changes_finishEvent_quiet (s := s.longReopened w) quiet⟩
  case triggers =>
    have closes := closes_longClosed (w := w) quiet judged
    rw [closeLong_of_longClosed (held.imp_right .inl),
      autoTrigger_of_meets formed reaches ((closes.may _).trans may)] at runs
    generalize s.longClosed w = u at *
    obtain ⟨quiet, closed, present, mayAlign, closes⟩ := closes
    obtain ⟨-, idle, -⟩ := mayAlign_iff may
    have idle : u.runningRoute = none := (runningRoute_congr (closes .routes (by decide))).trans idle
    have staggers : StaggerRuns u := by rwa [StaggerRuns, show u.app = s.app from closes .app (by decide)]
    obtain ⟨align, segment, running, slots, engine, route, position, recs, rest⟩ :=
      aligns_runAlignment (s := u) (r := 0) (slot := 0) (trigger := .auto) (kind := .relative)
        (target := m * 10) (direction := .safe) (speed := .normal) quiet idle staggers s
    rw [closed, show u.store = s.store from closes .store (by decide)] at align
    refine ⟨_, runs, ?_, ?_, ?_, ?_, ?_, ?_, fun due => ?_, segment, running, slots, engine, route, position, ?_⟩
    · exact (congrArg (·.lastLong) align).trans formed
    · exact congrArg (·.trigger) align
    · exact congrArg (·.triggerTime) align
    · exact congrArg (·.short) align
    · exact congrArg (·.long) align
    · exact congrArg (·.untwistDue) align
    · rw [recs Cond.untwistDue (by decide)]
      exact present due
    · exact Changes.of_ev (closes.mono.trans rest) ((finishEvent_ev s _).trans between.2.symm)
  case deferred =>
    have closes := closes_longClosed (w := w) quiet judged
    rw [← closes.may w.motion] at unmet
    rw [closeLong_of_longClosed (.inr held), autoTrigger_of_unmet unmet] at runs
    generalize s.longClosed w = u at *
    obtain ⟨quiet, align, present, -, closes⟩ := closes
    rw [finishEvent_quiet quiet] at runs
    rw [falls] at align
    refine ⟨_, runs, align, present falls, Changes.of_ev ?_ between.2.symm⟩
    exact (closes.mono.trans (changes_drive u).mono).trans (changes_revs _ _).mono
  case untwists =>
    obtain ⟨-, idle, -⟩ := mayAlign_iff may
    rw [closeLong_of_untwist falls light may] at runs
    obtain ⟨align, segment, running, -, engine, route, -, -, rest⟩ :=
      aligns_runAlignment (s := s.longReopened w) (r := 1) (slot := 1) (trigger := .untwist) (kind := .twist)
        (target := untwistTarget s.yaw.twist) (direction := .shortest) (speed := .slow) quiet idle staggers s
    refine ⟨_, runs, ?_, ?_, ?_, segment, running, engine, route, ?_⟩
    · exact congrArg (·.lastLong) align
    · exact congrArg (·.trigger) align
    · exact congrArg (·.triggerTime) align
    · exact Changes.of_ev (reopens.mono.trans rest) ((finishEvent_ev s _).trans between.2.symm)
  case untold =>
    rw [closeLong_of_deferred falls (.inr may)] at runs
    obtain ⟨lastLong, untwistDue, present⟩ := defers_finishEvent (s.longReopened w) w.mean
      (s.setting Setting.longThreshold) w.motion s
    exact ⟨_, runs, lastLong, untwistDue, present⟩

end Sys2Proof.Machine
end
